-- ==== Sys2Proof/Word.lean ====
section
/-! DEFINITION. The words the spec speaks of: bytes, station addresses, session ids. -/

namespace Sys2Proof

/-- One byte of the berth link, of a sample record or of the record memory. -/
abbrev Byte := BitVec 8

/-- A station address as an identifier byte carries it (13.3): 4 bits. -/
abbrev Addr := BitVec 4

/-- A session id (R88): 32 bits, 0 meaning none where a frame or record carries it. -/
abbrev SessionId := BitVec 32

end Sys2Proof
end

