-- ==== Sys2Proof/Syntax.lean ====
section
/-! DEFINITION. The commands: one constructor per row of spec/opcode_table.json, in the table's order. Operands carry
what comes from outside the part (log 4). -/

namespace Sys2Proof

/-- One command of the table. The docstrings name the row's rule. -/
inductive Instr where
  /-- R85, R86: RST_N ends; the straps and the line levels CC_AUX (closed), SB_AUX (closed), TRIP_IN (asserted) as sampled. -/
  | coldReset (addr : Addr) (rating : BitVec 2) (linkRate ccAux sbAux tripIn : Bool)
  /-- R87: RESTART_N is asserted. -/
  | warmReset
  /-- R87: RESTART_N ends. -/
  | warmResetEnd
  /-- R173: TRIP_IN becomes asserted. -/
  | tripInAsserted
  /-- R115: CC_AUX takes the level given (true: closed). -/
  | ccAuxChange (closed : Bool)
  /-- R125: SB_AUX changes from open to closed. -/
  | sbAuxClose
  /-- R94, R126: SB_AUX changes from closed to open. -/
  | sbAuxOpen
  /-- R19: a carrier period starts. `workFirst`: where the period just ended is unsettled, whether the Reference
  Generator's work at this start is taken before that period's sample (R19 and R36 leave the order open). -/
  | carrierPeriodStart (workFirst : Bool)
  /-- R2: the bytes clocked from the converter after this period's strobe, the last of them the record's 25th. -/
  | recordComplete (bytes : List Byte)
  /-- R2: the first byte that is not all ones. -/
  | startMarkerWrong (first : Byte)
  /-- R17: the out-of-band timer reaches 500 ms. -/
  | busFrequencyTimer
  /-- R42: the end of a sync byte: the length of its dominant run in part clocks, and whether the five bits after it
  all read recessive. -/
  | syncError (run : Nat) (tailRecessive : Bool)
  /-- R43: a stop bit sampled dominant. -/
  | stopBitDominant
  /-- R43: the length byte received. -/
  | lengthAbove32 (length : Byte)
  /-- R41: a partial frame ended by a break (true) or by 11 recessive bit times (false). -/
  | partialFrameDiscarded (byBreak : Bool)
  /-- R44: the bytes of a finished frame, from identifier byte 1 to the second CRC byte. -/
  | badFrame (bytes : List Byte)
  /-- R45: one second of the bad-frame window has passed. -/
  | badFrameWindow
  /-- R46: the link is idle and a frame is pending. -/
  | transmitStart
  /-- R47: dominant read during delimiter or sync byte where recessive was sent. -/
  | alignmentDropout
  /-- R48: dominant read where recessive was sent in the identifier. -/
  | arbitrationLost
  /-- R49: a bit error. -/
  | bitError
  /-- R50: the own frame reaches the end of its CRC without a bit error. -/
  | ownFrameSeen
  /-- R51: one second has passed without another frame under the own address. -/
  | duplicateAddressTimer
  /-- R64: a good STATUS frame of class 3 ends on the pair. -/
  | statusReceived (sender : Addr) (payload : List Byte)
  /-- R65: a good CONT_STATUS frame of class 4 ends on the pair. -/
  | contStatusReceived (sender : Addr) (payload : List Byte)
  /-- R66: a good TRIP_NOTICE frame of class 0 ends on the pair. -/
  | tripNoticeReceived (sender : Addr) (payload : List Byte)
  /-- R68: a good SHIP_STATUS frame of class 2 from address 14 ends on the pair. -/
  | shipStatusReceived (payload : List Byte)
  /-- R106: a good CLAIM frame of class 2 ends on the pair. -/
  | claimReceived (sender : Addr) (payload : List Byte)
  /-- R89: a REQUEST of kind PREPARE: target, request number, parameter bytes. -/
  | prepare (target number : Byte) (params : List Byte)
  /-- R117: a REQUEST of kind SHIP_SYNC. -/
  | shipSync (target number : Byte) (params : List Byte)
  /-- R136: a REQUEST of kind RETURN. -/
  | returnLoad (target number : Byte) (params : List Byte)
  /-- R95: a REQUEST of kind DISCONNECT. -/
  | disconnect (target number : Byte) (params : List Byte)
  /-- R101: a REQUEST of kind MARK. -/
  | mark (target number : Byte) (params : List Byte)
  /-- R155: a REQUEST of kind READ_METER. -/
  | readMeter (target number : Byte) (params : List Byte)
  /-- R177: a REQUEST of kind CLEAR. -/
  | clear (target number : Byte) (params : List Byte)
  /-- R103: a REQUEST of kind READ_LOG. -/
  | readLog (target number : Byte) (params : List Byte)
  /-- R159: a REQUEST of kind CONFIG_STORE. -/
  | configStore (target number : Byte) (params : List Byte)
  /-- R181: a REQUEST by its whole payload, too short or of an unknown kind. -/
  | malformedRequest (payload : List Byte)
  /-- R56: the 20 ms cadence timer expires. -/
  | cadenceExpiry
  /-- R67: the age of the entry of this address passes 60 ms. -/
  | peerEntryStale (addr : Addr)
  /-- R67: the age of the entry of this address reaches 500 ms. -/
  | peerEntryRemoved (addr : Addr)
  /-- R69: the ship record's age exceeds 300 ms. -/
  | shipRecordStale
  /-- R73: the 1 ms sharing tick expires. -/
  | sharingTick
  /-- R79: the 10 ms restoration tick expires. -/
  | restorationTick
  /-- R105: the settle timer reaches 200 ms. -/
  | settleTimerExpiry
  /-- R105: the free entries have risen after a CLAIM was discarded on a full queue. -/
  | claimResubmit
  /-- R108: the claim time is 3 s past. -/
  | claimExpiry
  /-- R108: the energise timer reaches 3 s. -/
  | energiseTimerExpiry
  /-- R111: the join dwell timer reaches the join dwell. -/
  | joinDwellComplete
  /-- R112: the join time limit expires. -/
  | joinTimeLimitExpiry
  /-- R114: the 150 ms confirmation window ends. -/
  | confirmationWindowEnd
  /-- R121: the ship dwell timer reaches the ship dwell. -/
  | shipDwellComplete
  /-- R124: the sync time limit expires. -/
  | syncTimeLimitExpiry
  /-- R128: the 1 ms handover tick expires. -/
  | handoverTick
  /-- R133: the stale timer reaches 2 s. -/
  | staleTimerExpiry
  /-- R135: the handover timer expires in HANDOVER_IN. -/
  | handoverTimerExpiryIn
  /-- R141: the handover timer expires in HANDOVER_OUT. -/
  | handoverTimerExpiryOut
  /-- R138: the part timer has run for 1 s. -/
  | partTimerExpiry
  /-- R140: the trip timer reaches 500 ms. -/
  | tripTimerExpiry
  /-- R146: the one-second interval tick expires. -/
  | intervalTick
  /-- R151: interval elapsed has reached the interval length plus 60 s. -/
  | intervalSelfClose
  /-- R96: CLOSING is judged. -/
  | closingEnd
  /-- R163: the IDLE writer takes work. -/
  | writerTakeWork
  /-- R170: the memory port is granted. -/
  | memoryPortGrant
  /-- R163: a page program's busy clears. -/
  | programComplete
  /-- R163: a sector erase's busy clears. -/
  | eraseComplete
  /-- R163: a program or erase is still busy at its timeout. -/
  | busyTimeout
  /-- R164: the 100 ms status read of a FAULTED writer; `busy`: what the memory reports. -/
  | faultedStatusRead (busy : Bool)
  /-- R158: the 32 bytes of the configuration record have been read; `busy`: the memory was still busy with an
  operation from before the reset. -/
  | configLoadComplete (busy : Bool)
  /-- R165: the memory is still busy 500 ms into the recovery. -/
  | recoveryBusyTimeout
  /-- R166: busy is clear and the heads of the log have been read. -/
  | logRecoveryComplete
  /-- R167: busy is clear after a warm reset. -/
  | warmResetSettle
  /-- R167: the memory is still busy 500 ms after a warm reset. -/
  | warmResetBusyTimeout
  /-- R168: a chunk of the readout has been read. -/
  | readoutChunk
  /-- R168: the final frame of the readout. -/
  | readoutEndFrame
  /-- R85: RST_N goes low; `powerLost`: the record memory loses its supply as well. -/
  | rstNAsserted (powerLost : Bool)
  /-- R173: TRIP_IN returns to its released level. -/
  | tripInReleased
  /-- R40: the pair has been recessive for 11 nominal bit times. -/
  | linkIdle
  /-- R41: a dominant run reaches 11 bit times. -/
  | breakDetected
  /-- R42: the end of a sync byte, with the operands of SYNC_ERROR. -/
  | syncAccepted (run : Nat) (tailRecessive : Bool)
  /-- R44: a good frame ends on the pair: class, sender, kind code, payload. -/
  | frameDropped (cls sender : BitVec 4) (kind : Byte) (payload : List Byte)
  deriving DecidableEq, Repr

end Sys2Proof
end

