-- ==== Sys2Proof/Decode.lean ====
section
/-! DEFINITION. The commands that a word spells by the table's bits. No row of spec/opcode_table.json gives bits
(no row has "fixed" or "fields" entries): commands are events, not words. -/

namespace Sys2Proof

/-- The command that `nbits` bits with value `w` spell by the opcode table: no row gives bits, so none. -/
def decodeTableWord (_nbits _w : Nat) : Option Instr := none

end Sys2Proof
end

