-- ==== Sys2Proof/Config.lean ====
section
/-! DEFINITION. The values the spec leaves free (opaque constants: nothing can evaluate them). -/

namespace Sys2Proof.Config

/-- What the record memory returns for the byte at an address when it is read while busy: R157 says only that it
carries out no read then. Arguments: the occasion (`State.freeCount`) and the byte address. Log 11. -/
opaque busyReadByte : Nat → Nat → BitVec 8

/-- The bits that a program or erase cut off by a power loss left undone at a byte address: 1 marks a bit the
operation had not yet changed. Arguments: the occasion (`State.freeCount`) and the byte address. Log 11. -/
opaque tornBits : Nat → Nat → BitVec 8

end Sys2Proof.Config
end

