-- ==== Sys2Proof/Machine/State.lean ====
section
/-! DEFINITION. The state of the station, block by block (00, block overview), and the state after reset. Plain data. -/

namespace Sys2Proof.Machine

/-- A timer: the time it started (or last expired), in carrier periods; none while it is stopped or at zero (log 1). -/
abbrev Timer := Option Nat

/-- The twelve station states (R84). -/
inductive StationState where
  | starting | invalid | standby | prepared | joining | online | shipSync | handoverIn | supplying | handoverOut
  | closing | tripped
  deriving DecidableEq, Repr

/-- The eighteen held conditions (R172), in the order of their codes (13.1). -/
inductive Condition where
  | overcurrent | dcFault | measurementLost | tripInput | contactorFail | duplicateAddress | busFrequency | linkTxFail
  | recordStoreFault | shipBreakerFail | syncTimeout | handoverAborted | energiseFailed | linkNoisy | linkOverrun
  | configAdjusted | markLate | restarted
  deriving DecidableEq, Repr

/-- Which reset line is held low (R85, R87). -/
inductive ResetPhase where
  | rstLow | restartLow | run
  deriving DecidableEq, Repr

/-! ### Sample Port -/

/-- The contents of a sample record (1.1, 13.2): the sequence number, the ten channels and their saturation flags. -/
structure Sample where
  seq : Byte
  ia : BitVec 16
  ib : BitVec 16
  ic : BitVec 16
  vmAb : BitVec 16
  vmBc : BitVec 16
  vbAb : BitVec 16
  vbBc : BitVec 16
  vsAb : BitVec 16
  vsBc : BitVec 16
  vdc : BitVec 16
  flags : BitVec 10
  deriving DecidableEq, Repr

/-- The Sample Port (R1 to R7). -/
structure Spt where
  strobes : Bool
  index : Option Nat
  settled : Bool
  runCount : Nat
  lastGood : Option Sample
  expected : Option Byte
  saturated : Bool
  deriving DecidableEq, Repr

/-- SPT after a reset and on entry to STANDBY (R7). -/
def Spt.initial : Spt :=
  { strobes := false, index := none, settled := true, runCount := 0, lastGood := none, expected := none,
    saturated := false }

/-! ### Measurement Unit -/

/-- A tracker's cycle accumulator (R9): the sum of v_ab squared and the count N of samples. -/
structure CycleSum where
  v2 : Nat
  n : Nat
  deriving DecidableEq, Repr

/-- The Measurement Unit (R8 to R12): accumulators of berth bus (B), ship bus (S) and module output (M), published
values, and whether the latest new sample meets each check. -/
structure Msu where
  sumB : CycleSum
  sumS : CycleSum
  sumM : CycleSum
  sumP : Int
  sumQ : Int
  p : Int
  q : Int
  vB : Int
  vS : Int
  vM : Int
  vdc : Option Int
  ocLive : Bool
  dcLive : Bool
  deriving DecidableEq, Repr

/-- An empty cycle accumulator. -/
def CycleSum.empty : CycleSum := { v2 := 0, n := 0 }

/-- MSU after a cold reset (R18). -/
def Msu.initial : Msu :=
  { sumB := .empty, sumS := .empty, sumM := .empty, sumP := 0, sumQ := 0, p := 0, q := 0, vB := 0, vS := 0, vM := 0,
    vdc := none, ocLive := false, dcLive := false }

/-- MSU at a warm reset and on entry to STANDBY: the starting values of R18. Whether the latest new sample met each check is
none of them: it stands until the strobes start again (R12, log 37). -/
def Msu.stopped (m : Msu) : Msu := { Msu.initial with ocLive := m.ocLive, dcLive := m.dcLive }

/-- MSU as the strobes start: no new sample exists since (R12). -/
def Msu.strobed (m : Msu) : Msu := { m with ocLive := false, dcLive := false }

/-! ### Bus Trackers -/

/-- A bus tracker (1.3): previous sample and its index, armed flag, last crossing time, up to four periods (oldest
first) and the frequency in mHz, none while invalid. -/
structure Tracker where
  prev : Option (Int × Nat)
  armed : Bool
  tLast : Option Int
  periods : List Int
  freq : Option Int
  deriving DecidableEq, Repr

/-- A tracker's starting value (R18). -/
def Tracker.initial : Tracker := { prev := none, armed := false, tLast := none, periods := [], freq := none }

/-- The bus states (R15). -/
inductive BusState where
  | dead | live | abnormal
  deriving DecidableEq, Repr

/-- The Bus Trackers (R13 to R17). -/
structure Btr where
  berth : Tracker
  ship : Tracker
  module : Tracker
  berthState : BusState
  shipState : BusState
  dphiShip : Option Int
  dphiJoin : Option Int
  slip : Option Int
  oob : Timer
  oobDone : Bool
  deriving DecidableEq, Repr

/-- BTR after a reset and on entry to STANDBY (R18). -/
def Btr.initial : Btr :=
  { berth := .initial, ship := .initial, module := .initial, berthState := .dead, shipState := .dead, dphiShip := none,
    dphiJoin := none, slip := none, oob := none, oobDone := false }

/-! ### Reference Generator and Modulator -/

/-- The Reference Generator (2.1 to 2.6): frequencies in µHz, amplitudes in ‰. -/
structure Rfg where
  fRef : Int
  fDroop : Int
  vDroop : Int
  theta : BitVec 32
  vRef : Int
  m : Int
  k : Nat
  freqClamped : Bool
  rateLimited : Bool
  overmod : Bool
  deriving DecidableEq, Repr

/-- RFG after a reset and on entry to STANDBY (R37). -/
def Rfg.initial : Rfg :=
  { fRef := 50000000, fDroop := 0, vDroop := 0, theta := 0, vRef := 0, m := 0, k := 0, freqClamped := false,
    rateLimited := false, overmod := false }

/-- The gate states (R33). -/
inductive GateState where
  | gatesOff | softStart | running
  deriving DecidableEq, Repr

/-- The Modulator (R33, R34): gate state, compare values in force, and those of the period before. -/
structure Mod where
  gate : GateState
  ca : Int
  cb : Int
  cc : Int
  pa : Int
  pb : Int
  pc : Int
  deriving DecidableEq, Repr

/-- MOD with the gates off (R36, R37). -/
def Mod.off : Mod := { gate := .gatesOff, ca := 625, cb := 625, cc := 625, pa := 625, pb := 625, pc := 625 }

/-! ### Link Controller -/

/-- The frame kinds of R39. -/
inductive FrameKind where
  | tripNotice | request | reply | claim | shipStatus | status | contStatus | intervalReport | logData
  deriving DecidableEq, Repr

/-- A frame as a block submits it: its kind and its payload; class and sender follow (R39). -/
structure Frame where
  kind : FrameKind
  payload : List Byte
  deriving DecidableEq, Repr

/-- An entry of the transmit queue (R52). -/
structure TxEntry where
  frame : Frame
  retry : Nat
  inAttempt : Bool
  deriving DecidableEq, Repr

/-- How far the transmitter has come on the pair (R47 to R49), in part clocks: in its break, since it began; past it, waiting
without driving for the pair to go recessive; sending, since the delimiter began; in the rest of a bit in which it lost the
arbitration, or met a bit error, with the level it sends there; in its abort break, since that began. -/
inductive TxPlace where
  | brk (clocks : Nat)
  | waiting
  | sending (clocks : Nat)
  | losing (left : Nat)
  | failing (left : Nat) (level : Bool)
  | aborting (clocks : Nat)
  deriving DecidableEq, Repr

/-- The attempt in progress (R46, R52): the copy of the frame, its bytes from sync byte to CRC, whether the entry has been
given a new frame meanwhile, how far it has come (R47 to R49), at first the start of its break, and how many bad frames the
receiver has met in it, which are counted at its end unless it is aborted (R41, R45, log 27). -/
structure Attempt where
  frame : Frame
  bytes : List Byte
  replaced : Bool
  place : TxPlace := .brk 0
  bad : Nat := 0
  deriving DecidableEq, Repr

/-- The receive states (R41). -/
inductive RxState where
  | idle | dominantRun | hunt | brk | delimit | sync | frame
  deriving DecidableEq, Repr

/-- What the receiver follows of the pair from part clock to part clock (R40 to R43): the level (true: dominant) and how
many clocks it has lasted, the recessive clocks counted toward idle, the clocks since the falling edge of the byte under way
(none between bytes), its bits sampled so far, start bit first, and the bytes of the frame so far. `heard`: the levels have
just led to a command of the receiver, which is still to be taken (log 2). -/
structure Ear where
  dominant : Bool
  lasted : Nat
  quiet : Nat
  clock : Option Nat
  bits : List Bool
  bytes : List Byte
  heard : Bool
  deriving DecidableEq, Repr

/-- Nothing followed yet: the state from which LKC hears the pair once it is enabled (R40). -/
def Ear.initial : Ear := { dominant := false, lasted := 0, quiet := 0, clock := none, bits := [], bytes := [], heard := false }

/-- The Link Controller (chapter 3). `rxRun`: the measured sync run in part clocks, five measured bit times (R42). -/
structure Lkc where
  enabled : Bool
  linkIdle : Bool
  rx : RxState
  rxRun : Nat
  ear : Ear
  queue : List TxEntry
  attempt : Option Attempt
  lde : Bool
  ownAbort : Bool
  badCount : Nat
  window : Timer
  dup : Timer
  deriving DecidableEq, Repr

/-- LKC while it is not enabled (R40, R55): an empty queue and nothing driven. The receiver is in IDLE only once the link is
idle, until then it waits as in HUNT (log 33). R55 gives the measured bit time no value: the sync run of 0 before any sync
byte is the model's choice (DESIGN CHOICE, log 33). -/
def Lkc.disabled : Lkc :=
  { enabled := false, linkIdle := false, rx := .hunt, rxRun := 0, ear := .initial, queue := [], attempt := none, lde := false,
    ownAbort := false, badCount := 0, window := none, dup := none }

/-! ### Peer View -/

/-- A peer entry (4.2). `refreshed` gives the age, `stale` the grade taken at 60 ms (R67). -/
structure Peer where
  addr : Addr
  state : StationState
  contactor : Bool
  ready : Bool
  aborted : Bool
  session : SessionId
  rating : BitVec 2
  p : Int
  q : Int
  lastSeq : Byte
  contOk : Bool
  refreshed : Nat
  stale : Bool
  deriving DecidableEq, Repr

/-- The ship record (4.3). `load` is in units of 10 kW. -/
structure ShipRecord where
  gensets : Nat
  load : Nat
  refreshed : Nat
  stale : Bool
  deriving DecidableEq, Repr

/-- The Peer View (chapter 4). -/
structure Pvw where
  cadence : Timer
  slot : Nat
  seq : Byte
  peers : List Peer
  ship : Option ShipRecord
  shipStale : Bool
  deriving DecidableEq, Repr

/-- PVW after a cold reset (R62, R72). -/
def Pvw.initial : Pvw := { cadence := none, slot := 0, seq := 0, peers := [], ship := none, shipStale := false }

/-! ### Sharing Controller -/

/-- The Sharing Controller (5.1): µHz, ppm, µHz, and the two ticks. -/
structure Shc where
  fShare : Int
  vShare : Int
  fRest : Int
  tick : Timer
  rest : Timer
  deriving DecidableEq, Repr

/-- SHC in a reset (R82). -/
def Shc.initial : Shc := { fShare := 0, vShare := 0, fRest := 0, tick := none, rest := none }

/-! ### Station State Controller -/

/-- The session context's identity fields (R88). `is60`: the nominal frequency is 60 Hz, else 50 Hz; `opened`: the
phase is OPEN, else CLOSED; `minutes`: the interval length. -/
structure Session where
  id : SessionId
  is60 : Bool
  voltage : Int
  minutes : Nat
  opened : Bool
  deriving DecidableEq, Repr

/-- The Station State Controller (chapter 6). -/
structure Ssc where
  station : StationState
  session : Option Session
  deriving DecidableEq, Repr

/-! ### Synchroniser -/

/-- The claim context (R104). -/
inductive Claim where
  | free
  | own (time : Nat)
  | foreign (claimant : Addr) (time : Nat)
  | expired
  deriving DecidableEq, Repr

/-- The Synchroniser (chapters 7 and 8). `permit`: the drive of SBP is released. `joinClosed`: the last close command was that
of the join dwell (R111), not that of an own claim seen (R106). -/
structure Syn where
  claim : Claim
  settle : Timer
  settled : Bool
  claimWait : Bool
  energise : Timer
  joinDwell : Timer
  joinFreqOk : Bool
  joinPhaseOk : Bool
  joinVoltOk : Bool
  joinLimit : Timer
  fSync : Int
  vSync : Int
  cmdClosed : Bool
  window : Timer
  confirmed : Bool
  joinClosed : Bool
  syncLimit : Timer
  advance : Option Int
  predicted : Option Int
  slipOk : Bool
  phaseOk : Bool
  voltOk : Bool
  busOk : Bool
  shipDwell : Timer
  ready : Bool
  permit : Bool
  deriving DecidableEq, Repr

/-- SYN in a cold reset (R116, R127; SBP is released while RST_N is low). -/
def Syn.initial : Syn :=
  { claim := .free, settle := none, settled := false, claimWait := false, energise := none, joinDwell := none,
    joinFreqOk := false, joinPhaseOk := false, joinVoltOk := false, joinLimit := none, fSync := 0, vSync := 0,
    cmdClosed := false, window := none, confirmed := false, joinClosed := false, syncLimit := none, advance := none,
    predicted := none, slipOk := false, phaseOk := false, voltOk := false, busOk := false, shipDwell := none,
    ready := false, permit := true }

/-! ### Handover Controller -/

/-- The Handover Controller (9.1). `pTarget` is in thousandths of ‰, `pFinal` in ‰. -/
structure Hoc where
  pTarget : Option Int
  pFinal : Option Int
  fHo : Int
  tick : Timer
  timer : Timer
  entered : Nat
  stale : Timer
  part : Timer
  trip : Timer
  tripDone : Bool
  returnArmed : Bool
  aborted : Bool
  ready : Bool
  sbtLow : Bool
  deriving DecidableEq, Repr

/-- HOC's starting values (R142, R143). -/
def Hoc.initial : Hoc :=
  { pTarget := none, pFinal := none, fHo := 0, tick := none, timer := none, entered := 0, stale := none, part := none,
    trip := none, tripDone := false, returnArmed := false, aborted := false, ready := false, sbtLow := false }

/-! ### Energy Meter -/

/-- The interval flags (R144). -/
structure IntervalFlags where
  partialIvl : Bool
  selfClosed : Bool
  gap : Bool
  final : Bool
  deriving DecidableEq, Repr

/-- The interval flags all clear. -/
def IntervalFlags.clear : IntervalFlags := { partialIvl := false, selfClosed := false, gap := false, final := false }

/-- The session meter fields (R144) and the interval tick (R146). Energies in watt-samples, closed sums in Wh. -/
structure Meter where
  sessionFwd : Nat
  sessionRev : Nat
  closedFwd : Nat
  closedRev : Nat
  number : Nat
  intervalFwd : Nat
  intervalRev : Nat
  elapsed : Nat
  tariff : Byte
  flags : IntervalFlags
  closedCount : Nat
  dropped : Nat
  trips : Nat
  handoverSeconds : Nat
  abandoned : Bool
  tick : Timer
  deriving DecidableEq, Repr

/-- The fields of a session opened at a time (R144, R146). -/
def Meter.opening (now : Nat) : Meter :=
  { sessionFwd := 0, sessionRev := 0, closedFwd := 0, closedRev := 0, number := 1, intervalFwd := 0, intervalRev := 0,
    elapsed := 0, tariff := 0, flags := .clear, closedCount := 0, dropped := 0, trips := 0, handoverSeconds := 0,
    abandoned := false, tick := some now }

/-! ### Record store -/

/-- The kinds of log records that blocks submit (R160); SECTOR_HEAD is the writer's own. -/
inductive RecordKind where
  | sessionOpen | interval | sessionClose | trip | event
  deriving DecidableEq, Repr

/-- A record as it is submitted: its kind and the bytes between header and CRC (13.4). -/
structure LogRecord where
  kind : RecordKind
  body : List Byte
  deriving DecidableEq, Repr

/-- A record in the queue (R161): with its session id and its stamp, none while unstamped. -/
structure QueuedRecord where
  record : LogRecord
  session : Option SessionId
  stamp : Option Nat
  deriving DecidableEq, Repr

/-- The writer states (R163). -/
inductive WriterState where
  | idle | programming | erasing | faulted
  deriving DecidableEq, Repr

/-- An operation of the writer (R159, R162, R165), or the failed position of a FAULTED one (R163, R164): the erase of
a sector change and the program of its head (sector, sector sequence), the program of the record at the head of the
queue (sector, offset), the erase and program of a configuration write, and the erase and program that format a log
without a head; or the recovery itself. -/
inductive WriterOp where
  | logErase (sector seq : Nat)
  | head (sector seq : Nat)
  | record (sector offset : Nat)
  | configErase
  | configProgram
  | formatErase
  | formatHead
  | recovery
  deriving DecidableEq, Repr

/-- How far the start work has come (R85, R158, R165): none once it has ended. -/
inductive StartWork where
  | none | configLoad | recovery | format
  deriving DecidableEq, Repr

/-- The Record Writer (chapter 11). -/
structure Rwr where
  queue : List QueuedRecord
  config : Option (List Byte)
  sector : Nat
  offset : Nat
  secSeq : Nat
  recSeq : Nat
  recovered : Bool
  writer : WriterState
  op : Option WriterOp
  busy : Timer
  faultBusy : Bool
  statusTick : Timer
  start : StartWork
  startTimer : Timer
  settling : Bool
  inFlight : Option WriterOp
  deriving DecidableEq, Repr

/-- RWR in a cold reset (R171). -/
def Rwr.initial : Rwr :=
  { queue := [], config := none, sector := 1, offset := 16, secSeq := 0, recSeq := 0, recovered := false,
    writer := .idle, op := none, busy := none, faultBusy := false, statusTick := none, start := .none,
    startTimer := none, settling := false, inFlight := none }

/-- Who holds the memory port (R170). An exit sequence and a status read hold it for no time that a command could see. -/
inductive PortUser where
  | writer | chunk
  deriving DecidableEq, Repr

/-- An active readout context (R168). `ended`: LKC has accepted the final LOG_DATA, and the readout ends with the
continuous-read exit. -/
structure Readout where
  sector : Nat
  next : Nat
  remaining : Nat
  ended : Bool
  deriving DecidableEq, Repr

/-- The Flash Port (R168 to R171). `exitWaits`: a continuous-read exit waits for the port. -/
structure Fpt where
  port : Option PortUser
  readout : Option Readout
  contRead : Bool
  exitWaits : Bool
  deriving DecidableEq, Repr

/-- FPT in a reset (R171). -/
def Fpt.initial : Fpt := { port := none, readout := none, contRead := false, exitWaits := false }

/-- The operation running inside the record memory (R157). -/
inductive MemOp where
  | program (addr : Nat) (data : List Byte)
  | erase (sector : Nat)
  deriving DecidableEq, Repr

/-- The record memory (R157): programmed bytes in rising order of address, the write-enable latch, continuous-read
mode, and the operation it is busy with. -/
structure Memory where
  cells : List Host.Cell
  latch : Bool
  cont : Bool
  op : Option MemOp
  deriving DecidableEq, Repr

/-- An erased, idle record memory (log 10). -/
def Memory.erased : Memory := { cells := [], latch := false, cont := false, op := none }

/-! ### Parameters in force -/

/-- The parameters of R158. Times in the table's unit; the three trip-mask settings are true for trip class. -/
structure Params where
  droop : Int
  rate : Int
  dq : Int
  ks : Int
  kq : Int
  kr : Int
  kphi : Int
  joinFreq : Int
  joinPhase : Int
  joinVolt : Int
  joinDwell : Int
  syncLimit : Int
  slipTarget : Int
  closeTime : Int
  shipSlip : Int
  shipPhase : Int
  shipVolt : Int
  shipDwell : Int
  handoverLimit : Int
  ramp : Int
  kh : Int
  partReady : Int
  quiet : Bool
  tripBus : Bool
  tripTx : Bool
  tripStore : Bool
  deriving DecidableEq, Repr

/-- The defaults of R158. -/
def Params.default : Params :=
  { droop := 1500, rate := 125, dq := 40, ks := 10, kq := 5, kr := 2, kphi := 30, joinFreq := 100, joinPhase := 1820,
    joinVolt := 50, joinDwell := 200, syncLimit := 120, slipTarget := 80, closeTime := 80, shipSlip := 50,
    shipPhase := 1456, shipVolt := 40, shipDwell := 100, handoverLimit := 180, ramp := 20, kh := 20, partReady := 30,
    quiet := false, tripBus := true, tripTx := false, tripStore := false }

/-! ### Protection Unit -/

/-- The first-cause record (R175). -/
structure FirstCause where
  cause : Condition
  state : StationState
  following : List Condition
  deriving DecidableEq, Repr

/-- The Protection Unit (chapter 12). `held` is in the order the conditions became held; `waiting` are those that
became held in this start or warm reset, in order. -/
structure Pru where
  held : List Condition
  waiting : List Condition
  first : Option FirstCause
  deriving DecidableEq, Repr

/-- PRU after a cold reset (R179). -/
def Pru.initial : Pru := { held := [], waiting := [], first := none }

/-! ### The station -/

/-- The station. `pending` is the queue of commands, `pair` the levels of the berth link at the part clocks to come (true:
dominant), `now` the clock in carrier periods, `freeCount` the occasions of free values used so far: the model's own fields. -/
structure State where
  pending : List Instr
  pair : List Bool
  now : Nat
  freeCount : Nat
  phase : ResetPhase
  addr : Addr
  rating : BitVec 2
  linkRate : Bool
  ccAux : Bool
  sbAux : Bool
  tripIn : Bool
  spt : Spt
  msu : Msu
  btr : Btr
  rfg : Rfg
  mod : Mod
  lkc : Lkc
  pvw : Pvw
  shc : Shc
  ssc : Ssc
  syn : Syn
  hoc : Hoc
  emt : Option Meter
  rwr : Rwr
  fpt : Fpt
  mem : Memory
  params : Params
  pru : Pru
  deriving DecidableEq, Repr

/-- The station held in cold reset (R85): every block at its cold-reset value, the straps and line levels not yet
sampled (log 3), the record memory erased (log 10). COLD_RESET ends the reset. -/
def State.reset : State :=
  { pending := [], pair := [], now := 0, freeCount := 0, phase := .rstLow, addr := 0, rating := 0, linkRate := false,
    ccAux := false, sbAux := false, tripIn := false, spt := .initial, msu := .initial, btr := .initial,
    rfg := .initial, mod := .off, lkc := .disabled, pvw := .initial, shc := .initial,
    ssc := { station := .starting, session := none }, syn := .initial, hoc := .initial, emt := none,
    rwr := .initial, fpt := .initial, mem := .erased, params := .default, pru := .initial }

/-- The faults: none. The spec names no event that stops the part (INVENTORY.md, Faults), so no command raises one. -/
inductive Fault where
  deriving DecidableEq, Repr

/-- The refusals. -/
inductive Refusal where
  /-- Raised by `exec` alone, for a command that has no meaning yet; safe. No arm uses it. -/
  | notModelled (mnemonic : String)
  deriving DecidableEq, Repr

end Sys2Proof.Machine
end

