-- ==== Sys2Proof/Machine/Flags.lean ====
section
/-! DEFINITION. Conditions, flags and the sets of station states the rules speak of: classes (R172), the live set and
its causes (R177), the held summary (R178), the permit rule (R122), ages (R67, R69). -/

namespace Sys2Proof.Machine

/-! ### Sets of station states -/

/-- The broadcasting states (R56). -/
def StationState.broadcasting : StationState → Bool
  | .starting => false
  | .invalid => false
  | .standby => false
  | .prepared => true
  | .joining => true
  | .online => true
  | .shipSync => true
  | .handoverIn => true
  | .supplying => true
  | .handoverOut => true
  | .closing => true
  | .tripped => true

/-- The ship-connected states (R84). -/
def StationState.shipConnected : StationState → Bool
  | .handoverIn => true
  | .supplying => true
  | .handoverOut => true
  | _ => false

/-- The states in which the station is on the berth bus: ONLINE, SHIP_SYNC and the ship-connected states (R17, R70, R78). -/
def StationState.onBus : StationState → Bool
  | .online => true
  | .shipSync => true
  | st => st.shipConnected

/-- The states whose contexts LKC serves in listening mode (R54). -/
def StationState.listening : StationState → Bool
  | .starting => true
  | .standby => true
  | _ => false

/-! ### Classes of conditions -/

/-- Whether a condition is trip class, under the trip mask in force (R172). -/
def tripClass (p : Params) : Condition → Bool
  | .overcurrent => true
  | .dcFault => true
  | .measurementLost => true
  | .tripInput => true
  | .contactorFail => true
  | .duplicateAddress => true
  | .busFrequency => p.tripBus
  | .linkTxFail => p.tripTx
  | .recordStoreFault => p.tripStore
  | .shipBreakerFail => false
  | .syncTimeout => false
  | .handoverAborted => false
  | .energiseFailed => false
  | .linkNoisy => false
  | .linkOverrun => false
  | .configAdjusted => false
  | .markLate => false
  | .restarted => false

/-- A trip-class condition is held (R172, mark 15 of R178). -/
def tripHeld (s : State) : Bool := s.pru.held.any (tripClass s.params)

/-- A trip can be decided: the part runs and its state is other than STARTING, INVALID and TRIPPED (R174). -/
def canTrip (s : State) : Bool :=
  s.phase == .run && s.ssc.station != .starting && s.ssc.station != .invalid && s.ssc.station != .tripped

/-! ### Ages -/

/-- A peer entry is fresh: its age is 60 ms or less, 480 carrier periods (R67). -/
def Peer.fresh (now : Nat) (e : Peer) : Bool := !e.stale && decide (now - e.refreshed ≤ 480)

/-- The ship record is fresh: present, its age 300 ms or less, 2,400 carrier periods (R69). -/
def shipFresh (s : State) : Bool :=
  match s.pvw.ship with
  | none => false
  | some r => !r.stale && decide (s.now - r.refreshed ≤ 2400)

/-! ### Session values -/

/-- The id of the session context the station holds, none while it holds none (R88). -/
def sessionId (s : State) : Option SessionId := s.ssc.session.map (·.id)

/-- The session nominal frequency f_base in µHz (R88). Without a context nothing reads it; 50 Hz then (log 12). -/
def fBase (s : State) : Int :=
  match s.ssc.session with
  | some c => if c.is60 then 60000000 else 50000000
  | none => 50000000

/-- The session nominal voltage V_base in ‰ (R88). Without a context nothing reads it; 1000 then (log 12). -/
def vBase (s : State) : Int :=
  match s.ssc.session with
  | some c => c.voltage
  | none => 1000

/-! ### The berth frequency band -/

/-- The berth frequency is out of band: invalid, or more than 5% from the session nominal (R17). -/
def outOfBand (s : State) : Bool :=
  match s.btr.berth.freq with
  | none => true
  | some f => decide (f < fBase s / 1000 * 95 / 100 ∨ fBase s / 1000 * 105 / 100 < f)

/-! ### The permit line -/

/-- R122: the permit drive is released when the contactor is commanded open and reports open, or in SHIP_SYNC with
ready set; low in any other case. -/
def permitRule (s : State) : Bool :=
  (!s.syn.cmdClosed && !s.ccAux) || (s.ssc.station == .shipSync && s.syn.ready)

/-! ### Causes -/

/-- Whether the cause of a condition is live (R177). -/
def causeLive (s : State) : Condition → Bool
  | .overcurrent => s.msu.ocLive
  | .dcFault => s.msu.dcLive
  | .measurementLost => decide (3 ≤ s.spt.runCount)
  | .tripInput => s.tripIn
  | .contactorFail => s.ccAux != s.syn.cmdClosed && s.syn.window.isNone
  | .duplicateAddress =>
      match s.lkc.dup with
      | none => false
      | some t => decide (s.now - t < 8000)
  | .busFrequency => s.ssc.station.onBus && outOfBand s
  | .linkTxFail => false
  | .recordStoreFault => s.rwr.faultBusy
  | .shipBreakerFail => s.hoc.sbtLow && s.sbAux && s.hoc.tripDone
  | .syncTimeout => false
  | .handoverAborted => false
  | .energiseFailed => false
  | .linkNoisy => decide (16 ≤ s.lkc.badCount)
  | .linkOverrun => false
  | .configAdjusted => false
  | .markLate => false
  | .restarted => false

/-! ### The held summary and the live flags -/

/-- The number that bits given from bit 0 upward stand for. -/
def bitsToNat : List Bool → Nat
  | [] => 0
  | b :: bs => b.toNat + 2 * bitsToNat bs

/-- Whether a condition is held. -/
def isHeld (s : State) (c : Condition) : Bool := decide (c ∈ s.pru.held)

/-- The fifteen marks of R178, mark 1 first. -/
def heldMarks (s : State) : List Bool :=
  [ isHeld s .overcurrent || isHeld s .dcFault,
    isHeld s .measurementLost,
    isHeld s .tripInput,
    isHeld s .contactorFail,
    isHeld s .duplicateAddress,
    isHeld s .busFrequency,
    isHeld s .linkTxFail || isHeld s .linkNoisy || isHeld s .linkOverrun,
    isHeld s .recordStoreFault,
    isHeld s .shipBreakerFail,
    isHeld s .syncTimeout || isHeld s .energiseFailed,
    isHeld s .handoverAborted,
    isHeld s .configAdjusted,
    isHeld s .markLate,
    isHeld s .restarted,
    tripHeld s ]

/-- WRITER_BUSY: the writer is in PROGRAMMING or ERASING (R161). -/
def writerBusy (s : State) : Bool := s.rwr.writer == .programming || s.rwr.writer == .erasing

/-- The eight live conditions that a CONT_STATUS carries, bit 0 first (13.1). -/
def liveMarks (s : State) : List Bool :=
  [ s.rfg.overmod, s.rfg.freqClamped, s.rfg.rateLimited, s.spt.saturated, s.pvw.shipStale,
    s.btr.berthState == .live, s.btr.shipState == .live, writerBusy s ]

/-- READOUT_ACTIVE (R168). -/
def readoutActive (s : State) : Bool := s.fpt.readout.isSome

/-! ### What triggers a STATUS -/

/-- The seven items of R57: station state, contactor closed, permit released, ready-to-part, return armed, aborted,
claim held. -/
def announced (s : State) : StationState × Bool × Bool × Bool × Bool × Bool × Bool :=
  (s.ssc.station, s.ccAux, s.syn.permit, s.hoc.ready, s.hoc.returnArmed, s.hoc.aborted,
    match s.syn.claim with
    | .own _ => true
    | _ => false)

end Sys2Proof.Machine
end

