-- ==== Sys2Proof/Machine/Operands.lean ====
section
/-! DEFINITION. Layouts: byte order, CRCs, codes, frame payloads and log records (chapter 13, R3, R39, R180 to R182). -/

namespace Sys2Proof.Machine

/-! ### Byte order (R180) -/

/-- `n` in `width` bytes, high byte first; a value too large for the field is taken modulo the field. -/
def beBytes : Nat → Nat → List Byte
  | 0, _ => []
  | width + 1, n => BitVec.ofNat 8 (n / 256 ^ width) :: beBytes width n

/-- `n` in `width` bytes, high byte first, saturated at the field's greatest value (R180, log 18). -/
def satBytes (width n : Nat) : List Byte := beBytes width (min n (256 ^ width - 1))

/-- A signed value in two bytes, two's complement (R180). -/
def sBytes (i : Int) : List Byte := beBytes 2 (BitVec.ofInt 16 i).toNat

/-- The number that bytes stand for, high byte first. -/
def beNat (bs : List Byte) : Nat := bs.foldl (fun acc b => acc * 256 + b.toNat) 0

/-- The signed number that bytes stand for in 16 bits. -/
def beInt16 (bs : List Byte) : Int := (BitVec.ofNat 16 (beNat bs)).toInt

/-- `len` bytes of a byte list from an offset, 0 where the list has none. -/
def field (bs : List Byte) (offset len : Nat) : List Byte := (List.range len).map fun i => bs.getD (offset + i) 0

/-- The number in `len` bytes from an offset. -/
def fieldNat (bs : List Byte) (offset len : Nat) : Nat := beNat (field bs offset len)

/-! ### CRCs -/

/-- One byte into the CRC-8 register: generator x⁸+x²+x+1, most significant bit first (R3). -/
def crc8Byte (r b : Byte) : Byte :=
  (List.range 8).foldl (fun x _ => if x.msb then (x <<< 1) ^^^ 0x07#8 else x <<< 1) (r ^^^ b)

/-- The CRC-8 of R3: the register starts at zero. -/
def crc8 (bs : List Byte) : Byte := bs.foldl crc8Byte 0

/-- One byte into the CRC-16 register: generator x¹⁶+x¹²+x⁵+1, most significant bit first (R39). -/
def crc16Byte (r : BitVec 16) (b : Byte) : BitVec 16 :=
  (List.range 8).foldl (fun x _ => if x.msb then (x <<< 1) ^^^ 0x1021#16 else x <<< 1) (r ^^^ (b.setWidth 16 <<< 8))

/-- The CRC-16 of R39: the register starts at 0xFFFF. -/
def crc16 (bs : List Byte) : BitVec 16 := bs.foldl crc16Byte 0xFFFF#16

/-- Bytes with their CRC-16 after them, high byte first (R39, R160). -/
def withCrc16 (bs : List Byte) : List Byte := bs ++ beBytes 2 (crc16 bs).toNat

/-! ### Codes (13.1, 13.4) -/

/-- The code of a station state. -/
def StationState.code : StationState → Nat
  | .starting => 1
  | .invalid => 2
  | .standby => 3
  | .prepared => 4
  | .joining => 5
  | .online => 6
  | .shipSync => 7
  | .handoverIn => 8
  | .supplying => 9
  | .handoverOut => 10
  | .closing => 11
  | .tripped => 12

/-- The station state of a code, none outside the table. -/
def StationState.ofCode : Nat → Option StationState
  | 1 => some .starting
  | 2 => some .invalid
  | 3 => some .standby
  | 4 => some .prepared
  | 5 => some .joining
  | 6 => some .online
  | 7 => some .shipSync
  | 8 => some .handoverIn
  | 9 => some .supplying
  | 10 => some .handoverOut
  | 11 => some .closing
  | 12 => some .tripped
  | _ => none

/-- The code of a condition. -/
def Condition.code : Condition → Nat
  | .overcurrent => 1
  | .dcFault => 2
  | .measurementLost => 3
  | .tripInput => 4
  | .contactorFail => 5
  | .duplicateAddress => 6
  | .busFrequency => 7
  | .linkTxFail => 8
  | .recordStoreFault => 9
  | .shipBreakerFail => 10
  | .syncTimeout => 11
  | .handoverAborted => 12
  | .energiseFailed => 13
  | .linkNoisy => 14
  | .linkOverrun => 15
  | .configAdjusted => 16
  | .markLate => 17
  | .restarted => 18

/-- The eighteen conditions in the order of their codes. -/
def Condition.all : List Condition :=
  [ .overcurrent, .dcFault, .measurementLost, .tripInput, .contactorFail, .duplicateAddress, .busFrequency, .linkTxFail,
    .recordStoreFault, .shipBreakerFail, .syncTimeout, .handoverAborted, .energiseFailed, .linkNoisy, .linkOverrun,
    .configAdjusted, .markLate, .restarted ]

/-- The code of a bus state in an EVENT record (13.4). -/
def BusState.code : BusState → Nat
  | .dead => 1
  | .live => 2
  | .abnormal => 3

/-- The code of a frame kind (R39). -/
def FrameKind.code : FrameKind → Nat
  | .tripNotice => 0x01
  | .request => 0x10
  | .reply => 0x11
  | .claim => 0x20
  | .shipStatus => 0x21
  | .status => 0x30
  | .contStatus => 0x31
  | .intervalReport => 0x40
  | .logData => 0x50

/-- The priority class of a frame kind (R39). -/
def FrameKind.cls : FrameKind → Nat
  | .tripNotice => 0
  | .request => 1
  | .reply => 1
  | .claim => 2
  | .shipStatus => 2
  | .status => 3
  | .contStatus => 4
  | .intervalReport => 5
  | .logData => 6

/-- The frame kind of a code, none outside the table. -/
def FrameKind.ofCode : Nat → Option FrameKind
  | 0x01 => some .tripNotice
  | 0x10 => some .request
  | 0x11 => some .reply
  | 0x20 => some .claim
  | 0x21 => some .shipStatus
  | 0x30 => some .status
  | 0x31 => some .contStatus
  | 0x40 => some .intervalReport
  | 0x50 => some .logData
  | _ => none

/-- The kind code of a log record (13.4). -/
def RecordKind.code : RecordKind → Nat
  | .sessionOpen => 0x02
  | .interval => 0x03
  | .sessionClose => 0x04
  | .trip => 0x05
  | .event => 0x06

/-- The size of a record by its kind code, none where the kind is unknown (R160, R182). -/
def recordSize : Nat → Option Nat
  | 0x01 => some 16
  | 0x02 => some 32
  | 0x03 => some 32
  | 0x04 => some 48
  | 0x05 => some 48
  | 0x06 => some 16
  | _ => none

/-! ### The link envelope (R39, 13.3) -/

/-- The bytes from identifier byte 1 to the end of the payload. -/
def Frame.covered (addr : Addr) (f : Frame) : List Byte :=
  BitVec.ofNat 8 (f.kind.cls * 16 + addr.toNat) :: BitVec.ofNat 8 f.kind.code ::
    BitVec.ofNat 8 f.payload.length :: f.payload

/-- The bytes of an own frame as the link carries them, from sync byte to CRC. -/
def Frame.bytes (addr : Addr) (f : Frame) : List Byte := 0x0F#8 :: withCrc16 (f.covered addr)

/-- The ten bit times of a byte (R38), true for dominant: the start bit, the data bits with the most significant first, a 0
sent dominant, and the stop bit. -/
def byteLevels (b : Byte) : List Bool := true :: ((List.range 8).map fun i => !b.getLsbD (7 - i)) ++ [false]

/-- What an attempt sends after its break, one level for each bit time (R38, R39): the delimiter, and the bytes from sync
byte to CRC back to back. -/
def Attempt.frameLevels (a : Attempt) : List Bool := false :: a.bytes.flatMap byteLevels

/-- What an attempt sends on the pair where nothing disturbs it: its break of 13 bit times and what follows (R39). -/
def Attempt.levels (a : Attempt) : List Bool := List.replicate 13 true ++ a.frameLevels

/-- The level that an attempt sends in a bit after its break (R39): bit 0 is the delimiter, bits 1 to 10 are the sync byte,
bits 11 to 30 the identifier. -/
def Attempt.bitAt (a : Attempt) (i : Nat) : Bool := a.frameLevels.getD i false

/-- How many bit times an attempt has after its break (R39). -/
def Attempt.bitCount (a : Attempt) : Nat := 1 + 10 * a.bytes.length

/-- A frame as received, its envelope removed. -/
structure Received where
  cls : BitVec 4
  sender : Addr
  kind : Byte
  payload : List Byte
  deriving DecidableEq, Repr

/-- R44's judgement of the bytes of a finished frame, from identifier byte 1 to the second CRC byte: none for a bad
frame (a CRC that differs, a sender address of 0 or 13, or bytes that do not make the length they state). -/
def judgeFrame (bytes : List Byte) : Option Received :=
  let n := (bytes.getD 2 0).toNat
  let body := bytes.take (3 + n)
  let sender : Addr := (bytes.getD 0 0).setWidth 4
  if bytes.length = 5 + n ∧ n ≤ 32 ∧ bytes = withCrc16 body ∧ sender ≠ 0 ∧ sender ≠ 13 then
    some { cls := ((bytes.getD 0 0) >>> 4).setWidth 4, sender := sender, kind := bytes.getD 1 0,
           payload := bytes.drop 3 |>.take n }
  else none

/-! ### Fields carried by frames and records -/

/-- A frequency as reported outside the part: 0 while invalid, 65,535 where higher (R14). -/
def reportedFreq (f : Option Int) : Nat :=
  match f with
  | none => 0
  | some x => min x.toNat 65535

/-- The held set field: 3 bytes, code c in bit c − 1 (13.1). -/
def heldSetBytes (s : State) : List Byte := beBytes 3 (bitsToNat (Condition.all.map (isHeld s)))

/-- The held summary field: 2 bytes, mark k in bit k − 1 (13.1). -/
def heldSummaryBytes (s : State) : List Byte := beBytes 2 (bitsToNat (heldMarks s))

/-- The interval flags byte (13.3). -/
def IntervalFlags.byte (f : IntervalFlags) : Byte :=
  BitVec.ofNat 8 (bitsToNat [f.partialIvl, f.selfClosed, f.gap, f.final])

/-- The session id field of a STATUS: the id of the context held, 0 while none is held (R58, log 9). -/
def sessionIdNat (s : State) : Nat :=
  match sessionId s with
  | some i => i.toNat
  | none => 0

/-- The STATUS flags byte (13.3). -/
def statusFlags (s : State) : Byte :=
  BitVec.ofNat 8 (bitsToNat
    [ s.ccAux, s.syn.permit, s.hoc.ready, s.hoc.returnArmed, s.hoc.aborted,
      match s.syn.claim with
      | .own _ => true
      | _ => false,
      s.ssc.station != .tripped && s.ssc.station != .closing ])

/-- A full STATUS as it stands (R58, R60). -/
def statusFrame (s : State) : Frame :=
  { kind := .status
    payload :=
      BitVec.ofNat 8 s.ssc.station.code :: statusFlags s :: (beBytes 4 (sessionIdNat s)
        ++ BitVec.ofNat 8 s.rating.toNat :: (sBytes s.msu.p ++ sBytes s.msu.q
        ++ beBytes 2 (reportedFreq s.btr.berth.freq) ++ s.pvw.seq :: heldSummaryBytes s)) }

/-- A CONT_STATUS as it stands (R59). -/
def contStatusFrame (s : State) : Frame :=
  { kind := .contStatus
    payload := s.pvw.seq :: (sBytes s.msu.p ++ sBytes s.msu.q ++ [BitVec.ofNat 8 (bitsToNat (liveMarks s))]) }

/-- A TRIP_NOTICE (R176). -/
def tripNoticeFrame (r : FirstCause) : Frame :=
  { kind := .tripNotice, payload := [BitVec.ofNat 8 r.cause.code, BitVec.ofNat 8 r.state.code] }

/-- A CLAIM: the station's session id (R105). -/
def claimFrame (s : State) : Frame := { kind := .claim, payload := beBytes 4 (sessionIdNat s) }

/-- The contents an INTERVAL record and an INTERVAL_REPORT share (R147): id, number, tariff, flags, Wh, elapsed. -/
def intervalContents (id : SessionId) (m : Meter) (whFwd whRev : Nat) : List Byte :=
  beBytes 4 id.toNat ++ satBytes 2 m.number ++ m.tariff :: m.flags.byte ::
    (satBytes 4 whFwd ++ satBytes 4 whRev ++ satBytes 2 m.elapsed)

/-- An INTERVAL_REPORT frame (13.3). -/
def intervalReportFrame (id : SessionId) (m : Meter) (whFwd whRev : Nat) : Frame :=
  { kind := .intervalReport, payload := intervalContents id m whFwd whRev }

/-- A LOG_DATA frame (13.3). -/
def logDataFrame (sector offset : Nat) (bytes : List Byte) : Frame :=
  { kind := .logData, payload := beBytes 2 sector ++ beBytes 2 offset ++ bytes }

/-! ### Requests and replies (13.3) -/

/-- The reasons of a refusal (R99), and that an acceptance carries none. -/
inductive Reason where
  | accepted | state | session | range | held | busy | starting
  deriving DecidableEq, Repr

/-- The code of a reason (13.3). -/
def Reason.code : Reason → Nat
  | .accepted => 0
  | .state => 1
  | .session => 2
  | .range => 3
  | .held => 4
  | .busy => 5
  | .starting => 6

/-- A REPLY: an acceptance with its data, or a refusal with its reason and no data (R99, R181). -/
def replyFrame (number kind : Byte) (reason : Reason) (data : List Byte) : Frame :=
  { kind := .reply
    payload := number :: kind :: BitVec.ofNat 8 (if reason = .accepted then 0 else 1) ::
      BitVec.ofNat 8 reason.code :: (if reason = .accepted then data else []) }

/-- The parameters of a PREPARE (13.3): id, frequency, voltage, interval length. -/
structure PrepareParams where
  id : SessionId
  frequency : Nat
  voltage : Nat
  minutes : Nat
  deriving DecidableEq, Repr

/-- PREPARE's parameters from its 8 bytes. -/
def prepareParams (ps : List Byte) : PrepareParams :=
  { id := BitVec.ofNat 32 (fieldNat ps 0 4), frequency := fieldNat ps 4 1, voltage := fieldNat ps 5 2,
    minutes := fieldNat ps 7 1 }

/-! ### Log records (13.4) -/

/-- A record with its header and CRC, under a stamp (R160). -/
def LogRecord.bytes (r : LogRecord) (stamp : Nat) : List Byte :=
  withCrc16 (BitVec.ofNat 8 r.kind.code :: BitVec.ofNat 8 ((r.body.length + 8) / 16) :: (beBytes 4 stamp ++ r.body))

/-- The size of a record in bytes (R160). -/
def LogRecord.size (r : LogRecord) : Nat := r.body.length + 8

/-- A SECTOR_HEAD with its CRC (R160, 13.4). -/
def sectorHeadBytes (s : State) (seq nextRecord : Nat) : List Byte :=
  withCrc16 (0x01#8 :: 0x01#8 :: (beBytes 4 nextRecord ++ beBytes 4 seq ++
    [BitVec.ofNat 8 s.addr.toNat, BitVec.ofNat 8 s.rating.toNat, 0, 0]))

/-- The configuration record: header, block, CRC (13.4). -/
def configRecordBytes (block : List Byte) : List Byte := withCrc16 (0x0C#8 :: 0x02#8 :: block)

/-- A SESSION_OPEN record (13.4). -/
def sessionOpenRecord (s : State) (c : Session) (m : Meter) (resumed : Bool) : LogRecord :=
  { kind := .sessionOpen
    body := beBytes 4 c.id.toNat ++ BitVec.ofNat 8 (if c.is60 then 60 else 50) :: (beBytes 2 c.voltage.toNat
      ++ BitVec.ofNat 8 c.minutes :: BitVec.ofNat 8 resumed.toNat :: BitVec.ofNat 8 s.addr.toNat ::
        BitVec.ofNat 8 s.rating.toNat :: (satBytes 2 m.number ++ m.tariff :: (satBytes 2 m.elapsed
          ++ satBytes 4 m.closedFwd ++ satBytes 4 m.closedRev))) }

/-- An INTERVAL record (13.4). -/
def intervalRecord (id : SessionId) (m : Meter) (whFwd whRev : Nat) : LogRecord :=
  { kind := .interval, body := intervalContents id m whFwd whRev ++ List.replicate 6 0 }

/-- A SESSION_CLOSE record (R152, 13.4). -/
def sessionCloseRecord (id : SessionId) (m : Meter) : LogRecord :=
  { kind := .sessionClose
    body := beBytes 4 id.toNat ++ satBytes 4 m.closedFwd ++ satBytes 4 m.closedRev ++ satBytes 4 m.intervalFwd
      ++ satBytes 4 m.intervalRev ++ satBytes 2 m.closedCount ++ satBytes 2 m.dropped ++ satBytes 1 m.trips
      ++ satBytes 2 m.handoverSeconds ++ BitVec.ofNat 8 m.abandoned.toNat :: List.replicate 12 0 }

/-- A TRIP record (R176, 13.4): the fields as they stand in `s`, the session id given. -/
def tripRecord (r : FirstCause) (id : Option SessionId) (s : State) : LogRecord :=
  { kind := .trip
    body := BitVec.ofNat 8 r.cause.code :: BitVec.ofNat 8 r.state.code :: (sBytes s.msu.p ++ sBytes s.msu.q
      ++ beBytes 4 s.rfg.fRef.toNat ++ beBytes 2 (reportedFreq s.btr.berth.freq) ++ heldSetBytes s
      ++ beBytes 4 (id.getD 0).toNat ++ List.replicate 21 0) }

/-- An EVENT record: subkind and its data, the bytes of the 7 not named 0 (13.4). -/
def eventRecord (subkind : Byte) (data : List Byte) : LogRecord :=
  { kind := .event, body := subkind :: field data 0 7 }

/-! ### The sample record (13.2) -/

/-- The contents of the 25 bytes of a sample record. -/
def sampleOf (bs : List Byte) : Sample :=
  let ch (i : Nat) : BitVec 16 := BitVec.ofNat 16 (fieldNat bs (2 + 2 * i) 2)
  { seq := bs.getD 1 0, ia := ch 0, ib := ch 1, ic := ch 2, vmAb := ch 3, vmBc := ch 4, vbAb := ch 5, vbBc := ch 6,
    vsAb := ch 7, vsBc := ch 8, vdc := ch 9, flags := BitVec.ofNat 10 (fieldNat bs 22 2) }

/-- The CRC check of R3 on 25 bytes. -/
def sampleCrcGood (bs : List Byte) : Bool := crc8 (bs.take 24) == bs.getD 24 0

/-! ### The configuration record (R158, 13.4) -/

/-- A stored value times its unit, clamped to its range (R158). -/
def loadValue (bs : List Byte) (offset len : Nat) (unit lo hi : Int) : Int :=
  let v := (fieldNat bs offset len : Int) * unit
  if v < lo then lo else if hi < v then hi else v

/-- The parameters a block gives, each clamped to its range. -/
def loadParams (b : List Byte) : Params :=
  { droop := loadValue b 0 2 1 0 3000
    rate := loadValue b 2 2 1 1 2000
    dq := loadValue b 4 1 1 0 100
    ks := loadValue b 5 1 1 0 200
    kq := loadValue b 6 1 1 0 100
    kr := loadValue b 7 1 1 0 100
    kphi := loadValue b 8 1 1 0 200
    joinFreq := loadValue b 9 1 2 10 500
    joinPhase := loadValue b 10 2 1 100 4000
    joinVolt := loadValue b 12 1 1 10 200
    joinDwell := loadValue b 13 1 10 20 1000
    syncLimit := loadValue b 14 1 10 10 600
    slipTarget := loadValue b 15 2 1 20 300
    closeTime := loadValue b 17 1 2 20 300
    shipSlip := loadValue b 18 1 1 10 200
    shipPhase := loadValue b 19 2 1 100 4000
    shipVolt := loadValue b 21 1 1 10 200
    shipDwell := loadValue b 22 1 10 20 1000
    handoverLimit := loadValue b 23 1 10 30 1200
    ramp := loadValue b 24 1 1 1 200
    kh := loadValue b 25 1 1 0 200
    partReady := loadValue b 26 1 1 5 100
    quiet := (b.getD 27 0).getLsbD 0
    tripBus := (b.getD 27 0).getLsbD 1
    tripTx := (b.getD 27 0).getLsbD 2
    tripStore := (b.getD 27 0).getLsbD 3 }

/-- Whether the value at an offset lies outside its range. -/
def valueOff (bs : List Byte) (offset len : Nat) (unit lo hi : Int) : Bool :=
  let v := (fieldNat bs offset len : Int) * unit
  decide (v < lo) || decide (hi < v)

/-- Whether any parameter of a block lies outside its range, so that the load clamps it (R158). -/
def blockAdjusted (b : List Byte) : Bool :=
  valueOff b 0 2 1 0 3000 || valueOff b 2 2 1 1 2000 || valueOff b 4 1 1 0 100 || valueOff b 5 1 1 0 200
    || valueOff b 6 1 1 0 100 || valueOff b 7 1 1 0 100 || valueOff b 8 1 1 0 200 || valueOff b 9 1 2 10 500
    || valueOff b 10 2 1 100 4000 || valueOff b 12 1 1 10 200 || valueOff b 13 1 10 20 1000
    || valueOff b 14 1 10 10 600 || valueOff b 15 2 1 20 300 || valueOff b 17 1 2 20 300 || valueOff b 18 1 1 10 200
    || valueOff b 19 2 1 100 4000 || valueOff b 21 1 1 10 200 || valueOff b 22 1 10 20 1000
    || valueOff b 23 1 10 30 1200 || valueOff b 24 1 1 1 200 || valueOff b 25 1 1 0 200 || valueOff b 26 1 1 5 100

/-- The configuration record is good: kind 0x0C, length 2, and the stored CRC right (R158, R182). -/
def configGood (bs : List Byte) : Bool :=
  bs.getD 0 0 == 0x0C#8 && bs.getD 1 0 == 0x02#8 && bs == withCrc16 (bs.take 30)

end Sys2Proof.Machine
end

