-- ==== Sys2Proof/Machine/Ops.lean ====
section
/-! DEFINITION. The named operations every meaning is built from: arithmetic, clock, record memory, held conditions,
transmit queue, record queue, contactor command, permit drive, announcements. Each is a record update of the blocks it
touches, so that what it leaves alone is left alone by definition. -/

namespace Sys2Proof.Machine

/-! ### Arithmetic (00, Rounding, Clamping) -/

/-- `x` clamped to lo..hi. -/
def clamp (lo hi x : Int) : Int := if x < lo then lo else if hi < x then hi else x

/-- `a ÷ b` rounded half up, `b` above 0. -/
def halfUp (a b : Int) : Int := (2 * a + b) / (2 * b)

/-- `a ÷ b` rounded half away from zero, `b` above 0. -/
def roundAway (a b : Int) : Int := if 0 ≤ a then (2 * a + b) / (2 * b) else -((2 * (-a) + b) / (2 * b))

/-- The integer square root of `n` from its bits below 2^fuel. -/
def isqrtFrom (n : Nat) : Nat → Nat → Nat
  | 0, r => r
  | bit + 1, r => isqrtFrom n bit (if (r + 2 ^ bit) * (r + 2 ^ bit) ≤ n then r + 2 ^ bit else r)

/-- The integer square root, for numbers below 2^64. -/
def isqrt (n : Nat) : Nat := isqrtFrom n 32 0

/-! ### The clock (log 1) -/

/-- The clock brought up to the moment at which a timer started at `start` has run for `length` periods. -/
def catchUp (start length : Nat) (s : State) : State := { s with now := max s.now (start + length) }

/-- A length in ms, in carrier periods. -/
def ms (n : Int) : Nat := n.toNat * 8

/-- A length in s, in carrier periods. -/
def sec (n : Int) : Nat := n.toNat * 8000

/-- Whole seconds since a moment. -/
def secondsSince (t : Nat) (s : State) : Nat := (s.now - t) / 8000

/-! ### The record memory (R157) -/

/-- The byte at an address in the list of programmed bytes: 0xFF where none is listed. -/
def cellsGet (a : Nat) : List Host.Cell → Byte
  | [] => 0xFF#8
  | (b, v) :: rest => if b = a then v else cellsGet a rest

/-- The list with the byte at an address set; a byte of 0xFF is not listed. -/
def cellsSet (a : Nat) (v : Byte) : List Host.Cell → List Host.Cell
  | [] => if v = 0xFF#8 then [] else [(a, v)]
  | (b, w) :: rest =>
      if b < a then (b, w) :: cellsSet a v rest
      else if b = a then (if v = 0xFF#8 then rest else (a, v) :: rest)
      else if v = 0xFF#8 then (b, w) :: rest else (a, v) :: (b, w) :: rest

/-- The byte at an address, the memory not busy. -/
def Memory.get (m : Memory) (a : Nat) : Byte := cellsGet a m.cells

/-- The canonical form: addresses strictly rising, no byte of 0xFF listed. -/
abbrev Memory.wf (m : Memory) : Prop :=
  m.cells.Pairwise (fun x y => x.1 < y.1) ∧ ∀ c ∈ m.cells, c.2 ≠ 0xFF#8

/-- The address of byte `i` of a page program: past the end of the page it is taken at the page's start (R157). -/
def pageAddr (addr i : Nat) : Nat := addr / 256 * 256 + (addr % 256 + i) % 256

/-- Bytes programmed from an address: each bit that is 0 in the data is cleared (R157). `i` counts the bytes done. -/
def cellsProgram (addr : Nat) : Nat → List Byte → List Host.Cell → List Host.Cell
  | _, [], cells => cells
  | i, b :: bs, cells =>
      cellsProgram addr (i + 1) bs (cellsSet (pageAddr addr i) (cellsGet (pageAddr addr i) cells &&& b) cells)

/-- A sector erased: every byte 0xFF (R157). -/
def cellsErase (sector : Nat) (cells : List Host.Cell) : List Host.Cell :=
  cells.filter fun c => !(c.1 / 4096 == sector)

/-- The operation inside the memory ends: its effect is in place, busy and the latch clear (R157). -/
def Memory.finish (m : Memory) : Memory :=
  match m.op with
  | none => m
  | some (.program addr data) => { m with cells := cellsProgram addr 0 data m.cells, latch := false, op := none }
  | some (.erase sector) => { m with cells := cellsErase sector m.cells, latch := false, op := none }

/-- FPT's sequence for a writer operation: continuous-read exit, write enable, then the operation (R163). -/
def Memory.issue (op : MemOp) (m : Memory) : Memory := { m with cont := false, latch := true, op := some op }

/-- `len` bytes of the memory from an address, not busy. -/
def memBytes (m : Memory) (a len : Nat) : List Byte := (List.range len).map fun i => m.get (a + i)

/-- The operation running inside the memory is a configuration write's: it works on sector 0, which nothing else writes
(R159, R162). -/
def Memory.writesConfig (m : Memory) : Bool :=
  match m.op with
  | some (.program addr _) => decide (addr < 4096)
  | some (.erase sector) => sector == 0
  | none => false

/-- A configuration write cut off leaves sector 0 erased or torn (R159): where the free values would make a good record of
the torn bytes, the sector is erased (log 38). -/
def Memory.noRecord (m : Memory) : Memory :=
  if configGood (memBytes m.finish 0 32) then
    { m with cells := cellsErase 0 m.cells, op := m.op.map fun _ => .erase 0 }
  else m

/-- The data of a program that is cut off: each bit that it clears is cleared or not. -/
def tornData (occasion addr : Nat) (data : List Byte) : List Byte :=
  (List.range data.length).map fun i => data.getD i 0 ||| Config.tornBits occasion (pageAddr addr i)

/-- An operation cut off at the port, which the memory carries on (R157, R165): an erase whole, a program with torn data. -/
def MemOp.torn (occasion : Nat) : MemOp → MemOp
  | .program addr data => .program addr (tornData occasion addr data)
  | .erase sector => .erase sector

/-- A cold reset without power loss: the running operation goes on (R157, R165), but a configuration write is cut off
(R159, log 38). -/
def Memory.coldCut (occasion : Nat) (m : Memory) : Memory :=
  if m.writesConfig then Memory.noRecord { m with op := m.op.map (MemOp.torn occasion) } else m

/-- Bytes of a sector set to what a torn erase leaves: each bit either set or as it was. -/
def cellsTornErase (occasion base : Nat) : Nat → List Host.Cell → List Host.Cell
  | 0, cells => cells
  | n + 1, cells =>
      let a := base + n
      cellsTornErase occasion base n
        (cellsSet a (cellsGet a cells ||| (0xFF#8 ^^^ Config.tornBits occasion a)) cells)

/-- A running program or erase stops where it stood (log 11), mode and latch are lost. -/
def Memory.unpowered (occasion : Nat) (m : Memory) : Memory :=
  match m.op with
  | none => { m with latch := false, cont := false }
  | some (.program addr data) =>
      { cells := cellsProgram addr 0 (tornData occasion addr data) m.cells, latch := false, cont := false, op := none }
  | some (.erase sector) =>
      { cells := cellsTornErase occasion (sector * 4096) 4096 m.cells, latch := false, cont := false, op := none }

/-- A power loss: what runs is torn; of a configuration write no good record is left (R159, log 38). -/
def Memory.powerLoss (occasion : Nat) (m : Memory) : Memory :=
  if m.writesConfig then (m.unpowered occasion).noRecord else m.unpowered occasion

/-- What a read of the memory returns at an address: the byte there, or a free value while it is busy (log 11). -/
def memRead (s : State) (a : Nat) : Byte :=
  if s.mem.op.isSome then Config.busyReadByte s.freeCount a else s.mem.get a

/-- `len` bytes read from an address onward. -/
def memReadBytes (s : State) (a len : Nat) : List Byte := (List.range len).map fun i => memRead s (a + i)

/-! ### Held conditions (R172, R175) -/

/-- A condition appended to the following causes: not the first cause, not twice, at most four (R175). -/
def FirstCause.follow (c : Condition) (r : FirstCause) : FirstCause :=
  if c = r.cause ∨ c ∈ r.following ∨ 4 ≤ r.following.length then r else { r with following := r.following ++ [c] }

/-- A report to PRU: a condition not held becomes held; in a start or warm reset it waits in order, and a station in
TRIPPED lists it among the following causes (R172, R174, R175). -/
def Pru.hold (waits tripped : Bool) (c : Condition) (p : Pru) : Pru :=
  if c ∈ p.held then p
  else
    { held := p.held ++ [c]
      waiting := if waits then p.waiting ++ [c] else p.waiting
      first := if tripped then p.first.map (FirstCause.follow c) else p.first }

/-- A condition becomes held, without a trip being decided. -/
def hold (c : Condition) (s : State) : State :=
  { s with pru := s.pru.hold (s.phase == .restartLow || s.ssc.station == .starting) (s.ssc.station == .tripped) c }

/-! ### The transmit queue (R52 to R54) -/

/-- The number of free entries LKC publishes (R53). -/
def Lkc.free (l : Lkc) : Nat := 8 - l.queue.length

/-- A frame is a STATUS or CONT_STATUS. -/
def Frame.isStatus (f : Frame) : Bool := f.kind == .status || f.kind == .contStatus

/-- R54: what LKC accepts in listening mode: a REPLY, a LOG_DATA, an INTERVAL_REPORT of an interval that the session
close did not close (FINAL clear), a STATUS announcing STANDBY. -/
def Frame.acceptedListening (f : Frame) : Bool :=
  match f.kind with
  | .reply => true
  | .logData => true
  | .intervalReport => !(f.payload.getD 7 0).getLsbD 3
  | .status => (f.payload.getD 0 0).toNat == 3
  | _ => false

/-- How a submission was taken. -/
inductive Submitted where
  | accepted | refused | overrun
  deriving DecidableEq, Repr

/-- A status broadcast in the entry of the pending one, retry count 0 (R52). -/
def replaceStatus (f : Frame) (q : List TxEntry) : List TxEntry :=
  q.map fun e => if e.frame.isStatus then { e with frame := f, retry := 0 } else e

/-- The queue without its oldest LOG_DATA that is not in an attempt, none where it has no such entry (R53). -/
def dropOldestLog : List TxEntry → Option (List TxEntry)
  | [] => none
  | e :: rest =>
      if e.frame.kind = .logData ∧ e.inAttempt = false then some rest
      else (dropOldestLog rest).map fun r => e :: r

/-- A submission to the transmit queue (R52, R53, R54). Entries stand in the order of submission. -/
def Lkc.enqueue (listening : Bool) (f : Frame) (l : Lkc) : Lkc × Submitted :=
  if l.enabled = false then (l, .refused)
  else if listening && !f.acceptedListening then (l, .refused)
  else if f.isStatus && l.queue.any (fun e => e.frame.isStatus) then
    ({ l with
        queue := replaceStatus f l.queue
        attempt := l.attempt.map fun a => if a.frame.isStatus then { a with replaced := true } else a }, .accepted)
  else if f.kind = .logData ∧ l.free < 3 then (l, .refused)
  else if l.queue.length < 8 then
    ({ l with queue := l.queue ++ [{ frame := f, retry := 0, inAttempt := false }] }, .accepted)
  else
    match dropOldestLog l.queue with
    | some q => ({ l with queue := q ++ [{ frame := f, retry := 0, inAttempt := false }] }, .accepted)
    | none => (l, .overrun)

/-- How LKC would take a frame now. -/
def submitted (f : Frame) (s : State) : Submitted := (s.lkc.enqueue s.ssc.station.listening f).2

/-- A block submits a frame: queued, refused, or discarded with LINK_OVERRUN, an alarm (R53). -/
def submit (f : Frame) (s : State) : State :=
  { s with
    lkc := (s.lkc.enqueue s.ssc.station.listening f).1
    pru := if submitted f s = .overrun then (hold .linkOverrun s).pru else s.pru }

/-- SYN's own pending CLAIM removed, if it is not in an attempt (R52, R104). -/
def Lkc.dropClaim (l : Lkc) : Lkc :=
  { l with queue := l.queue.filter fun e => !(e.frame.kind == .claim && !e.inAttempt) }

/-- An own CLAIM is pending (R105). -/
def claimPending (s : State) : Bool := s.lkc.queue.any fun e => e.frame.kind == .claim

/-- Where a frame stands in the send order: by class, then by kind code (R52). -/
def Frame.sendKey (f : Frame) : Nat := f.kind.cls * 256 + f.kind.code

/-- The index of the head of the queue: the least send key, the oldest of equals (R52). -/
def headIndex : List TxEntry → Option Nat
  | [] => none
  | e :: rest =>
      match headIndex rest with
      | none => some 0
      | some i =>
          match rest[i]? with
          | none => some 0
          | some h => if h.frame.sendKey < e.frame.sendKey then some (i + 1) else some 0

/-! ### Broadcasts on a change (R57) -/

/-- A full STATUS submitted at once; the cadence restarts with the slot count at 0 (R57). -/
def triggerStatus (s : State) : State :=
  { s with
    lkc := (submit (statusFrame s) s).lkc
    pru := (submit (statusFrame s) s).pru
    pvw := { s.pvw with cadence := some s.now, slot := 0 } }

/-- One of R57's items differs, and the station now runs in a broadcasting state. -/
def announces (before after : State) : Bool :=
  after.phase == .run && after.ssc.station.broadcasting && announced before != announced after

/-- The STATUS that the changes from `before` to `after` trigger, if any (R57). -/
def announce (before after : State) : State :=
  { after with
    lkc := if announces before after then (triggerStatus after).lkc else after.lkc
    pru := if announces before after then (triggerStatus after).pru else after.pru
    pvw := if announces before after then (triggerStatus after).pvw else after.pvw }

/-- An effect, and the STATUS its changes trigger. -/
def announcing (f : State → State) (s : State) : State := announce s (f s)

/-! ### The record queue (R161, R153) -/

/-- R153: a refused record is counted when it carries the id of the context SSC holds. -/
def countDropped (id : Option SessionId) (s : State) : Option Meter :=
  if id.isSome && id == sessionId s then s.emt.map fun m => { m with dropped := min 65535 (m.dropped + 1) } else s.emt

/-- A block submits a record with the session id it carries: stamped once the recovery has set the counters, queued
while fewer than 16 are, else refused and counted (R161, R153). -/
def submitRecord (r : LogRecord) (id : Option SessionId) (s : State) : State :=
  { s with
    rwr := { s.rwr with
      recSeq := if s.rwr.recovered then s.rwr.recSeq + 1 else s.rwr.recSeq
      queue :=
        if s.rwr.queue.length < 16 then
          s.rwr.queue ++ [{ record := r, session := id,
                            stamp := if s.rwr.recovered then some s.rwr.recSeq else none }]
        else s.rwr.queue }
    emt := if s.rwr.queue.length < 16 then s.emt else countDropped id s }

/-- An EVENT record with the session id of the context held (R160, R161). -/
def submitEvent (subkind : Byte) (data : List Byte) (s : State) : State :=
  submitRecord (eventRecord subkind data) (sessionId s) s

/-! ### Contactor and permit line -/

/-- A contactor command: a change starts a confirmation window and is confirmed at once where CC_AUX already reports
the position (R113, R114). -/
def Syn.command (closed ccAux : Bool) (now : Nat) (y : Syn) : Syn :=
  if y.cmdClosed = closed then y
  else { y with cmdClosed := closed, window := some now, confirmed := ccAux == closed }

/-- SYN commands the contactor (R113). -/
def commandContactor (closed : Bool) (s : State) : State := { s with syn := s.syn.command closed s.ccAux s.now }

/-- The permit drive follows R122. -/
def setPermit (s : State) : State := { s with syn := { s.syn with permit := permitRule s } }

/-! ### Gates off (R36) -/

/-- RFG on an entry to GATES_OFF (R36). -/
def Rfg.gatesOff (r : Rfg) : Rfg :=
  { r with k := 0, m := 0, freqClamped := false, rateLimited := false, overmod := false }

/-- The gates are taken off; nothing changes where they are off (R36). -/
def gatesOff (s : State) : State :=
  { s with
    rfg := if s.mod.gate = .gatesOff then s.rfg else s.rfg.gatesOff
    mod := if s.mod.gate = .gatesOff then s.mod else .off }

/-! ### Continuous-read exits (R168 to R170) -/

/-- A continuous-read exit is made: the memory's mode and FPT's state are off, and a readout whose final frame has gone
ends (R168, R169). -/
def exitMade (s : State) : State :=
  { s with
    mem := { s.mem with cont := false }
    fpt := { s.fpt with contRead := false, exitWaits := false, readout := s.fpt.readout.filter fun r => !r.ended } }

/-- FPT issues a continuous-read exit: at once on the free port, else as soon as the port comes free (R169, R170). -/
def requestExit (s : State) : State :=
  { s with
    mem := if s.fpt.port.isNone then (exitMade s).mem else s.mem
    fpt := if s.fpt.port.isNone then (exitMade s).fpt else { s.fpt with exitWaits := true } }

/-- The port comes free, and a waiting exit sequence is made before anything else (R170, log 34). -/
def releasePort (s : State) : State :=
  { s with
    mem := if s.fpt.exitWaits then (exitMade s).mem else s.mem
    fpt := { (if s.fpt.exitWaits then (exitMade s).fpt else s.fpt) with port := none } }

/-! ### Participants (R70) -/

/-- The rating in kVA of a rating class. -/
def ratingKva (r : BitVec 2) : Int := (r.toNat + 1) * 500

/-- A peer entry is a sharing participant (R70). -/
def isParticipant (s : State) (e : Peer) : Bool :=
  e.fresh s.now && e.session != 0 && sessionId s == some e.session && e.contactor && e.state.onBus

/-- The peers among the sharing participants, as they stand. -/
def peerParticipants (s : State) : List Peer := s.pvw.peers.filter (isParticipant s)

/-- The sum of the participants' ratings, the own station's included (R75). -/
def sumR (s : State) : Int := (peerParticipants s).foldl (fun acc e => acc + ratingKva e.rating) (ratingKva s.rating)

/-- The sum of P‰ × rating over the participants (R75). -/
def sumPR (s : State) : Int :=
  (peerParticipants s).foldl (fun acc e => acc + e.p * ratingKva e.rating) (s.msu.p * ratingKva s.rating)

/-- The sum of Q‰ × rating over the participants (R75). -/
def sumQR (s : State) : Int :=
  (peerParticipants s).foldl (fun acc e => acc + e.q * ratingKva e.rating) (s.msu.q * ratingKva s.rating)

/-! ### The berth frequency band timer (R17) -/

/-- The out-of-band timer judged at a change of the berth frequency or of the station state (R17). -/
def judgeBand (s : State) : State :=
  { s with
    btr := { s.btr with
      oob :=
        if s.phase == .run && s.ssc.station.onBus && outOfBand s then
          if s.btr.oobDone then s.btr.oob else if s.btr.oob.isSome then s.btr.oob else some s.now
        else none
      oobDone := s.phase == .run && s.ssc.station.onBus && outOfBand s && s.btr.oobDone } }

end Sys2Proof.Machine
end

