-- ==== Sys2Proof/Machine/Measure.lean ====
section
/-! DEFINITION. Chapter 1: the Sample Port's settlement, the Measurement Unit's sums and checks, the Bus Trackers. Pure
functions of the blocks; the order in which a sample passes through them stands in `Machine/Sampling.lean`. -/

namespace Sys2Proof.Machine

/-! ### The Sample Port -/

/-- The strobes start at wake (R1): the first strobe falls at the next period start. -/
def Spt.start : Spt := { Spt.initial with strobes := true }

/-- A complete record passes its checks (R3). -/
def Spt.passes (p : Spt) (record : List Byte) : Bool :=
  sampleCrcGood record && (p.expected.isNone || p.expected == some (sampleOf record).seq)

/-- The period's outcome: the new sample of a good period, none for a missing one. `record`: the 25 bytes of a complete
record, none where none was completed (R2, R3). -/
def Spt.outcome (p : Spt) (record : Option (List Byte)) : Option Sample :=
  match record with
  | none => none
  | some bs => if p.passes bs then some (sampleOf bs) else none

/-- The expected sequence after a settlement (R3). -/
def Spt.nextExpected (p : Spt) (record : Option (List Byte)) : Option Byte :=
  match record with
  | none => p.expected.map (· + 1)
  | some bs => if sampleCrcGood bs then some ((sampleOf bs).seq + 1) else p.expected.map (· + 1)

/-- SPT after the settlement of a period (R3, R4, R6). -/
def Spt.settle (record : Option (List Byte)) (p : Spt) : Spt :=
  match p.outcome record with
  | some r =>
      { p with settled := true, expected := p.nextExpected record, runCount := 0, lastGood := some r,
               saturated := r.flags != 0 }
  | none =>
      { p with settled := true, expected := p.nextExpected record, runCount := min 255 (p.runCount + 1) }

/-! ### The Measurement Unit -/

/-- The active product of a sample (R8). -/
def activeProduct (r : Sample) : Int := r.vmAb.toInt * r.ia.toInt - r.vmBc.toInt * r.ic.toInt

/-- The reactive product of a sample (R8). -/
def reactiveProduct (r : Sample) : Int :=
  r.vmBc.toInt * r.ia.toInt + (-r.vmAb.toInt - r.vmBc.toInt) * r.ib.toInt + r.vmAb.toInt * r.ic.toInt

/-- A sample's voltage added to a cycle accumulator (R9). -/
def CycleSum.add (v : Int) (c : CycleSum) : CycleSum := { v2 := c.v2 + (v * v).toNat, n := c.n + 1 }

/-- The voltage magnitude of a cycle in ‰, rounded to the nearest, half away from zero (R11): half of the square root
of 4·10¹²·S ÷ (N·14,142,136²), by whole numbers. -/
def voltageOf (c : CycleSum) : Int := ((isqrt (4 * c.v2 * 1000000000000 / (c.n * 14142136 ^ 2)) + 1) / 2 : Nat)

/-- P‰ of a cycle (R10). -/
def activePower (sumP : Int) (n : Nat) : Int := clamp (-2000) 2000 (roundAway (1000 * sumP) (n * 346410162))

/-- Q‰ of a cycle (R10). -/
def reactivePower (sumQ : Int) (n : Nat) : Int := clamp (-2000) 2000 (roundAway (1000 * sumQ) (n * 600000000))

/-- The overcurrent check (R12). -/
def overcurrentMet (r : Sample) : Bool :=
  decide (30000 < r.ia.toInt.natAbs ∨ 30000 < r.ib.toInt.natAbs ∨ 30000 < r.ic.toInt.natAbs)

/-- The DC link check (R12). -/
def dcFaultMet (r : Sample) : Bool := decide (r.vdc.toInt < 16000 ∨ 31000 < r.vdc.toInt)

/-- MSU with a sample added to its three accumulators, Vdc published, and the checks of a new sample taken (R8, R9, R12). -/
def Msu.take (r : Sample) (isNew : Bool) (m : Msu) : Msu :=
  { m with
    sumB := m.sumB.add r.vbAb.toInt
    sumS := m.sumS.add r.vsAb.toInt
    sumM := m.sumM.add r.vmAb.toInt
    sumP := m.sumP + activeProduct r
    sumQ := m.sumQ + reactiveProduct r
    vdc := some r.vdc.toInt
    ocLive := if isNew then overcurrentMet r else m.ocLive
    dcLive := if isNew then dcFaultMet r else m.dcLive }

/-! ### A tracker -/

/-- A tracker is armed at a sample: by this one or before (R13, step 1). -/
def Tracker.armedAt (v : Int) (t : Tracker) : Bool := decide (v < -1000) || t.armed

/-- The time of the positive-going crossing a tracker accepts at sample index `k`, if it accepts one (R13, step 2). -/
def Tracker.crossing (v : Int) (k : Nat) (t : Tracker) : Option Int :=
  match t.prev with
  | none => none
  | some (p, _) =>
      if p < 0 ∧ 0 ≤ v ∧ t.armedAt v = true then
        some (256 * ((k : Int) - 1) + halfUp (256 * (-p)) (v - p))
      else none

/-- The period list with the period to a new crossing (R14). -/
def Tracker.nextPeriods (time : Int) (t : Tracker) : List Int :=
  match t.tLast with
  | none => t.periods
  | some l => (t.periods ++ [time - l]).drop (t.periods.length - 3)

/-- The frequency of a period list in mHz: valid while it holds four (R14). -/
def frequencyOf (periods : List Int) : Option Int :=
  if periods.length = 4 then some (halfUp 8192000000 periods.sum) else none

/-- A tracker after a sample: armed flag, crossing, previous sample (R13, R14). -/
def Tracker.observe (v : Int) (k : Nat) (t : Tracker) : Tracker :=
  match t.crossing v k with
  | some time =>
      { prev := some (v, k), armed := false, tLast := some time, periods := t.nextPeriods time,
        freq := frequencyOf (t.nextPeriods time) }
  | none => { t with prev := some (v, k), armed := t.armedAt v }

/-- A tracker after a window close (R14). -/
def Tracker.windowClose (t : Tracker) : Tracker := { t with tLast := none, periods := [], freq := none }

/-! ### Closes and what they publish -/

/-- What a sample does to the three trackers: crossings accepted, and cycles closed by a crossing or a window (R9). -/
structure SampleEvents where
  berthCross : Bool
  shipCross : Bool
  moduleCross : Bool
  berthClose : Bool
  shipClose : Bool
  moduleClose : Bool
  deriving DecidableEq, Repr

/-- The events of a sample, from the trackers before it and MSU with it added (R9, R13). -/
def sampleEvents (r : Sample) (k : Nat) (b : Btr) (m : Msu) : SampleEvents :=
  let bx := (b.berth.crossing r.vbAb.toInt k).isSome
  let sx := (b.ship.crossing r.vsAb.toInt k).isSome
  let mx := (b.module.crossing r.vmAb.toInt k).isSome
  { berthCross := bx, shipCross := sx, moduleCross := mx, berthClose := bx || decide (320 ≤ m.sumB.n),
    shipClose := sx || decide (320 ≤ m.sumS.n), moduleClose := mx || decide (320 ≤ m.sumM.n) }

/-- MSU after the closes of a sample: values published, accumulators emptied (R9 to R11). -/
def Msu.close (e : SampleEvents) (m : Msu) : Msu :=
  { m with
    sumB := if e.berthClose then .empty else m.sumB
    sumS := if e.shipClose then .empty else m.sumS
    sumM := if e.moduleClose then .empty else m.sumM
    sumP := if e.moduleClose then 0 else m.sumP
    sumQ := if e.moduleClose then 0 else m.sumQ
    p := if e.moduleClose then activePower m.sumP m.sumM.n else m.p
    q := if e.moduleClose then reactivePower m.sumQ m.sumM.n else m.q
    vB := if e.berthClose then voltageOf m.sumB else m.vB
    vS := if e.shipClose then voltageOf m.sumS else m.vS
    vM := if e.moduleClose then voltageOf m.sumM else m.vM }

/-- A bus state from V‰ and the frequency (R15). -/
def busStateOf (v : Int) (freq : Option Int) : BusState :=
  if v < 100 then .dead
  else
    match freq with
    | some f => if 850 ≤ v ∧ 45000 ≤ f ∧ f ≤ 65000 then .live else .abnormal
    | none => .abnormal

/-- A phase difference brought into −32768..32767 by whole turns (R16). -/
def wrapPhase (x : Int) : Int := (x + 32768) % 65536 - 32768

/-- The phase of `a` against `b`: round(65536 × (t_b − t_a) ÷ P), brought into range (R16). -/
def phaseBetween (ta tb period : Int) : Int := wrapPhase (roundAway (65536 * (tb - ta)) period)

/-- A phase difference after a sample: invalid while a frequency is, recomputed at a crossing, else kept (R16). `a`
crosses after `b` where the difference is negative; the period is `p`'s newest. -/
def phaseAfter (a b p : Tracker) (crossed : Bool) (old : Option Int) : Option Int :=
  if a.freq.isNone || b.freq.isNone then none
  else if crossed then some (phaseBetween (a.tLast.getD 0) (b.tLast.getD 0) (p.periods.getLast?.getD 0))
  else old

/-- The slip (R16). -/
def slipOf (berth ship : Option Int) : Option Int :=
  match berth, ship with
  | some b, some s => some (b - s)
  | _, _ => none

/-- A tracker after a sample and the close it may bring. -/
def Tracker.after (v : Int) (k : Nat) (crossed closed : Bool) (t : Tracker) : Tracker :=
  if closed && !crossed then (t.observe v k).windowClose else t.observe v k

/-- BTR after a sample whose events are `e`; `m` is MSU after the closes (R13 to R16). -/
def Btr.take (r : Sample) (k : Nat) (e : SampleEvents) (m : Msu) (b : Btr) : Btr :=
  let berth := b.berth.after r.vbAb.toInt k e.berthCross e.berthClose
  let ship := b.ship.after r.vsAb.toInt k e.shipCross e.shipClose
  let module := b.module.after r.vmAb.toInt k e.moduleCross e.moduleClose
  { b with
    berth := berth
    ship := ship
    module := module
    berthState := if e.berthClose then busStateOf m.vB berth.freq else b.berthState
    shipState := if e.shipClose then busStateOf m.vS ship.freq else b.shipState
    dphiShip := phaseAfter berth ship ship (e.berthCross || e.shipCross) b.dphiShip
    dphiJoin := phaseAfter module berth berth (e.moduleCross || e.berthCross) b.dphiJoin
    slip := slipOf berth.freq ship.freq }

end Sys2Proof.Machine
end

