-- ==== Sys2Proof/Machine/Reference.lean ====
section
/-! DEFINITION. Chapter 2: the Reference Generator's period work, the compare values, the gate lines. -/

namespace Sys2Proof.Machine

/-- The active-power droop term (R21). -/
def droopTerm (d p : Int) : Int := (-(d * 1000) * clamp (-200) 1200 p).tdiv 1000

/-- The frequency target before its clamp (R20), with the droop term of this period work. -/
def freqTarget (s : State) : Int :=
  fBase s + droopTerm s.params.droop s.msu.p + s.shc.fShare + s.shc.fRest + s.syn.fSync + s.hoc.fHo

/-- The clamped target (R22). -/
def freqClamped (s : State) : Int := clamp 45000000 65000000 (freqTarget s)

/-- One step of f_ref toward the target, limited to `r` (R23). -/
def rateStep (r prev target : Int) : Int :=
  if target - prev ≤ r ∧ prev - target ≤ r then target else if prev < target then prev + r else prev - r

/-- The step was limited (R23). -/
def rateLimits (r prev target : Int) : Bool := !decide (target - prev ≤ r ∧ prev - target ≤ r)

/-- The phase increment of a frequency reference, in units of 2⁻³² turn (R25). -/
def phaseIncrement (fRef : Int) : Int := (fRef * 4294967296 + 4000000000) / 8000000000

/-- The reactive droop term (R27). -/
def reactiveDroop (dq q : Int) : Int := (clamp (-1000) 1000 q * -dq).tdiv 1000

/-- The amplitude reference V_ref‰ (R27). -/
def amplitudeRef (s : State) : Int :=
  clamp 850 1150 (vBase s + reactiveDroop s.params.dq s.msu.q + roundAway s.shc.vShare 1000 + s.syn.vSync)

/-- The amplitude used: V_ref‰ scaled by the soft-start count while that is below 4,000 (R28). -/
def amplitudeUsed (gate : GateState) (k : Nat) (vRef : Int) : Int :=
  if gate = .softStart ∧ k < 4000 then (vRef * k).tdiv 4000 else vRef

/-- The quotient of R29, rounded, before its clamp; 0 where Vdc is none, or 0 or below. -/
def indexQuotient (amplitude : Int) (vdc : Option Int) : Int :=
  match vdc with
  | none => 0
  | some v => if 0 < v then roundAway (amplitude * 24000) v else 0

/-- The sine value of an angle, by the table and linear interpolation (R31). -/
def sineValue (angle : BitVec 32) : Int :=
  let i := angle.toNat / 1048576
  let fraction := angle.toNat % 1048576 / 4096
  sineEntry i + (sineEntry (i + 1) - sineEntry i) * fraction / 256

/-- The compare value of a phase (R32). -/
def compareValue (m sine : Int) : Int := clamp 20 1230 (625 + roundAway (625 * m * sine) 32767000)

/-- One third of a turn (R26). -/
def thirdTurn : BitVec 32 := 1431655765#32

/-- RFG after a period work; `start`: the gate-start period (R20 to R29). `s.rfg.k` is the count the work reads. -/
def rfgWork (start : Bool) (s : State) : Rfg :=
  let prev := if start then fBase s else s.rfg.fRef
  let target := freqClamped s
  let fRef := if start then fBase s else rateStep s.params.rate prev target
  let vRef := amplitudeRef s
  let k := if start then 0 else s.rfg.k
  let gate := if start then GateState.softStart else s.mod.gate
  let quotient := indexQuotient (amplitudeUsed gate k vRef) s.msu.vdc
  { fRef := fRef
    fDroop := droopTerm s.params.droop s.msu.p
    vDroop := reactiveDroop s.params.dq s.msu.q
    theta := (if start then 0 else s.rfg.theta) + BitVec.ofInt 32 (phaseIncrement fRef)
    vRef := vRef
    m := clamp 0 1000 quotient
    k := if gate = .softStart ∧ k < 4000 then k + 1 else k
    freqClamped := freqTarget s != target
    rateLimited := if start then false else rateLimits s.params.rate prev target
    overmod := decide (1000 < quotient) }

/-- MOD after a period work: the gate state and the compare values in force from this period start (R28, R32, R35). -/
def modWork (start : Bool) (s : State) : Mod :=
  let r := rfgWork start s
  { gate := if start then .softStart else if s.mod.gate = .softStart ∧ 4000 ≤ s.rfg.k then .running else s.mod.gate
    ca := compareValue r.m (sineValue r.theta)
    cb := compareValue r.m (sineValue (r.theta - thirdTurn))
    cc := compareValue r.m (sineValue (r.theta + thirdTurn))
    pa := s.mod.ca
    pb := s.mod.cb
    pc := s.mod.cc }

/-- The gates start at this period start: PREPARED, gates off, no trip-class condition held (R35). -/
def gateStart (s : State) : Bool :=
  s.phase == .run && s.ssc.station == .prepared && s.mod.gate == .gatesOff && !tripHeld s

/-- The soft start completes at this period start (R28). -/
def softStartDone (s : State) : Bool := s.mod.gate == .softStart && decide (4000 ≤ s.rfg.k)

/-- The work of RFG and MOD at a period start: none in GATES_OFF without a gate start (R19). -/
def periodWork (s : State) : State :=
  { s with
    rfg := if gateStart s || s.mod.gate != .gatesOff then rfgWork (gateStart s) s else s.rfg
    mod := if gateStart s || s.mod.gate != .gatesOff then modWork (gateStart s) s else s.mod }

/-! ### Gate lines (R33, R34) -/

/-- The six gate lines and GATE_EN. -/
structure GateLines where
  enable : Bool
  ah : Bool
  al : Bool
  bh : Bool
  bl : Bool
  ch : Bool
  cl : Bool
  deriving DecidableEq, Repr

/-- The high switch conducts at part clock `t` of a period (0 to 2,499): 40 counts after its ideal interval begins until
that ends (R34). -/
def highOn (c : Int) (t : Nat) : Bool := decide (1290 - c ≤ t ∧ (t : Int) < 1250 + c)

/-- The low switch conducts at part clock `t`: its interval begins in the period before, under the compare value then in
force, and again after the high switch's (R34, log 21). -/
def lowOn (prev c : Int) (t : Nat) : Bool :=
  decide ((prev - 1210 ≤ t ∧ (t : Int) < 1250 - c) ∨ 1290 + c ≤ t)

/-- The gate lines at part clock `t` of the present period. -/
def gateLines (x : Mod) (t : Nat) : GateLines :=
  if x.gate = .gatesOff then
    { enable := false, ah := false, al := false, bh := false, bl := false, ch := false, cl := false }
  else
    { enable := true, ah := highOn x.ca t, al := lowOn x.pa x.ca t, bh := highOn x.cb t, bl := lowOn x.pb x.cb t,
      ch := highOn x.cc t, cl := lowOn x.pc x.cc t }

end Sys2Proof.Machine
end

