-- ==== Sys2Proof/Machine/Transitions.lean ====
section
/-! DEFINITION. The changes of station state (R84, R92 to R98) with what each does in the other blocks, the raising of a
condition and the trip (R172, R174 to R176). An `enter` function changes the state whole; the STATUS it triggers is the
caller's, by `announcing` (R57). -/

namespace Sys2Proof.Machine

/-! ### Leaving a state -/

/-- SYN when the station leaves JOINING: an OWN context becomes EXPIRED unless for ONLINE, the timers of JOINING stop, the
terms are 0 (R104, R105, R108, R110 to R112). That the wait of a CLAIM discarded on a full queue ends here is the model's
choice (DESIGN CHOICE, log 29). -/
def Syn.leaveJoining (new : StationState) (y : Syn) : Syn :=
  { y with
    claim :=
      match y.claim with
      | .own t => if new = .online then .own t else .expired
      | c => c
    settle := none, settled := false, claimWait := false, energise := none, joinDwell := none, joinFreqOk := false,
    joinPhaseOk := false, joinVoltOk := false, joinLimit := none, fSync := 0, vSync := 0 }

/-- SYN when the station leaves SHIP_SYNC: the ship-sync context at its starting values (R123). -/
def Syn.leaveShipSync (y : Syn) : Syn :=
  { y with
    fSync := 0, vSync := 0, syncLimit := none, advance := none, predicted := none, slipOk := false, phaseOk := false,
    voltOk := false, busOk := false, shipDwell := none, ready := false }

/-- SYN when the station changes from one state to another. -/
def Syn.moved (old new : StationState) (y : Syn) : Syn :=
  if old = .joining then y.leaveJoining new else if old = .shipSync then y.leaveShipSync else y

/-- SHC when the station changes state: f_rest zeroed on leaving the ship-connected states, the restoration tick stopped on
leaving SUPPLYING (R79, R81). -/
def Shc.moved (old new : StationState) (c : Shc) : Shc :=
  { c with
    fRest := if old.shipConnected && !new.shipConnected then 0 else c.fRest
    rest := if old = .supplying then none else c.rest }

/-- HOC when the station changes state: its starting values on leaving the ship-connected states (R142). -/
def Hoc.moved (old new : StationState) (h : Hoc) : Hoc :=
  if old.shipConnected && !new.shipConnected then .initial else h

/-- The station state changes: the new state, and what leaving the old one ends in SYN, LKC, SHC and HOC. Entering the
broadcasting states sets SHIP_STATUS_STALE while the ship record is stale or absent (R69). -/
def moveTo (new : StationState) (s : State) : State :=
  { s with
    ssc := { s.ssc with station := new }
    syn := s.syn.moved s.ssc.station new
    lkc := if s.ssc.station = .joining then s.lkc.dropClaim else s.lkc
    shc := s.shc.moved s.ssc.station new
    hoc := s.hoc.moved s.ssc.station new
    pvw :=
      if new.broadcasting && !s.ssc.station.broadcasting then { s.pvw with shipStale := !shipFresh s } else s.pvw }

/-- After a change of state: the out-of-band timer judged (R17), the permit drive set (R122). -/
def settled (s : State) : State := setPermit (judgeBand s)

/-- The contactor command with the permit drive that follows it (R113, R122). -/
def orderContactor (closed : Bool) (s : State) : State := setPermit (commandContactor closed s)

/-! ### Forward changes -/

/-- Wake: STANDBY to PREPARED. The strobes start (R1, R89), and no new sample exists since (R12). -/
def enterPrepared (s : State) : State :=
  settled { moveTo .prepared s with spt := Spt.start, msu := s.msu.strobed }

/-- SYN on entry to JOINING (R104, R105, R112), with no CLAIM waiting for free entries (DESIGN CHOICE, log 29). -/
def Syn.enterJoining (berth : BusState) (now : Nat) (y : Syn) : Syn :=
  { y with
    claim :=
      match y.claim with
      | .expired => .free
      | c => c
    settle := if berth = .dead then some now else none
    settled := false, claimWait := false, joinLimit := some now, joinDwell := none, fSync := 0, vSync := 0 }

/-- PREPARED to JOINING, at the completion of the soft start (R92). -/
def enterJoining (s : State) : State :=
  settled { moveTo .joining s with syn := (s.syn.moved s.ssc.station .joining).enterJoining s.btr.berthState s.now }

/-- P‰ as a power target in thousandths: clamped to 0..1000 (R129, R137). -/
def targetOf (p : Int) : Int := clamp 0 1000 p * 1000

/-- HOC on entry to HANDOVER_IN (R129). -/
def Hoc.enterIn (p : Int) (fresh : Bool) (now : Nat) (h : Hoc) : Hoc :=
  { h with
    pTarget := some (targetOf p), fHo := 0, tick := some now, timer := some now, entered := now
    stale := if fresh then none else some now
    aborted := false, ready := false }

/-- The ship load an EVENT carries: 0 while the record is absent (13.4). -/
def shipLoad (s : State) : Nat :=
  match s.pvw.ship with
  | some r => r.load
  | none => 0

/-- Into HANDOVER_IN, from a breaker closure or by the joining case (R93, R129). -/
def enterHandoverIn (s : State) : State :=
  submitEvent 1 (1 :: (sBytes s.msu.p ++ beBytes 2 (shipLoad s)))
    (settled { moveTo .handoverIn s with
      hoc := (s.hoc.moved s.ssc.station .handoverIn).enterIn s.msu.p (shipFresh s) s.now })

/-- Into ONLINE, from JOINING, from SHIP_SYNC or from the ship (R92 to R94). A station that comes from JOINING while the
ship breaker reports closed goes on into HANDOVER_IN at once (R93). -/
def enterOnline (s : State) : State :=
  if s.ssc.station = .joining ∧ s.sbAux = true then enterHandoverIn (settled (moveTo .online s))
  else settled (moveTo .online s)

/-- EMT takes the seconds of a handover in (R154). -/
def Meter.addHandover (seconds : Nat) (m : Meter) : Meter :=
  { m with handoverSeconds := min 65535 (m.handoverSeconds + seconds) }

/-- HANDOVER_IN to SUPPLYING: the handover in completes (R134), the restoration tick starts (R79). -/
def enterSupplying (s : State) : State :=
  let done := submitEvent 2 (satBytes 2 (secondsSince s.hoc.entered s) ++ sBytes s.msu.p)
    (settled { moveTo .supplying s with
      hoc := { s.hoc with
        pTarget := none, pFinal := none, fHo := 0, timer := none, stale := none, tick := none }
      shc := { s.shc with rest := some s.now } })
  { done with emt := done.emt.map (Meter.addHandover (secondsSince s.hoc.entered s)) }

/-- HOC on entry to HANDOVER_OUT (R137). -/
def Hoc.enterOut (p threshold : Int) (now : Nat) (h : Hoc) : Hoc :=
  { h with
    pTarget := some (targetOf p), fHo := 0, tick := some now, timer := some now, entered := now, stale := none
    ready := false, part := if p ≤ threshold then some now else none }

/-- Into HANDOVER_OUT, from SUPPLYING on return or from HANDOVER_IN on an abort; the EVENT on an entry from SUPPLYING alone
(R137). -/
def enterHandoverOut (s : State) : State :=
  let moved := settled { moveTo .handoverOut s with
    hoc := s.hoc.enterOut s.msu.p s.params.partReady s.now }
  if s.ssc.station = .supplying then submitEvent 1 (2 :: (sBytes s.msu.p ++ beBytes 2 (shipLoad s))) moved else moved

/-! ### Backward changes -/

/-- Into CLOSING: gates off, contactor commanded open (R95). -/
def enterClosing (s : State) : State := settled (moveTo .closing (commandContactor false (gatesOff s)))

/-- A CLOSED context and its meter fields are cleared (R88, R97, R156). -/
def clearClosed (s : State) : State :=
  { s with
    ssc := { s.ssc with
      session :=
        match s.ssc.session with
        | some c => if c.opened then some c else none
        | none => none }
    emt :=
      match s.ssc.session with
      | some c => if c.opened then s.emt else none
      | none => s.emt }

/-- FPT ends a readout early (R171): a chunk in hand is abandoned, and the exit follows when the port is free. -/
def readoutCut (s : State) : State :=
  let cut : State :=
    { s with fpt := { s.fpt with
        readout := none, port := if s.fpt.port = some .chunk then none else s.fpt.port } }
  { s with
    mem := if s.fpt.readout.isSome then (requestExit cut).mem else s.mem
    fpt := if s.fpt.readout.isSome then (requestExit cut).fpt else s.fpt }

/-- SYN at its STANDBY values: the contactor commanded open, the rest as started (R116, R127). -/
def Syn.standby (ccAux : Bool) (now : Nat) (y : Syn) : Syn :=
  { Syn.initial with
    cmdClosed := (y.command false ccAux now).cmdClosed, window := (y.command false ccAux now).window
    confirmed := (y.command false ccAux now).confirmed, permit := y.permit }

/-- PVW with cadence stopped, view and ship record cleared, the own sequence kept (R62, R72). -/
def Pvw.cleared (v : Pvw) : Pvw := { Pvw.initial with seq := v.seq }

/-- SHC with its trims zeroed, the restoration tick stopped (R82). -/
def Shc.zeroed (c : Shc) : Shc := { Shc.initial with tick := c.tick }

/-- The STATUS announcing STANDBY, submitted on an entry from a broadcasting state (R62, log 9). -/
def standbyStatus (was : StationState) (s : State) : State := if was.broadcasting then submit (statusFrame s) s else s

/-- Into STANDBY, from STARTING, CLOSING or TRIPPED: every block at its STANDBY values (table of 6.7). -/
def enterStandby (s : State) : State :=
  let told := standbyStatus s.ssc.station (moveTo .standby (clearClosed s))
  settled
    { told with
      spt := .initial, msu := s.msu.stopped, btr := .initial, rfg := .initial, mod := .off, lkc := told.lkc.dropClaim
      pvw := told.pvw.cleared, shc := told.shc.zeroed, syn := told.syn.standby s.ccAux s.now, hoc := .initial }

/-- Into TRIPPED: gates off, contactor commanded open, readout ended, an OPEN session's trips counted, a CLOSED session
cleared (R97, R154, R171, R174). -/
def enterTripped (s : State) : State :=
  let moved := clearClosed (moveTo .tripped (commandContactor false (gatesOff s)))
  settled
    { moved with
      fpt := (readoutCut s).fpt
      mem := (readoutCut s).mem
      emt := moved.emt.map fun m => { m with trips := min 255 (m.trips + 1) } }

/-! ### The trip -/

/-- A trip, its first-cause record given: R174's five steps. The TRIP record's fields are those after step 3, its session
id the one before (R176). -/
def tripWith (r : FirstCause) (s : State) : State :=
  let tripped := announcing enterTripped { s with pru := { s.pru with first := some r } }
  submitRecord (tripRecord r (sessionId s) tripped) (sessionId s) (submit (tripNoticeFrame r) tripped)

/-- A report to PRU: the condition becomes held, and makes a trip where it is new, trip class, and a trip can be decided
(R172, R174, R175). -/
def raise (c : Condition) (s : State) : State :=
  if isHeld s c = false ∧ tripClass s.params c = true ∧ canTrip s = true then
    tripWith { cause := c, state := s.ssc.station, following := [] } (hold c s)
  else hold c s

/-- A report where its condition is met. -/
def raiseIf (met : Bool) (c : Condition) (s : State) : State := if met then raise c s else s

/-- The first-cause record of a trip decided at the end of STARTING or of a warm reset (R175): none where no trip-class
condition is held. -/
def waitingCause (state : StationState) (s : State) : Option FirstCause :=
  match (s.pru.waiting ++ s.pru.held).find? (tripClass s.params) with
  | none => none
  | some c => some { cause := c, state := state, following := (s.pru.waiting.filter (· ≠ c)).take 4 }

/-- The start work ends: the station leaves STARTING for STANDBY, or for TRIPPED by a trip (R85). -/
def endStarting (s : State) : State :=
  if s.ssc.station = .starting then
    match waitingCause .starting s with
    | none => let t := enterStandby s; { t with pru := { t.pru with waiting := [] } }
    | some r => let t := tripWith r s; { t with pru := { t.pru with waiting := [] } }
  else s

/-! ### An abort of the handover in (R135) -/

/-- HOC aborts a handover in: aborted set, HANDOVER_ABORTED raised, EVENT, seconds to EMT, HANDOVER_OUT. `cause` and
`peer` are the EVENT's first two bytes. -/
def abortHandover (cause : Byte) (peer : Byte) (s : State) : State :=
  let held := raise .handoverAborted { s with hoc := { s.hoc with aborted := true } }
  let logged := submitEvent 3 (cause :: peer :: satBytes 2 (secondsSince s.hoc.entered s)) held
  enterHandoverOut { logged with emt := logged.emt.map (Meter.addHandover (secondsSince s.hoc.entered s)) }

/-! ### How a command is taken -/

/-- A command's effect where RST_N is not held low; while it is, no command but COLD_RESET has an effect (log 25). -/
def taken (f : State → State) (s : State) : Host.Outcome State Fault Refusal :=
  .next (if s.phase = .rstLow then s else f s)

/-- A command's effect where no reset line is held low; during a reset it finds nothing to act on (R85, R87). -/
def running (f : State → State) (s : State) : Host.Outcome State Fault Refusal :=
  .next (if s.phase = .run then f s else s)

/-- The expiry of a timer of a given length: the clock stands at least at its due time; nothing where it is stopped
(log 1, log 5). -/
def onExpiry (timer : Timer) (length : Nat) (f : State → State) (s : State) : State :=
  match timer with
  | none => s
  | some t => f (catchUp t length s)

/-- A periodic tick's next start: the moment it has just expired at. -/
def Timer.restart (length : Nat) (t : Timer) : Timer := t.map (· + length)

end Sys2Proof.Machine
end

