-- ==== Sys2Proof/Machine/Synchronising.lean ====
section
/-! DEFINITION. The Synchroniser's judgements (chapters 7 and 8): claims, join terms and windows, ship-sync terms, advance,
windows and dwell. -/

namespace Sys2Proof.Machine

/-! ### Claims (7.1 to 7.4) -/

/-- The claim context is NONE or EXPIRED. -/
def Claim.idle : Claim → Bool
  | .free => true
  | .own _ => false
  | .foreign _ _ => false
  | .expired => true

/-- The contactor stands commanded closed by a join path close. Should its bus fall DEAD, the station waits for LIVE or the
join time limit (R109), and submits no CLAIM meanwhile (DEDUCED: R105's conditions do not name the wait). R109 has it wait
until the limit raises SYNC_TIMEOUT, and R112 has it go on as before: that the wait without a CLAIM goes on after the limit,
until the bus is LIVE, is the model's choice (DESIGN CHOICE, log 32). -/
def waitsClosed (s : State) : Bool := s.syn.cmdClosed && s.syn.joinClosed

/-- The conditions for the submission of a CLAIM (R105), none being made while R109 has the station wait (log 32). -/
def mayClaim (s : State) : Bool :=
  s.phase == .run && s.ssc.station == .joining && s.btr.berthState == .dead && s.syn.settled && s.syn.claim.idle
    && !claimPending s && !s.syn.claimWait && !waitsClosed s

/-- SYN submits a CLAIM where R105 lets it; one discarded on a full queue waits for free entries (R105). -/
def raiseClaim (s : State) : State :=
  if mayClaim s then
    let t := submit (claimFrame s) s
    { t with syn := { t.syn with claimWait := decide (submitted (claimFrame s) s = .overrun) } }
  else s

/-- SYN and the transmit queue when the berth bus state has changed from `old` (R104, R105, R108). DESIGN CHOICE (log 29): a
bus that leaves DEAD, or falls DEAD in JOINING, ends the wait of a CLAIM discarded on a full queue (`claimWait`), so that the
next dead period's CLAIM needs no rise of the free entries. R105 does not say whether the wait outlasts its dead period. -/
def berthChanged (old : BusState) (s : State) : State :=
  let leaves := decide (old = .dead) && decide (s.btr.berthState ≠ .dead)
  let falls := decide (old ≠ .dead) && decide (s.btr.berthState = .dead) && decide (s.ssc.station = .joining)
  { s with
    syn := { s.syn with
      claim := if leaves then .free else s.syn.claim
      settle := if leaves then none else if falls then some s.now else s.syn.settle
      settled := if leaves || falls then false else s.syn.settled
      claimWait := if leaves || falls then false else s.syn.claimWait
      energise := if s.btr.berthState = .live then none else s.syn.energise }
    lkc := if leaves then s.lkc.dropClaim else s.lkc }

/-- The own claim seen (R106): OWN, the contactor commanded closed (log 32 where it already is), the energise timer started,
anew where it still runs from an earlier OWN (R108, log 39). -/
def ownClaimSeen (s : State) : State :=
  if s.ssc.station = .joining ∧ s.btr.berthState = .dead ∧ s.syn.claim.idle = true then
    orderContactor true
      { s with syn := { s.syn with claim := .own s.now, energise := some s.now, joinClosed := false } }
  else s

/-- A foreign CLAIM that is not set aside acts on the context (R106, R107). DESIGN CHOICE (log 29): where it is recorded, it
ends the wait of a CLAIM discarded on a full queue (`claimWait`), so that the CLAIM made when it expires (R108) needs no rise
of the free entries. R105 does not say whether the wait outlasts a recorded claim. -/
def foreignClaim (sender : Addr) (s : State) : State :=
  match s.syn.claim with
  | .foreign _ _ => s
  | .own _ =>
      orderContactor false
        { s with syn := { s.syn with claim := .foreign sender s.now, energise := none, claimWait := false }, lkc := s.lkc.dropClaim }
  | _ => { s with syn := { s.syn with claim := .foreign sender s.now, claimWait := false }, lkc := s.lkc.dropClaim }

/-- A claim that is held becomes EXPIRED (R108). -/
def Claim.expire : Claim → Claim
  | .free => .free
  | _ => .expired

/-- A TRIP_NOTICE from the claimant ends its claim (R66, R108). -/
def expireClaimOf (sender : Addr) (s : State) : State :=
  match s.syn.claim with
  | .foreign a _ => if a = sender then raiseClaim { s with syn := { s.syn with claim := .expired } } else s
  | _ => s

/-! ### Joining (7.5) -/

/-- The join frequency term (R110). -/
def joinFrequency (s : State) : Int :=
  clamp (-3000000) 3000000
    ((s.btr.berth.freq.getD (fBase s / 1000) - fBase s / 1000) * 1000 + s.params.kphi * -(s.btr.dphiJoin.getD 0))

/-- The join voltage term (R110). -/
def joinVoltage (s : State) : Int := clamp (-100) 100 (s.msu.vB - vBase s)

/-- Two values differ by no more than a window. -/
def within (window a b : Int) : Bool := decide (a - b ≤ window ∧ b - a ≤ window)

/-- The join frequency window (R111). -/
def joinFreqMet (s : State) : Bool :=
  match s.btr.module.freq, s.btr.berth.freq with
  | some m, some b => within s.params.joinFreq m b
  | _, _ => false

/-- The join phase window (R111). -/
def joinPhaseMet (s : State) : Bool :=
  match s.btr.dphiJoin with
  | some d => within s.params.joinPhase d 0
  | none => false

/-- The join voltage window (R111). -/
def joinVoltMet (s : State) : Bool := within s.params.joinVolt s.msu.vM s.msu.vB

/-- The three join windows are met (R111). -/
def joinMet (s : State) : Bool := joinFreqMet s && joinPhaseMet s && joinVoltMet s

/-- SYN at a recomputation in JOINING: terms, windows and dwell (R110 to R112). -/
def joinJudged (s : State) : State :=
  { s with syn :=
      if s.ssc.station ≠ .joining then s.syn
      else if s.btr.berthState = .live then
        { s.syn with
          fSync := joinFrequency s
          vSync := joinVoltage s
          joinFreqOk := if s.syn.cmdClosed then s.syn.joinFreqOk else joinFreqMet s
          joinPhaseOk := if s.syn.cmdClosed then s.syn.joinPhaseOk else joinPhaseMet s
          joinVoltOk := if s.syn.cmdClosed then s.syn.joinVoltOk else joinVoltMet s
          joinDwell :=
            if s.syn.cmdClosed then none
            else if joinMet s then (if s.syn.joinDwell.isSome then s.syn.joinDwell else some s.now)
            else none }
      else
        { s.syn with
          fSync := 0, vSync := 0, joinFreqOk := false, joinPhaseOk := false, joinVoltOk := false, joinDwell := none } }

/-- SYN reports the contactor confirmed closed, and the station enters ONLINE, where R109's conditions hold. -/
def reportClosed (s : State) : State :=
  if s.phase = .run ∧ s.ssc.station = .joining ∧ s.syn.cmdClosed = true ∧ s.syn.confirmed = true
      ∧ s.btr.berthState = .live then enterOnline s
  else s

/-! ### Ship synchronising (chapter 8) -/

/-- The ship-sync frequency term (R118). -/
def shipFrequency (s : State) : Int :=
  clamp (-3000000) 3000000
    ((s.btr.ship.freq.getD (fBase s / 1000) + s.params.slipTarget - fBase s / 1000) * 1000)

/-- The ship-sync voltage term (R118). -/
def shipVoltage (s : State) : Int := clamp (-100) 100 (s.msu.vS - vBase s)

/-- The advance: invalid while the slip or Δφ_ship is (R119). -/
def advanceOf (s : State) : Option Int :=
  match s.btr.slip, s.btr.dphiShip with
  | some slip, some _ => some (roundAway (slip * s.params.closeTime * 65536) 1000000)
  | _, _ => none

/-- The predicted phase (R119). -/
def predictedOf (s : State) : Option Int :=
  match s.btr.dphiShip, advanceOf s with
  | some d, some a => some (wrapPhase (d + a))
  | _, _ => none

/-- The slip window (R120). -/
def slipMet (s : State) : Bool :=
  match s.btr.slip with
  | some slip => within s.params.shipSlip slip s.params.slipTarget
  | none => false

/-- The phase window (R120). -/
def phaseMet (s : State) : Bool :=
  match predictedOf s with
  | some x => within s.params.shipPhase x 0
  | none => false

/-- The voltage window (R120). -/
def voltMet (s : State) : Bool := within s.params.shipVolt s.msu.vB s.msu.vS

/-- The ship bus window (R120). -/
def busMet (s : State) : Bool := s.btr.shipState == .live && s.btr.berthState == .live

/-- The four ship windows are met together (R120). -/
def shipMet (s : State) : Bool := busMet s && slipMet s && phaseMet s && voltMet s

/-- SYN after a judgement in SHIP_SYNC: terms, advance, predicted phase, windows, dwell and ready (R118 to R121). The dwell
timer keeps its start while ready is set. -/
def Syn.judgedShip (s : State) : Syn :=
  { s.syn with
    fSync := if s.btr.shipState = .live then shipFrequency s else 0
    vSync := if s.btr.shipState = .live then shipVoltage s else 0
    advance := advanceOf s
    predicted := predictedOf s
    slipOk := slipMet s
    phaseOk := phaseMet s
    voltOk := voltMet s
    busOk := busMet s
    shipDwell := if shipMet s then (if s.syn.shipDwell.isSome then s.syn.shipDwell else some s.now) else none
    ready := shipMet s && s.syn.ready }

/-- A judgement of the ship windows; the permit drive follows (R122). -/
def shipJudged (s : State) : State :=
  if s.ssc.station = .shipSync then setPermit { s with syn := Syn.judgedShip s } else s

/-- ONLINE to SHIP_SYNC: the context starts and is computed at once (R117). -/
def enterShipSync (s : State) : State :=
  let moved := moveTo .shipSync s
  settled (shipJudged
    { moved with syn := { moved.syn with syncLimit := some s.now, shipDwell := none, ready := false } })

end Sys2Proof.Machine
end

