-- ==== Sys2Proof/Machine/Handover.lean ====
section
/-! DEFINITION. The Handover Controller's work (chapter 9): targets, ramp, power loop, part timer, trip line, and the
judgement of the peer view. -/

namespace Sys2Proof.Machine

/-- P_final from the ship load and the participants (R130), in ‰. -/
def finalTarget (s : State) (load : Nat) : Int := min 1000 (roundAway ((load : Int) * 10 * 1000) (sumR s))

/-- P_target moved by one ramp step toward a goal, both in thousandths of ‰ (R131). -/
def rampStep (ramp target goal : Int) : Int :=
  if goal - target ≤ ramp ∧ target - goal ≤ ramp then goal else if target < goal then target + ramp else target - ramp

/-- P_final after a handover tick: formed in HANDOVER_IN while the ship record is fresh (R130). -/
def nextFinal (s : State) : Option Int :=
  match s.pvw.ship with
  | some r => if s.ssc.station = .handoverIn ∧ shipFresh s = true then some (finalTarget s r.load) else s.hoc.pFinal
  | none => s.hoc.pFinal

/-- P_target after a handover tick (R131, R133, R137). -/
def nextTarget (s : State) : Option Int :=
  match s.hoc.pTarget, nextFinal s with
  | some t, some g =>
      if s.ssc.station = .handoverIn then
        if shipFresh s then some (rampStep s.params.ramp t (g * 1000)) else some t
      else some (rampStep s.params.ramp t 0)
  | some t, none =>
      if s.ssc.station = .handoverIn then some t else some (rampStep s.params.ramp t 0)
  | none, _ => none

/-- The power-loop step of f_ho toward a target (R132). -/
def powerLoop (kh p target fHo : Int) : Int :=
  clamp (-2000000) 2000000 (fHo + roundAway (kh * (target - 1000 * p)) 1000)

/-- The handover work of one tick (R128). -/
def handoverWork (s : State) : State :=
  { s with hoc := { s.hoc with
      pFinal := nextFinal s
      pTarget := nextTarget s
      fHo :=
        match nextTarget s with
        | some t => powerLoop s.params.kh s.msu.p t s.hoc.fHo
        | none => s.hoc.fHo } }

/-- HOC at a close of the module output cycle in HANDOVER_OUT (R138): a close at or below the threshold starts the part timer
if it is zero, whether ready-to-part is set or clear. That a timer which stopped after its 1 s is at zero, so that such a close
starts it too, is read from 9.1, which gives the timer no third value (DEDUCED, log 43). -/
def Hoc.judgePart (p threshold : Int) (now : Nat) (h : Hoc) : Hoc :=
  if p ≤ threshold then { h with part := some (h.part.getD now) }
  else { h with part := none, ready := h.ready && h.sbtLow }

/-- The part timer judged (R138). -/
def partJudged (s : State) : State :=
  { s with hoc :=
      if s.ssc.station = .handoverOut then s.hoc.judgePart s.msu.p s.params.partReady s.now else s.hoc }

/-- Every participant that is ship-connected shows ready-to-part (R139). -/
def peersReady (s : State) : Bool := (peerParticipants s).all fun e => !e.state.shipConnected || e.ready

/-- HOC drives SBT low, where it does not already, and starts the trip timer (R139, R141). -/
def Hoc.pull (now : Nat) (h : Hoc) : Hoc :=
  if h.sbtLow then h else { h with sbtLow := true, trip := some now, tripDone := false }

/-- R139 judged. -/
def judgeTrip (s : State) : State :=
  { s with hoc :=
      if s.ssc.station = .handoverOut ∧ s.hoc.ready = true ∧ peersReady s = true then s.hoc.pull s.now else s.hoc }

/-- A peer that shows an abort to this station (R135, third cause). -/
def showsAbort (s : State) (e : Peer) : Bool :=
  e.fresh s.now && e.session != 0 && sessionId s == some e.session && e.state == .handoverOut && e.aborted

/-- HOC judges a change of the peer view, as R139 names them: a peer's abort in HANDOVER_IN (R135), the trip line in
HANDOVER_OUT (R139). Of several peers that show an abort the EVENT names the lowest address (log 30). -/
def viewJudged (s : State) : State :=
  if s.phase = .run ∧ s.ssc.station = .handoverIn then
    match s.pvw.peers.find? (showsAbort s) with
    | some e => abortHandover 3 (e.addr.setWidth 8) s
    | none => s
  else judgeTrip s

end Sys2Proof.Machine
end

