-- ==== Sys2Proof/Machine/HandoverSteps.lean ====
section
/-! DEFINITION. The meanings of the Handover Controller's timers (chapter 9). -/

namespace Sys2Proof.Machine

/-- The work of a handover tick, and its restart (R128). -/
def handoverTicked (s : State) : State :=
  let t := handoverWork s
  { t with hoc := { t.hoc with tick := Timer.restart 8 t.hoc.tick } }

/-- HANDOVER_TICK (R128). -/
def execHandoverTick (s : State) : Host.Outcome State Fault Refusal :=
  running
    (fun s =>
      if s.ssc.station = .handoverIn ∨ s.ssc.station = .handoverOut then onExpiry s.hoc.tick 8 handoverTicked s else s) s

/-- STALE_TIMER_EXPIRY (R133): the ship record stale or absent for 2 s aborts the handover in (R135). -/
def execStaleTimerExpiry (s : State) : Host.Outcome State Fault Refusal :=
  running
    (announcing fun s =>
      if s.ssc.station = .handoverIn then onExpiry s.hoc.stale 16000 (abortHandover 2 0) s else s) s

/-- HANDOVER_TIMER_EXPIRY_IN (R135). -/
def execHandoverTimerExpiryIn (s : State) : Host.Outcome State Fault Refusal :=
  running
    (announcing fun s =>
      if s.ssc.station = .handoverIn then
        onExpiry s.hoc.timer (sec s.params.handoverLimit) (abortHandover 1 0) s
      else s) s

/-- The handover timer has expired in HANDOVER_OUT (R141): HANDOVER_ABORTED, EVENT, SBT low whatever the flags show. -/
def handoverOutExpired (s : State) : State :=
  let logged := submitEvent 3 (4 :: 0 :: satBytes 2 (secondsSince s.hoc.entered s)) (raise .handoverAborted s)
  { logged with hoc := Hoc.pull s.now { logged.hoc with timer := none } }

/-- HANDOVER_TIMER_EXPIRY_OUT (R141). -/
def execHandoverTimerExpiryOut (s : State) : Host.Outcome State Fault Refusal :=
  running
    (announcing fun s =>
      if s.ssc.station = .handoverOut then onExpiry s.hoc.timer (sec s.params.handoverLimit) handoverOutExpired s
      else s) s

/-- The part timer has run for 1 s and stops: ready-to-part, and the trip line is judged at the change of that flag (R138,
R139). Where the flag is set already it does not change, and the trip line is not judged. -/
def partReached (s : State) : State :=
  let t := { s with hoc := { s.hoc with ready := true, part := none } }
  if s.hoc.ready then t else judgeTrip t

/-- PART_TIMER_EXPIRY (R138). -/
def execPartTimerExpiry (s : State) : Host.Outcome State Fault Refusal :=
  running
    (announcing fun s => if s.ssc.station = .handoverOut then onExpiry s.hoc.part 8000 partReached s else s) s

/-- The trip timer has reached 500 ms: SHIP_BREAKER_FAIL where SB_AUX still reports closed; checked once (R140). -/
def tripReached (s : State) : State :=
  raiseIf s.sbAux .shipBreakerFail { s with hoc := { s.hoc with trip := none, tripDone := true } }

/-- TRIP_TIMER_EXPIRY (R140). -/
def execTripTimerExpiry (s : State) : Host.Outcome State Fault Refusal :=
  running
    (fun s => if s.ssc.station = .handoverOut then onExpiry s.hoc.trip 4000 tripReached s else s) s

end Sys2Proof.Machine
end

