-- ==== Sys2Proof/Machine/Joining.lean ====
section
/-! DEFINITION. The meanings of the Synchroniser's timers and of its lines CC_AUX and SB_AUX, and of TRIP_IN (chapters 7,
8 and 12). -/

namespace Sys2Proof.Machine

/-! ### Claims -/

/-- The settle timer has reached 200 ms (R105). -/
def settleReached (s : State) : State := raiseClaim { s with syn := { s.syn with settled := true } }

/-- SETTLE_TIMER_EXPIRY (R105). -/
def execSettleTimerExpiry (s : State) : Host.Outcome State Fault Refusal :=
  running (fun s => if s.syn.settled then s else onExpiry s.syn.settle 1600 settleReached s) s

/-- Free entries have risen after a CLAIM was discarded on a full queue: it is submitted anew, if R105's conditions still
hold. That the wait ends at this rise where they do not, too, is the model's choice (DESIGN CHOICE, log 29). -/
def resubmitClaim (s : State) : State := raiseClaim { s with syn := { s.syn with claimWait := false } }

/-- CLAIM_RESUBMIT (R105). -/
def execClaimResubmit (s : State) : Host.Outcome State Fault Refusal :=
  running (fun s => if s.syn.claimWait = true ∧ 1 ≤ s.lkc.free then resubmitClaim s else s) s

/-- The claim time a held context records, none in NONE and EXPIRED (R104). -/
def Claim.timer : Claim → Timer
  | .free => none
  | .own t => some t
  | .foreign _ t => some t
  | .expired => none

/-- The claim time is 3 s past (R108). -/
def claimExpired (s : State) : State := raiseClaim { s with syn := { s.syn with claim := s.syn.claim.expire } }

/-- CLAIM_EXPIRY (R108). -/
def execClaimExpiry (s : State) : Host.Outcome State Fault Refusal :=
  running (announcing fun s => onExpiry s.syn.claim.timer 24000 claimExpired s) s

/-- The energise timer has reached 3 s (R108): contactor commanded open, ENERGISE_FAILED, EVENT, OWN becomes EXPIRED. -/
def energiseFailed (s : State) : State :=
  let raised := raise .energiseFailed (orderContactor false s)
  let logged := submitEvent 8
    (BitVec.ofNat 8 s.btr.berthState.code :: beBytes 2 s.msu.vB.toNat) raised
  raiseClaim { logged with syn := { logged.syn with
    energise := none
    claim :=
      match logged.syn.claim with
      | .own _ => .expired
      | c => c } }

/-- ENERGISE_TIMER_EXPIRY (R108). -/
def execEnergiseTimerExpiry (s : State) : Host.Outcome State Fault Refusal :=
  running (announcing fun s => onExpiry s.syn.energise 24000 energiseFailed s) s

/-! ### Joining -/

/-- The join dwell is complete: the contactor is commanded closed, the dwell timer stops (R111, R113). -/
def joinDwellDone (s : State) : State :=
  reportClosed (orderContactor true { s with syn := { s.syn with joinDwell := none, joinClosed := true } })

/-- JOIN_DWELL_COMPLETE (R111). -/
def execJoinDwellComplete (s : State) : Host.Outcome State Fault Refusal :=
  running
    (announcing fun s =>
      if s.ssc.station = .joining ∧ s.btr.berthState = .live ∧ s.syn.cmdClosed = false then
        onExpiry s.syn.joinDwell (ms s.params.joinDwell) joinDwellDone s
      else s) s

/-- The join time limit has expired: SYNC_TIMEOUT, once for each entry (R112). -/
def joinLimitReached (s : State) : State := raise .syncTimeout { s with syn := { s.syn with joinLimit := none } }

/-- JOIN_TIME_LIMIT_EXPIRY (R112). -/
def execJoinTimeLimitExpiry (s : State) : Host.Outcome State Fault Refusal :=
  running
    (fun s =>
      if s.ssc.station = .joining then onExpiry s.syn.joinLimit (sec s.params.syncLimit) joinLimitReached s else s) s

/-! ### The contactor -/

/-- The confirmation window ends: CC_AUX is judged against the command (R114). -/
def windowEnded (s : State) : State :=
  raiseIf (s.ccAux != s.syn.cmdClosed) .contactorFail { s with syn := { s.syn with window := none } }

/-- CONFIRMATION_WINDOW_END (R114): it runs in every state and through a warm reset (R115). -/
def execConfirmationWindowEnd (s : State) : Host.Outcome State Fault Refusal :=
  taken (fun s => onExpiry s.syn.window 1200 windowEnded s) s

/-- CC_AUX takes a level (R114, R115, R122): it confirms a command within its window, and outside one raises CONTACTOR_FAIL
where it has left the commanded position. -/
def ccAuxTaken (closed : Bool) (s : State) : State :=
  let moved := setPermit
    { s with
      ccAux := closed
      syn := { s.syn with
        confirmed := s.syn.confirmed || (s.syn.window.isSome && closed == s.syn.cmdClosed) } }
  reportClosed moved

/-- The change of CC_AUX leaves the commanded position outside a window (R115). -/
def ccAuxStrays (closed : Bool) (s : State) : Bool := s.syn.window.isNone && closed != s.syn.cmdClosed

/-- CC_AUX_CHANGE (R115). A level that CC_AUX already has is no change. -/
def execCcAuxChange (closed : Bool) (s : State) : Host.Outcome State Fault Refusal :=
  taken
    (fun s =>
      if s.ccAux = closed then s
      else raiseIf (ccAuxStrays closed s) .contactorFail (announcing (ccAuxTaken closed) s)) s

/-! ### Ship synchronising -/

/-- The ship dwell is complete: ready is set, and the permit drive follows (R121, R122). -/
def shipDwellDone (s : State) : State := setPermit { s with syn := { s.syn with ready := true } }

/-- SHIP_DWELL_COMPLETE (R121). -/
def execShipDwellComplete (s : State) : Host.Outcome State Fault Refusal :=
  running
    (announcing fun s =>
      if s.ssc.station = .shipSync ∧ s.syn.ready = false then
        onExpiry s.syn.shipDwell (ms s.params.shipDwell) shipDwellDone s
      else s) s

/-- The sync time limit has expired: SYNC_TIMEOUT, and the station returns to ONLINE (R124, R93). -/
def syncLimitReached (s : State) : State := enterOnline (raise .syncTimeout s)

/-- SYNC_TIME_LIMIT_EXPIRY (R124). -/
def execSyncTimeLimitExpiry (s : State) : Host.Outcome State Fault Refusal :=
  running
    (announcing fun s =>
      if s.ssc.station = .shipSync then onExpiry s.syn.syncLimit (sec s.params.syncLimit) syncLimitReached s else s) s

/-! ### The ship breaker -/

/-- The ship breaker closes: the own permit drive is judged (R125), and ONLINE and SHIP_SYNC move to HANDOVER_IN (R93). -/
def breakerCloses (s : State) : State :=
  let judged := raiseIf (!s.syn.permit) .shipBreakerFail { s with sbAux := true }
  if judged.phase = .run ∧ (judged.ssc.station = .online ∨ judged.ssc.station = .shipSync) then enterHandoverIn judged
  else judged

/-- SB_AUX_CLOSE (R125). Where SB_AUX already reports closed there is no change. -/
def execSbAuxClose (s : State) : Host.Outcome State Fault Refusal :=
  taken (announcing fun s => if s.sbAux then s else breakerCloses s) s

/-- The EVENT of a parting: the seconds in HANDOVER_OUT and P‰ (R142, 13.4). -/
def recordParted (s : State) : State :=
  submitEvent 4 (satBytes 2 (secondsSince s.hoc.entered s) ++ sBytes s.msu.p) s

/-- The EVENT of a ship lost: the state left and P‰ (R94, 13.4). -/
def recordShipLost (s : State) : State := submitEvent 5 (BitVec.ofNat 8 s.ssc.station.code :: sBytes s.msu.p) s

/-- The ship breaker opens: a parting or a ship lost, into ONLINE (R94, R142). -/
def breakerOpens (s : State) : State :=
  let opened : State := { s with sbAux := false }
  if s.phase = .run ∧ s.ssc.station.shipConnected = true then
    enterOnline (if s.ssc.station = .handoverOut ∧ s.hoc.ready = true then recordParted opened else recordShipLost opened)
  else opened

/-- SB_AUX_OPEN (R94, R126). Where SB_AUX already reports open there is no change. -/
def execSbAuxOpen (s : State) : Host.Outcome State Fault Refusal :=
  taken (announcing fun s => if s.sbAux then breakerOpens s else s) s

/-! ### TRIP_IN -/

/-- TRIP_IN_ASSERTED (R173). Where TRIP_IN already stands asserted there is no change. -/
def execTripInAsserted (s : State) : Host.Outcome State Fault Refusal :=
  taken (fun s => if s.tripIn then s else raise .tripInput { s with tripIn := true }) s

/-- TRIP_IN_RELEASED (R173): the cause of TRIP_INPUT ends; a held condition stays. -/
def execTripInReleased (s : State) : Host.Outcome State Fault Refusal :=
  taken (fun s => { s with tripIn := false }) s

end Sys2Proof.Machine
end

