-- ==== Sys2Proof/Machine/PeerView.lean ====
section
/-! DEFINITION. The Peer View (chapter 4): peer entries, the ship record, what a received broadcast does, the own cadence,
and the meanings of the commands of its timers. -/

namespace Sys2Proof.Machine

/-! ### Peer entries -/

/-- The entry of an address. -/
def peerAt (a : Addr) (ps : List Peer) : Option Peer := ps.find? (·.addr == a)

/-- An entry put in its place: entries stand in rising order of address, one for each (R63). -/
def putPeer (e : Peer) : List Peer → List Peer
  | [] => [e]
  | x :: xs =>
      if x.addr = e.addr then e :: xs
      else if x.addr < e.addr then x :: putPeer e xs
      else e :: x :: xs

/-- The entry of an address removed. -/
def dropPeer (a : Addr) (ps : List Peer) : List Peer := ps.filter fun e => e.addr != a

/-- The entries of the view replaced. -/
def withPeers (ps : List Peer) (s : State) : State := { s with pvw := { s.pvw with peers := ps } }

/-- The entry a STATUS makes (R64, 13.3). -/
def statusEntry (sender : Addr) (state : StationState) (p : List Byte) (now : Nat) : Peer :=
  { addr := sender, state := state, contactor := (p.getD 1 0).getLsbD 0, ready := (p.getD 1 0).getLsbD 2
    aborted := (p.getD 1 0).getLsbD 4, session := BitVec.ofNat 32 (fieldNat p 2 4)
    rating := (p.getD 6 0).setWidth 2, p := beInt16 (field p 7 2), q := beInt16 (field p 9 2)
    lastSeq := p.getD 13 0, contOk := (p.getD 1 0).getLsbD 6, refreshed := now, stale := false }

/-- A STATUS changes the view: it creates the sender's entry, or changes the entry's state or flags, which are contactor
closed, ready-to-part and aborted (4.2, R139). -/
def entryChanges (old : Option Peer) (new : Peer) : Bool :=
  match old with
  | none => true
  | some e =>
      e.state != new.state || e.contactor != new.contactor || e.ready != new.ready || e.aborted != new.aborted

/-- HOC judges the view where it has changed (R135, R139). -/
def judgedIf (changed : Bool) (s : State) : State := if changed then viewJudged s else s

/-- A STATUS from a peer acts on the view by its state field (R63, R64). -/
def statusTaken (sender : Addr) (p : List Byte) (s : State) : State :=
  if sender = s.addr ∨ p.length ≠ 16 ∨ 3 < (p.getD 6 0).toNat then s
  else
    match StationState.ofCode (p.getD 0 0).toNat with
    | none => s
    | some st =>
        if st = .standby then
          judgedIf (peerAt sender s.pvw.peers).isSome (withPeers (dropPeer sender s.pvw.peers) s)
        else if st.broadcasting then
          judgedIf (entryChanges (peerAt sender s.pvw.peers) (statusEntry sender st p s.now))
            (withPeers (putPeer (statusEntry sender st p s.now) s.pvw.peers) s)
        else s

/-- A CONT_STATUS on an entry: accepted in sequence, else its continuation context becomes invalid (R65). -/
def Peer.continued (p : List Byte) (now : Nat) (e : Peer) : Peer :=
  if e.contOk = true ∧ p.getD 0 0 = e.lastSeq + 1 then
    { e with p := beInt16 (field p 1 2), q := beInt16 (field p 3 2), lastSeq := p.getD 0 0, refreshed := now, stale := false }
  else { e with contOk := false }

/-- A CONT_STATUS from a peer (R63, R65). It carries neither state nor flags, and is no change of the view for HOC (R139). -/
def contStatusTaken (sender : Addr) (p : List Byte) (s : State) : State :=
  if sender = s.addr ∨ p.length ≠ 6 then s
  else
    match peerAt sender s.pvw.peers with
    | none => s
    | some e => withPeers (putPeer (e.continued p s.now) s.pvw.peers) s

/-- A TRIP_NOTICE on an entry (R66). -/
def Peer.tripped (e : Peer) : Peer := { e with state := .tripped, contactor := false, contOk := false }

/-- A TRIP_NOTICE from a peer: its entry, the claim it holds, and where it has an entry the view (R63, R66, R108, R139). -/
def tripNoticeTaken (sender : Addr) (p : List Byte) (s : State) : State :=
  if sender = s.addr ∨ p.length ≠ 2 then s
  else
    judgedIf (peerAt sender s.pvw.peers).isSome (expireClaimOf sender
      (match peerAt sender s.pvw.peers with
      | some e => withPeers (putPeer e.tripped s.pvw.peers) s
      | none => s))

/-! ### The ship record -/

/-- The ship record of a SHIP_STATUS; the stale timer of a handover in returns to zero (R68, R69, R133). -/
def shipRecorded (p : List Byte) (s : State) : State :=
  { s with
    pvw := { s.pvw with
      ship := some { gensets := (p.getD 0 0).toNat, load := fieldNat p 1 2, refreshed := s.now, stale := false }
      shipStale := false }
    hoc := { s.hoc with stale := none } }

/-- SSC judges the gensets closed count of an accepted SHIP_STATUS (R94). -/
def gensetsJudged (gensets : Nat) (s : State) : State :=
  if s.ssc.station = .handoverIn ∧ gensets = 0 then enterSupplying s
  else if s.ssc.station = .supplying ∧ 1 ≤ gensets ∧ s.hoc.returnArmed = true then enterHandoverOut s
  else s

/-- A SHIP_STATUS from the gateway (R68). -/
def shipStatusTaken (p : List Byte) (s : State) : State :=
  if p.length = 4 ∧ (p.getD 0 0).toNat ≤ 8 then gensetsJudged (p.getD 0 0).toNat (shipRecorded p s) else s

/-! ### The own cadence -/

/-- An own STATUS is pending (R56). -/
def statusPending (s : State) : Bool := s.lkc.queue.any fun e => e.frame.kind == .status

/-- The broadcast of a slot (R56, R60). -/
def slotBroadcast (slot : Nat) (s : State) : State :=
  if slot = 0 then submit (statusFrame s) s
  else if s.ssc.station = .tripped ∨ s.ssc.station = .closing then s
  else if statusPending s then submit (statusFrame s) s
  else submit (contStatusFrame s) s

/-- The cadence timer has expired (R56). -/
def cadenceWork (s : State) : State :=
  slotBroadcast ((s.pvw.slot + 1) % 5)
    { s with pvw := { s.pvw with slot := (s.pvw.slot + 1) % 5, cadence := Timer.restart 160 s.pvw.cadence } }

/-- CADENCE_EXPIRY (R56). -/
def execCadenceExpiry (s : State) : Host.Outcome State Fault Refusal :=
  running (fun s => if s.ssc.station.broadcasting then onExpiry s.pvw.cadence 160 cadenceWork s else s) s

/-- The moment an entry was last refreshed, none where there is no entry. -/
def peerTimer (a : Addr) (s : State) : Timer := (peerAt a s.pvw.peers).map (·.refreshed)

/-- An entry passes 60 ms of age (R67); going stale is a change of the view (R139). -/
def peerStale (a : Addr) (s : State) : State :=
  judgedIf ((peerAt a s.pvw.peers).any fun e => !e.stale)
    (withPeers (s.pvw.peers.map fun e => if e.addr = a then { e with stale := true } else e) s)

/-- PEER_ENTRY_STALE (R67). -/
def execPeerEntryStale (addr : Addr) (s : State) : Host.Outcome State Fault Refusal :=
  running (announcing fun s => onExpiry (peerTimer addr s) 480 (peerStale addr) s) s

/-- An entry reaches 500 ms of age (R67). -/
def peerRemoved (a : Addr) (s : State) : State := viewJudged (withPeers (dropPeer a s.pvw.peers) s)

/-- PEER_ENTRY_REMOVED (R67). -/
def execPeerEntryRemoved (addr : Addr) (s : State) : Host.Outcome State Fault Refusal :=
  running (announcing fun s => onExpiry (peerTimer addr s) 4000 (peerRemoved addr) s) s

/-- The ship record's age exceeds 300 ms (R69, R133). -/
def shipAged (s : State) : State :=
  { s with
    pvw := { s.pvw with
      ship := s.pvw.ship.map fun r => { r with stale := true }
      shipStale := s.ssc.station.broadcasting }
    hoc := { s.hoc with
      stale := if s.ssc.station = .handoverIn ∧ s.hoc.stale.isNone = true then some s.now else s.hoc.stale } }

/-- SHIP_RECORD_STALE (R69). -/
def execShipRecordStale (s : State) : Host.Outcome State Fault Refusal :=
  running (fun s => onExpiry (s.pvw.ship.map (·.refreshed)) 2400 shipAged s) s

end Sys2Proof.Machine
end

