-- ==== Sys2Proof/Machine/Metering.lean ====
section
/-! DEFINITION. The Energy Meter (chapter 10): integration, interval and session closes, marks, and the meanings of
INTERVAL_TICK and INTERVAL_SELF_CLOSE. -/

namespace Sys2Proof.Machine

/-- The session context is OPEN (R88). -/
def sessionOpen (s : State) : Bool :=
  match s.ssc.session with
  | some c => c.opened
  | none => false

/-- The rating of the RATE strap in VA (R145). -/
def ratingVa (r : BitVec 2) : Int := (r.toNat + 1) * 500000

/-- A sample's active product in watts (R145). -/
def wattsOf (p : Int) (rating : BitVec 2) : Int := (p * ratingVa rating).tdiv 346410162

/-- Watt-samples added to the session and to the open interval, forward or reverse (R145). -/
def Meter.add (w : Int) (m : Meter) : Meter :=
  { m with
    sessionFwd := m.sessionFwd + w.toNat, intervalFwd := m.intervalFwd + w.toNat
    sessionRev := m.sessionRev + (-w).toNat, intervalRev := m.intervalRev + (-w).toNat }

/-- The gate of R145: the session OPEN, ship breaker and module contactor reported closed. -/
def energyGate (s : State) : Bool := sessionOpen s && s.sbAux && s.ccAux

/-- EMT integrates a sample's active product (R145). -/
def integrate (p : Int) (s : State) : State :=
  { s with emt := if energyGate s then s.emt.map (Meter.add (wattsOf p s.rating)) else s.emt }

/-- Watt-samples in one Wh. -/
def wattSamplesPerWh : Nat := 28800000

/-- The whole Wh carried out of the open interval (R147, steps 1 and 2). -/
def Meter.carry (m : Meter) : Meter :=
  { m with
    closedFwd := m.closedFwd + m.intervalFwd / wattSamplesPerWh, intervalFwd := m.intervalFwd % wattSamplesPerWh
    closedRev := m.closedRev + m.intervalRev / wattSamplesPerWh, intervalRev := m.intervalRev % wattSamplesPerWh }

/-- The next interval opens (R147, step 4). -/
def Meter.next (number : Nat) (tariff : Byte) (now : Nat) (m : Meter) : Meter :=
  { m with number := min 65535 number, tariff := tariff, flags := .clear, elapsed := 0, tick := some now }

/-- An interval close, its flags as the cause leaves them (R147, steps 1 to 3): the carry, the INTERVAL record and the
INTERVAL_REPORT frame, intervals closed up by 1. -/
def closeInterval (id : SessionId) (flags : IntervalFlags) (m : Meter) (s : State) : State :=
  let fwd := m.intervalFwd / wattSamplesPerWh
  let rev := m.intervalRev / wattSamplesPerWh
  let closing := { m with flags := flags }
  let recorded := submitRecord (intervalRecord id closing fwd rev) (some id) { s with emt := some closing.carry }
  let reported := submit (intervalReportFrame id closing fwd rev) recorded
  { reported with emt := reported.emt.map fun x => { x with closedCount := min 65535 (x.closedCount + 1) } }

/-- An interval close that opens the next interval (R147 to R151). -/
def closeAndOpen (flags : IntervalFlags) (number : Nat) (tariff : Byte) (s : State) : State :=
  match s.ssc.session, s.emt with
  | some c, some m =>
      let t := closeInterval c.id flags m s
      { t with emt := t.emt.map (Meter.next number tariff s.now) }
  | _, _ => s

/-- The session close (R152): FINAL, ABANDONED on an abandonment, SESSION_CLOSE, the tick stopped. -/
def closeSession (abandoned : Bool) (s : State) : State :=
  match s.ssc.session, s.emt with
  | some c, some m =>
      let t := closeInterval c.id { m.flags with final := true } m s
      match t.emt with
      | some x =>
          let x' := { x with abandoned := abandoned || x.abandoned, tick := none }
          submitRecord (sessionCloseRecord c.id x') (some c.id) { t with emt := some x' }
      | none => t
  | _, _ => s

/-- A MARK as EMT handles it: normal (R148), late (R149) or gap (R150). -/
def takeMark (number : Nat) (tariff : Byte) (s : State) : State :=
  match s.emt with
  | none => s
  | some m =>
      if number = m.number then closeAndOpen m.flags (number + 1) tariff s
      else if number < m.number then
        submitEvent 7 (beBytes 2 number ++ satBytes 2 m.number) (raise .markLate s)
      else closeAndOpen { m.flags with gap := true } (number + 1) tariff s

/-- A MARK closes an interval (R148 to R150). -/
def markCloses (number : Nat) (s : State) : Bool :=
  match s.emt with
  | none => false
  | some m => decide (m.number ≤ number)

/-- READ_METER's data (R155, 13.3). -/
def meterData (m : Meter) : List Byte :=
  satBytes 4 (m.closedFwd + m.intervalFwd / wattSamplesPerWh) ++
    satBytes 4 (m.closedRev + m.intervalRev / wattSamplesPerWh) ++ satBytes 2 m.number ++
    satBytes 4 (m.intervalFwd / wattSamplesPerWh)

/-- One second of the interval tick (R146). -/
def Meter.second (m : Meter) : Meter := { m with elapsed := m.elapsed + 1, tick := Timer.restart 8000 m.tick }

/-- Where the interval tick started, none where no OPEN context runs it (R146). -/
def meterTick (s : State) : Timer :=
  match s.emt with
  | some m => if sessionOpen s then m.tick else none
  | none => none

/-- INTERVAL_TICK: a second of the open interval has passed (R146). -/
def execIntervalTick (s : State) : Host.Outcome State Fault Refusal :=
  running (fun s => onExpiry (meterTick s) 8000 (fun s => { s with emt := s.emt.map Meter.second }) s) s

/-- The meter's own timer closes the open interval, where its elapsed time has reached the length plus 60 s (R151). -/
def selfClose (s : State) : State :=
  match s.ssc.session, s.emt with
  | some c, some m =>
      if c.opened = true ∧ c.minutes * 60 + 60 ≤ m.elapsed then
        closeAndOpen { m.flags with selfClosed := true } (m.number + 1) m.tariff s
      else s
  | _, _ => s

/-- INTERVAL_SELF_CLOSE (R151). -/
def execIntervalSelfClose (s : State) : Host.Outcome State Fault Refusal := running selfClose s

end Sys2Proof.Machine
end

