-- ==== Sys2Proof/Machine/Store.lean ====
section
/-! DEFINITION. The record store (chapter 11): placement, the writer's operations, recovery, read back, settling after a
warm reset, and the meanings of its commands. -/

namespace Sys2Proof.Machine

/-! ### Placement (R162) -/

/-- The sector after one in the ring (R160). -/
def nextSector (n : Nat) : Nat := if 511 ≤ n then 1 else n + 1

/-- The end of the page that holds an offset. -/
def pageEnd (offset : Nat) : Nat := (offset / 256 + 1) * 256

/-- Where a record of a size goes in the sector: none where it makes a sector change (R162). -/
def placement (offset size : Nat) : Option Nat :=
  if offset < 4096 ∧ offset + size ≤ pageEnd offset then some offset
  else if pageEnd offset < 4096 then some (pageEnd offset)
  else none

/-! ### The writer's operations (R163) -/

/-- The writer state of an operation (R163). -/
def WriterOp.writer : WriterOp → WriterState
  | .logErase _ _ => .erasing
  | .head _ _ => .programming
  | .record _ _ => .programming
  | .configErase => .erasing
  | .configProgram => .programming
  | .formatErase => .erasing
  | .formatHead => .programming
  | .recovery => .faulted

/-- The record at the head of the queue, as it is written: empty where the queue is empty. -/
def headRecordBytes (s : State) : List Byte :=
  match s.rwr.queue with
  | r :: _ => r.record.bytes (r.stamp.getD 0)
  | [] => []

/-- The stamp of the record at the head of the queue (R162). -/
def headStamp (s : State) : Nat :=
  match s.rwr.queue with
  | r :: _ => r.stamp.getD 0
  | [] => 0

/-- The operation the memory is given for a writer operation (R159, R162, R165). -/
def WriterOp.memOp (s : State) : WriterOp → MemOp
  | .logErase sector _ => .erase sector
  | .head sector seq => .program (sector * 4096) (sectorHeadBytes s seq (headStamp s))
  | .record sector offset => .program (sector * 4096 + offset) (headRecordBytes s)
  | .configErase => .erase 0
  | .configProgram => .program 0 (configRecordBytes (s.rwr.config.getD []))
  | .formatErase => .erase 1
  | .formatHead => .program 4096 (sectorHeadBytes s 1 1)
  | .recovery => .program 0 []

/-- An operation on the port: continuous-read exit, write enable, the operation; the busy timeout runs (R163). -/
def issueOp (op : WriterOp) (s : State) : State :=
  { s with
    rwr := { s.rwr with writer := op.writer, op := some op, busy := some s.now }
    fpt := { s.fpt with port := some .writer, contRead := false }
    mem := s.mem.issue (op.memOp s) }

/-- The writer begins an operation: on the port at once where it is free, else waiting for it (R170, log 15). -/
def startOp (op : WriterOp) (s : State) : State :=
  if s.fpt.port.isNone then issueOp op s
  else { s with rwr := { s.rwr with writer := op.writer, op := some op, busy := none } }

/-- The writer without work. -/
def writerIdle (s : State) : State := { s with rwr := { s.rwr with writer := .idle, op := none, busy := none } }

/-- The writer takes its next work: a configuration write before the head record (R163), or enters IDLE. -/
def takeNext (s : State) : State :=
  match s.rwr.config, s.rwr.queue with
  | some _, _ => startOp .configErase s
  | none, r :: _ =>
      match placement s.rwr.offset r.record.size with
      | some offset => startOp (.record s.rwr.sector offset) s
      | none => startOp (.logErase (nextSector s.rwr.sector) (s.rwr.secSeq + 1)) s
  | none, [] => writerIdle s

/-- The port given back by the writer. -/
def freePort (s : State) : State :=
  if s.fpt.port = some .writer then releasePort s else s

/-- The head record is written: it leaves the queue, and the write position is the byte after it (R162, R163). -/
def recordWritten (sector offset : Nat) (s : State) : State :=
  { s with rwr := { s.rwr with
      queue := s.rwr.queue.tail
      sector := sector
      offset := offset + (s.rwr.queue.head?.map (·.record.size)).getD 0 } }

/-- The writer is working: neither in a reset nor in the settling after one. -/
def writerFree (s : State) : Bool := s.rwr.writer == .idle && s.rwr.start == .none && s.rwr.recovered && !s.rwr.settling

/-- WRITER_TAKE_WORK (R163). -/
def execWriterTakeWork (s : State) : Host.Outcome State Fault Refusal :=
  running (fun s => if writerFree s then takeNext s else s) s

/-- A writer operation waits for the port. -/
def writerWaits (s : State) : Bool :=
  (s.rwr.writer == .programming || s.rwr.writer == .erasing) && s.rwr.op.isSome && s.rwr.busy.isNone

/-- A chunk of the readout waits for the port: bytes remaining and 3 free entries (R168). That the 3 free entries are asked
for again at the grant, of a chunk that has waited for a held port since it found them, is the model's choice (DESIGN CHOICE,
log 40). -/
def chunkWaits (s : State) : Bool :=
  match s.fpt.readout with
  | some r => decide (0 < r.remaining) && decide (3 ≤ s.lkc.free)
  | none => false

/-- The free port is granted, the writer before a chunk (R170). -/
def grantPort (s : State) : State :=
  if s.fpt.port.isSome then s
  else if writerWaits s then
    match s.rwr.op with
    | some op => issueOp op s
    | none => s
  else if chunkWaits s then { s with fpt := { s.fpt with port := some .chunk } }
  else s

/-- MEMORY_PORT_GRANT (R170). -/
def execMemoryPortGrant (s : State) : Host.Outcome State Fault Refusal := running grantPort s

/-! ### The recovery (R165, R166) -/

/-- A sector's head where it is a candidate: its sector sequence and next record sequence (R165, R182). -/
def headOf (m : Memory) (sector : Nat) : Option (Nat × Nat) :=
  let h := memBytes m (sector * 4096) 16
  if h.getD 0 0 = 0x01#8 ∧ h.getD 1 0 = 0x01#8 ∧ h = withCrc16 (h.take 14) then
    some (fieldNat h 6 4, fieldNat h 2 4)
  else none

/-- The head sector among sectors 1 to `n`: the greatest sector sequence, the lowest sector of equals (R165). -/
def findHead (m : Memory) : Nat → Option (Nat × Nat × Nat)
  | 0 => none
  | n + 1 =>
      match findHead m n, headOf m (n + 1) with
      | best, none => best
      | none, some (seq, next) => some (n + 1, seq, next)
      | some (b, bs, bn), some (seq, next) => if bs < seq then some (n + 1, seq, next) else some (b, bs, bn)

/-- How the walk takes a position: the end, or the next position with the stamp of a valid record (R166). -/
inductive WalkStep where
  | finished
  | move (next : Nat) (stamp : Option Nat)
  deriving DecidableEq, Repr

/-- The walk's reading of one position of a sector (R166, R182). -/
def walkStep (m : Memory) (base pos : Nat) : WalkStep :=
  if m.get (base + pos) = 0xFF#8 then
    if pos % 256 = 0 ∧ (memBytes m (base + pos) 256).all (· == 0xFF#8) = true then .finished
    else .move (pageEnd pos) none
  else
    match recordSize (m.get (base + pos)).toNat with
    | none => .move (pageEnd pos) none
    | some size =>
        let bytes := memBytes m (base + pos) size
        if (bytes.getD 1 0).toNat * 16 = size ∧ pos + size ≤ pageEnd pos ∧ bytes = withCrc16 (bytes.take (size - 2)) then
          .move (pos + size) (some (fieldNat bytes 2 4))
        else .move (pageEnd pos) none

/-- The walk of a sector from a position: the write position and the last stamp (R166). Every step advances by 16 or more,
so 256 steps reach the end of the sector. -/
def walk (m : Memory) (base : Nat) : Nat → Nat → Option Nat → Nat × Option Nat
  | 0, _, last => (4096, last)
  | fuel + 1, pos, last =>
      if 4096 ≤ pos then (4096, last)
      else
        match walkStep m base pos with
        | .finished => (pos, last)
        | .move next stamp => walk m base fuel next (stamp.orElse fun _ => last)

/-- Waiting records stamped in order (R161). -/
def stampQueue : Nat → List QueuedRecord → List QueuedRecord
  | _, [] => []
  | n, r :: rest =>
      match r.stamp with
      | some _ => r :: stampQueue n rest
      | none => { r with stamp := some n } :: stampQueue (n + 1) rest

/-- How many records wait unstamped. -/
def unstamped (q : List QueuedRecord) : Nat := q.countP fun r => r.stamp.isNone

/-- The recovery ends with the write position and the counters it has found: waiting records stamped, the writer IDLE, the
start work ended (R166). -/
def finishRecovery (sector offset secSeq recSeq : Nat) (s : State) : State :=
  endStarting
    { s with rwr := { s.rwr with
        sector := sector, offset := offset, secSeq := secSeq, recSeq := recSeq + unstamped s.rwr.queue
        queue := stampQueue recSeq s.rwr.queue
        recovered := true, writer := .idle, op := none, busy := none, start := .none, startTimer := none } }

/-- The memory is not busy: what it was doing has ended (R165, R167). -/
def memReady (s : State) : State := { s with mem := s.mem.finish }

/-- The recovery of the log with busy clear (R165, R166). -/
def recoverLog (s : State) : State :=
  let r := memReady s
  match findHead r.mem 511 with
  | none => startOp .formatErase { r with rwr := { r.rwr with start := .format, startTimer := none } }
  | some (sector, seq, next) =>
      let w := walk r.mem (sector * 4096) 256 16 none
      finishRecovery sector w.1 seq
        (match w.2 with
        | some stamp => stamp + 1
        | none => next) r

/-- LOG_RECOVERY_COMPLETE (R166): after the exit with which the recovery begins (R165, R169). -/
def execLogRecoveryComplete (s : State) : Host.Outcome State Fault Refusal :=
  running (fun s => if s.rwr.start = .recovery ∧ s.fpt.exitWaits = false then recoverLog s else s) s

/-- The recovery begins: a continuous-read exit, then a status read for up to 500 ms (R165, R169). -/
def startRecovery (s : State) : State :=
  requestExit { s with rwr := { s.rwr with
      start := .recovery, startTimer := some s.now, writer := .idle, op := none, busy := none } }

/-! ### Completion of programs and erases (R163) -/

/-- Busy clears at the end of a page program (R162, R163). -/
def programEnded (s : State) : State :=
  let t := freePort { s with mem := s.mem.finish }
  match s.rwr.op with
  | some (.head sector _) =>
      startOp (.record sector 16)
        { t with rwr := { t.rwr with sector := sector, offset := 16 } }
  | some (.record sector offset) => takeNext (recordWritten sector offset t)
  | some .configProgram => takeNext { t with rwr := { t.rwr with config := none } }
  | some .formatHead => finishRecovery 1 16 1 1 t
  | _ => t

/-- A program is running on the port for the writer. -/
def writerBusyWith (w : WriterState) (s : State) : Bool := s.rwr.writer == w && s.rwr.busy.isSome && s.rwr.op.isSome

/-- PROGRAM_COMPLETE (R163). -/
def execProgramComplete (s : State) : Host.Outcome State Fault Refusal :=
  running (fun s => if writerBusyWith .programming s then programEnded s else s) s

/-- Busy clears at the end of a sector erase; in a sector change the sector sequence counter advances then (R162, R163). -/
def eraseEnded (s : State) : State :=
  let t := freePort { s with mem := s.mem.finish }
  match s.rwr.op with
  | some (.logErase sector seq) => startOp (.head sector seq) { t with rwr := { t.rwr with secSeq := seq } }
  | some .configErase => startOp .configProgram t
  | some .formatErase => startOp .formatHead t
  | _ => t

/-- ERASE_COMPLETE (R163). -/
def execEraseComplete (s : State) : Host.Outcome State Fault Refusal :=
  running (fun s => if writerBusyWith .erasing s then eraseEnded s else s) s

/-! ### Faults of the writer (R163 to R165) -/

/-- The writer enters FAULTED with a failed position: the memory was found busy, the 100 ms status reads start, and
RECORD_STORE_FAULT is raised (R163 to R165). -/
def writerFaults (op : Option WriterOp) (s : State) : State :=
  raise .recordStoreFault
    { s with rwr := { s.rwr with
        writer := .faulted, op := op, busy := none, faultBusy := true, statusTick := some s.now } }

/-- The start work ends unfinished (R165). -/
def startWorkFails (s : State) : State :=
  endStarting { s with rwr := { s.rwr with start := .none, startTimer := none } }

/-- The busy timeout of the operation in hand: 500 ms for an erase, 5 ms for a program (R163). -/
def busyLimit (s : State) : Nat := if s.rwr.writer = .erasing then 4000 else 40

/-- A program or erase is still busy at its timeout (R163); in the format of a new log the start work ends as well
(R165, log 16). -/
def busyExpired (s : State) : State :=
  let t := writerFaults s.rwr.op (freePort s)
  if s.rwr.start = .format then startWorkFails t else t

/-- BUSY_TIMEOUT (R163). -/
def execBusyTimeout (s : State) : Host.Outcome State Fault Refusal :=
  running
    (fun s =>
      if writerBusyWith .programming s || writerBusyWith .erasing s then onExpiry s.rwr.busy (busyLimit s) busyExpired s
      else s) s

/-- The status read of a FAULTED writer finds the memory busy, or not (R164). -/
def statusRead (busy : Bool) (s : State) : State :=
  let found := busy && s.mem.op.isSome
  { s with
    mem := if found then s.mem else s.mem.finish
    rwr := { s.rwr with faultBusy := found, statusTick := Timer.restart 800 s.rwr.statusTick } }

/-- FAULTED_STATUS_READ (R164): it waits while a chunk holds the port (R170). -/
def execFaultedStatusRead (busy : Bool) (s : State) : Host.Outcome State Fault Refusal :=
  running
    (fun s =>
      if s.rwr.writer = .faulted ∧ s.fpt.port ≠ some .chunk then onExpiry s.rwr.statusTick 800 (statusRead busy) s
      else s) s

/-- The record whose program was cut off or timed out: read back, and taken as written where the bytes agree; else its page
is torn, and it is placed from the next page start (R164, R167). It is read at once, whoever holds the port (log 36). -/
def readBack (sector offset : Nat) (s : State) : State :=
  if memBytes s.mem (sector * 4096 + offset) (headRecordBytes s).length = headRecordBytes s then
    takeNext (recordWritten sector offset s)
  else takeNext { s with rwr := { s.rwr with sector := sector, offset := min 4096 (pageEnd offset) } }

/-- An operation cut off or failed is resumed (R164, R167). -/
def resumeOp (op : Option WriterOp) (s : State) : State :=
  match op with
  | some (.record sector offset) => readBack sector offset s
  | some (.logErase sector seq) => startOp (.logErase sector seq) s
  | some (.head sector seq) => startOp (.logErase sector seq) s
  | some .configErase => startOp .configErase s
  | some .configProgram => startOp .configErase s
  | some .formatErase => startRecovery s
  | some .formatHead => startRecovery s
  | some .recovery => startRecovery s
  | none => takeNext s

/-- A CLEAR has removed RECORD_STORE_FAULT: FAULTED ends at once and the writer resumes (R164). -/
def resumeWriter (s : State) : State :=
  if s.rwr.writer = .faulted then
    resumeOp s.rwr.op (writerIdle { s with rwr := { s.rwr with faultBusy := false, statusTick := none } })
  else s

/-! ### Start work (R158, R165) -/

/-- The configuration load (R158), its exit made as it began. `busy`: the memory is still busy with an operation from before
the reset. A configuration write that the reset cut off leaves no good record to be found (R159, log 38). -/
def loadConfig (busy : Bool) (s : State) : State :=
  let found := busy && s.mem.op.isSome
  let t : State :=
    { s with
      mem := if found then s.mem else s.mem.finish
      freeCount := if found then s.freeCount + 1 else s.freeCount }
  let bytes := memReadBytes t 0 32
  let block := (bytes.drop 2).take 28
  let good := configGood bytes && !s.mem.writesConfig
  startRecovery
    (raiseIf (!good || blockAdjusted block) .configAdjusted
      { t with params := if good then loadParams block else Params.default })

/-- CONFIG_LOAD_COMPLETE (R158): after a warm reset in STARTING not before its status wait has ended (R167). -/
def execConfigLoadComplete (busy : Bool) (s : State) : Host.Outcome State Fault Refusal :=
  running
    (fun s =>
      if s.rwr.start = .configLoad ∧ s.ssc.station = .starting ∧ s.rwr.settling = false then loadConfig busy s else s) s

/-- The memory is still busy 500 ms into the recovery (R165). -/
def recoveryTimedOut (s : State) : State := startWorkFails (writerFaults (some .recovery) s)

/-- RECOVERY_BUSY_TIMEOUT (R165). -/
def execRecoveryBusyTimeout (s : State) : Host.Outcome State Fault Refusal :=
  running
    (fun s =>
      if s.rwr.start = .recovery ∧ s.mem.op.isSome = true then onExpiry s.rwr.startTimer 4000 recoveryTimedOut s
      else s) s

/-! ### After a warm reset (R167) -/

/-- The status wait at the end of a warm reset is over (R167). -/
def Rwr.settled (r : Rwr) : Rwr := { r with settling := false, startTimer := none, inFlight := none }

/-- What was in flight is settled, busy being clear; a FAULTED writer stays FAULTED, and in STARTING the start work goes on to
its configuration load (R167). -/
def settleWriter (s : State) : State :=
  let t := memReady { s with rwr := s.rwr.settled }
  if s.rwr.writer = .faulted then { t with rwr := { t.rwr with faultBusy := false } }
  else if s.rwr.start = .configLoad then t
  else
    match s.rwr.inFlight with
    | some op => resumeOp (some op) t
    | none => t

/-- WARM_RESET_SETTLE (R167): after the exit at the end of the reset. -/
def execWarmResetSettle (s : State) : Host.Outcome State Fault Refusal :=
  running (fun s => if s.rwr.settling = true ∧ s.fpt.exitWaits = false then settleWriter s else s) s

/-- The memory is still busy 500 ms after a warm reset: the writer enters FAULTED with the in-flight work, or stays so with
its failed position (R167). In STARTING the start work then ends with the recovery unfinished, as R165 has it end where its
own status wait finds the memory busy, and nothing is loaded: R167 does not say so (DESIGN CHOICE, log 45). -/
def settleTimedOut (s : State) : State :=
  let t := writerFaults (if s.rwr.writer = .faulted then s.rwr.op else s.rwr.inFlight) { s with rwr := s.rwr.settled }
  if s.rwr.start = .configLoad then startWorkFails t else t

/-- WARM_RESET_BUSY_TIMEOUT (R167). -/
def execWarmResetBusyTimeout (s : State) : Host.Outcome State Fault Refusal :=
  running
    (fun s =>
      if s.rwr.settling = true ∧ s.mem.op.isSome = true then onExpiry s.rwr.startTimer 4000 settleTimedOut s else s) s

/-! ### Readout (R168, R169) -/

/-- A chunk is read and submitted (R168), and gives the port back. The read turns the continuous-read state on (R169), the
memory's mode with it, be it busy or not (log 35). -/
def readChunk (r : Readout) (s : State) : State :=
  let size := min 24 r.remaining
  let f := logDataFrame r.sector r.next (memReadBytes s (r.sector * 4096 + r.next) size)
  let t := submit f s
  releasePort { t with
    freeCount := if s.mem.op.isSome then s.freeCount + 1 else s.freeCount
    mem := { s.mem with cont := true }
    fpt := { s.fpt with
      contRead := true
      readout :=
        if submitted f s = .accepted then
          some { r with next := r.next + size, remaining := r.remaining - size }
        else some r } }

/-- READOUT_CHUNK (R168): the chunk holds the port, or takes the free port where no writer operation waits, and 3 entries are
free (log 40). The reads and status reads of a recovery and of the settling after a warm reset keep no chunk waiting
(log 36). -/
def execReadoutChunk (s : State) : Host.Outcome State Fault Refusal :=
  running
    (fun s =>
      match s.fpt.readout with
      | none => s
      | some r =>
          if 0 < r.remaining ∧
              (s.fpt.port = some .chunk ∨ (s.fpt.port = none ∧ writerWaits s = false ∧ 3 ≤ s.lkc.free)) then
            readChunk r s
          else s) s

/-- The final frame of a readout; where LKC accepts it the continuous-read exit follows, and with it the end (R168). -/
def endReadout (r : Readout) (s : State) : State :=
  let f := logDataFrame r.sector r.next []
  let t := submit f s
  if submitted f s = .accepted then requestExit { t with fpt := { s.fpt with readout := some { r with ended := true } } }
  else t

/-- READOUT_END_FRAME (R168). -/
def execReadoutEndFrame (s : State) : Host.Outcome State Fault Refusal :=
  running
    (fun s =>
      match s.fpt.readout with
      | none => s
      | some r => if r.remaining = 0 ∧ r.ended = false ∧ 3 ≤ s.lkc.free then endReadout r s else s) s

/-! ### The end of CLOSING (R96) -/

/-- RWR's queue holds a record of a session (R96, R161). -/
def holdsRecordOf (id : SessionId) (s : State) : Bool := s.rwr.queue.any fun r => r.session == some id

/-- CLOSING is judged (R96). -/
def closingJudged (s : State) : State :=
  if s.ssc.station = .closing ∧
      (s.rwr.writer = .faulted ∨ ((sessionId s).map fun i => holdsRecordOf i s).getD false = false) then
    enterStandby s
  else s

/-- CLOSING_END (R96). -/
def execClosingEnd (s : State) : Host.Outcome State Fault Refusal := running closingJudged s

end Sys2Proof.Machine
end

