-- ==== Sys2Proof/Machine/Requests.lean ====
section
/-! DEFINITION. The panel's requests as SSC takes them (6.8, R99 to R103): for each kind its reason of refusal in R99's
order, its effect, and the REPLY. -/

namespace Sys2Proof.Machine

/-- The REPLY to a request (R99). -/
def answer (number kind : Byte) (reason : Reason) (data : List Byte) (s : State) : State :=
  submit (replyFrame number kind reason data) s

/-- Cases 1 to 3 of R99: STARTING, a parameter length that is not the kind's, HELD. `inTripped`: the kind is one of CLEAR,
READ_METER, READ_LOG and MARK. -/
def earlyReason (length : Nat) (inTripped : Bool) (params : List Byte) (s : State) : Option Reason :=
  if s.ssc.station = .starting then some .starting
  else if params.length ≠ length then some .range
  else if s.ssc.station = .tripped ∧ inTripped = false then some .held
  else none

/-- The states in which a PREPARE is answered "unchanged" and a DISCONNECT closes the session: PREPARED, JOINING, ONLINE
(R100). -/
def StationState.unloaded : StationState → Bool
  | .prepared => true
  | .joining => true
  | .online => true
  | _ => false

/-! ### PREPARE (R89 to R91) -/

/-- The interval lengths (R88). -/
def goodMinutes (m : Nat) : Bool := m == 5 || m == 10 || m == 15 || m == 30 || m == 60

/-- A PREPARE examined in STANDBY lies outside its ranges (R100). -/
def prepareOutOfRange (p : PrepareParams) : Bool :=
  p.id == 0 || !(p.frequency == 50 || p.frequency == 60) || !goodMinutes p.minutes

/-- A retained session of the same id whose frequency or interval length differs (R90). -/
def prepareMismatch (p : PrepareParams) (s : State) : Bool :=
  match s.ssc.session with
  | some c => c.id == p.id && (c.is60 != (p.frequency == 60) || c.minutes != p.minutes)
  | none => false

/-- The outcome of a PREPARE (R99, R100). -/
def prepareReason (params : List Byte) (s : State) : Reason :=
  match earlyReason 8 false params s with
  | some r => r
  | none =>
      let p := prepareParams params
      if s.ssc.station = .standby then
        if prepareOutOfRange p then .range else if prepareMismatch p s then .session else .accepted
      else if s.ssc.station.unloaded = true ∧ sessionId s = some p.id then .accepted
      else .state

/-- The context a PREPARE gives: identity from the request, voltage clamped, OPEN (R89). -/
def preparedSession (p : PrepareParams) : Session :=
  { id := p.id, is60 := p.frequency == 60, voltage := clamp 950 1050 p.voltage, minutes := p.minutes, opened := true }

/-- SSC submits a SESSION_OPEN record of the context held (R89, R90). -/
def recordOpening (resumed : Bool) (s : State) : State :=
  match s.ssc.session, s.emt with
  | some c, some m => submitRecord (sessionOpenRecord s c m resumed) (some c.id) s
  | _, _ => s

/-- A new context is opened (R89). -/
def openSession (p : PrepareParams) (s : State) : State :=
  recordOpening false
    { s with ssc := { s.ssc with session := some (preparedSession p) }, emt := some (Meter.opening s.now) }

/-- The retained session is resumed: voltage taken anew, PARTIAL set (R90, R156). -/
def resumeSession (p : PrepareParams) (s : State) : State :=
  recordOpening true
    { s with
      ssc := { s.ssc with session := s.ssc.session.map fun c => { c with voltage := clamp 950 1050 p.voltage } }
      emt := s.emt.map fun m => { m with flags := { m.flags with partialIvl := true } } }

/-- The session context is settled by an accepted PREPARE in STANDBY: opened, resumed, or abandoned and opened. -/
def settleSession (p : PrepareParams) (s : State) : State :=
  match sessionId s with
  | none => openSession p s
  | some i =>
      if i = p.id then resumeSession p s
      else
        let t := closeSession true s
        openSession p { t with ssc := { t.ssc with session := none }, emt := none }

/-- The action code of the REPLY and the abandoned session's id, 0 if none (13.3). -/
def prepareAction (p : PrepareParams) (s : State) : Byte × SessionId :=
  if s.ssc.station = .standby then
    match sessionId s with
    | none => (1, 0)
    | some i => if i = p.id then (2, 0) else (1, i)
  else (3, 0)

/-- The data of an accepted PREPARE: the session as it stands in `after`, and how the PREPARE acted on `before`. -/
def prepareData (p : PrepareParams) (before after : State) : List Byte :=
  match after.ssc.session with
  | some c =>
      beBytes 4 c.id.toNat ++ BitVec.ofNat 8 (if c.is60 then 60 else 50) :: (beBytes 2 c.voltage.toNat ++
        BitVec.ofNat 8 c.minutes :: (prepareAction p before).1 :: beBytes 4 (prepareAction p before).2.toNat)
  | none => []

/-- A PREPARE taken (R89 to R91, R99, R100). -/
def prepareTaken (number : Byte) (params : List Byte) (s : State) : State :=
  let p := prepareParams params
  match prepareReason params s with
  | .accepted =>
      let t := if s.ssc.station = .standby then announcing (fun x => enterPrepared (settleSession p x)) s else s
      answer number 1 .accepted (prepareData p s t) t
  | r => answer number 1 r [] s

/-! ### SHIP_SYNC, RETURN, DISCONNECT -/

/-- The outcome of a SHIP_SYNC (R100). -/
def shipSyncReason (params : List Byte) (s : State) : Reason :=
  match earlyReason 0 false params s with
  | some r => r
  | none =>
      if s.ssc.station = .shipSync ∨ (s.ssc.station = .online ∧ s.btr.shipState = .live) then .accepted else .state

/-- A SHIP_SYNC taken (R93, R117). -/
def shipSyncTaken (number : Byte) (params : List Byte) (s : State) : State :=
  match shipSyncReason params s with
  | .accepted =>
      answer number 2 .accepted [] (if s.ssc.station = .online then announcing enterShipSync s else s)
  | r => answer number 2 r [] s

/-- The outcome of a RETURN (R100). -/
def returnReason (params : List Byte) (s : State) : Reason :=
  match earlyReason 0 false params s with
  | some r => r
  | none => if s.ssc.station = .supplying then .accepted else .state

/-- RETURN sets return armed (R136). -/
def armReturn (s : State) : State := { s with hoc := { s.hoc with returnArmed := true } }

/-- A RETURN taken (R136). -/
def returnTaken (number : Byte) (params : List Byte) (s : State) : State :=
  match returnReason params s with
  | .accepted => answer number 3 .accepted [] (announcing armReturn s)
  | r => answer number 3 r [] s

/-- The outcome of a DISCONNECT (R100). -/
def disconnectReason (params : List Byte) (s : State) : Reason :=
  match earlyReason 0 false params s with
  | some r => r
  | none => if s.ssc.station.unloaded = true ∨ s.ssc.station = .closing then .accepted else .state

/-- The session is closed and the station enters CLOSING (R95). -/
def disconnected (s : State) : State :=
  let t := closeSession false s
  enterClosing { t with ssc := { t.ssc with session := t.ssc.session.map fun c => { c with opened := false } } }

/-- A DISCONNECT taken (R95). -/
def disconnectTaken (number : Byte) (params : List Byte) (s : State) : State :=
  match disconnectReason params s with
  | .accepted => answer number 4 .accepted [] (if s.ssc.station = .closing then s else announcing disconnected s)
  | r => answer number 4 r [] s

/-! ### MARK, READ_METER, CLEAR -/

/-- The outcome of a MARK (R101). -/
def markReason (params : List Byte) (s : State) : Reason :=
  match earlyReason 3 true params s with
  | some r => r
  | none => if fieldNat params 0 2 = 0 then .range else if sessionOpen s then .accepted else .session

/-- The number of the open interval (R144); 0 where no session is held, which no caller reads. -/
def openNumber (s : State) : Nat :=
  match s.emt with
  | some m => m.number
  | none => 0

/-- A MARK taken (R101, R148 to R150). -/
def markTaken (number : Byte) (params : List Byte) (s : State) : State :=
  let n := fieldNat params 0 2
  match markReason params s with
  | .accepted =>
      let t := takeMark n (params.getD 2 0) s
      answer number 5 .accepted (satBytes 2 (openNumber t) ++ [BitVec.ofNat 8 (markCloses n s).toNat]) t
  | r => answer number 5 r [] s

/-- The outcome of a READ_METER (R101). -/
def readMeterReason (params : List Byte) (s : State) : Reason :=
  match earlyReason 0 true params s with
  | some r => r
  | none => if sessionOpen s then .accepted else .session

/-- A READ_METER taken (R101, R155). -/
def readMeterTaken (number : Byte) (params : List Byte) (s : State) : State :=
  match readMeterReason params s with
  | .accepted =>
      answer number 7 .accepted
        (match s.emt with
        | some m => meterData m
        | none => []) s
  | r => answer number 7 r [] s

/-- The held set without the conditions whose causes are not live (R177). -/
def clearHeld (s : State) : State := { s with pru := { s.pru with held := s.pru.held.filter (causeLive s) } }

/-- The first-cause bytes of CLEAR's data (13.3, R175). -/
def firstCauseBytes (f : Option FirstCause) : List Byte :=
  match f with
  | some r =>
      BitVec.ofNat 8 r.cause.code :: BitVec.ofNat 8 r.state.code ::
        field (r.following.map fun c => BitVec.ofNat 8 c.code) 0 4
  | none => List.replicate 6 0

/-- The first-cause record becomes absent (R175). -/
def forgetCause (s : State) : State := { s with pru := { s.pru with first := none } }

/-- What a CLEAR leaves: the clearing, TRIPPED left where no trip-class condition remains (R98), the writer resumed where
RECORD_STORE_FAULT was removed (R164). -/
def cleared (s : State) : State :=
  let c := clearHeld s
  let left :=
    if s.ssc.station = .tripped ∧ tripHeld c = false then
      forgetCause (enterStandby c)
    else c
  if isHeld s .recordStoreFault && !isHeld c .recordStoreFault then resumeWriter left else left

/-- The outcome of a CLEAR (R100, R102). -/
def clearReason (params : List Byte) (s : State) : Reason :=
  match earlyReason 0 true params s with
  | some r => r
  | none => .accepted

/-- A CLEAR taken (R98, R102, R177). -/
def clearTaken (number : Byte) (params : List Byte) (s : State) : State :=
  match clearReason params s with
  | .accepted =>
      answer number 6 .accepted
        (heldSetBytes (clearHeld s) ++ heldSummaryBytes (clearHeld s) ++ firstCauseBytes s.pru.first) (cleared s)
  | r => answer number 6 r [] s

/-! ### READ_LOG, CONFIG_STORE -/

/-- A READ_LOG's fields lie outside their ranges (R103). -/
def readLogOutOfRange (params : List Byte) : Bool :=
  decide (511 < fieldNat params 0 2) || decide (fieldNat params 4 2 = 0) || decide (4096 < fieldNat params 4 2)
    || decide (4096 < fieldNat params 2 2 + fieldNat params 4 2)

/-- The outcome of a READ_LOG (R103). -/
def readLogReason (params : List Byte) (s : State) : Reason :=
  match earlyReason 6 true params s with
  | some r => r
  | none => if readLogOutOfRange params then .range else if readoutActive s then .busy else .accepted

/-- The readout context becomes active (R168). -/
def startReadout (r : Readout) (s : State) : State := { s with fpt := { s.fpt with readout := some r } }

/-- A READ_LOG taken: the REPLY, then the readout becomes active (R103, R168). -/
def readLogTaken (number : Byte) (params : List Byte) (s : State) : State :=
  match readLogReason params s with
  | .accepted =>
      startReadout
        { sector := fieldNat params 0 2, next := fieldNat params 2 2, remaining := fieldNat params 4 2, ended := false }
        (answer number 8 .accepted (field params 0 6) s)
  | r => answer number 8 r [] s

/-- The outcome of a CONFIG_STORE (R100, R103). -/
def configStoreReason (params : List Byte) (s : State) : Reason :=
  match earlyReason 28 false params s with
  | some r => r
  | none => if s.ssc.station ≠ .standby then .state else if s.rwr.config.isSome then .busy else .accepted

/-- A CONFIG_STORE taken (R103, R159). -/
def configStoreTaken (number : Byte) (params : List Byte) (s : State) : State :=
  match configStoreReason params s with
  | .accepted => answer number 9 .accepted [] { s with rwr := { s.rwr with config := some params } }
  | r => answer number 9 r [] s

/-! ### A REQUEST -/

/-- A REQUEST of an unknown kind, or too short to have one (R99, R181). -/
def malformedTaken (number kind : Byte) (s : State) : State :=
  answer number kind (if s.ssc.station = .starting then .starting else .range) [] s

/-- SSC takes a REQUEST by its payload: target, request number, kind, parameters, missing bytes read as 0 (R181). -/
def requestTaken (payload : List Byte) (s : State) : State :=
  let number := payload.getD 1 0
  let params := payload.drop 3
  match (payload.getD 2 0).toNat with
  | 1 => prepareTaken number params s
  | 2 => shipSyncTaken number params s
  | 3 => returnTaken number params s
  | 4 => disconnectTaken number params s
  | 5 => markTaken number params s
  | 6 => clearTaken number params s
  | 7 => readMeterTaken number params s
  | 8 => readLogTaken number params s
  | 9 => configStoreTaken number params s
  | _ => malformedTaken number (payload.getD 2 0) s

end Sys2Proof.Machine
end

