-- ==== Sys2Proof/Machine/Link.lean ====
section
/-! DEFINITION. The Link Controller (chapter 3): receiver events, good and bad frames and where they go, the transmitter;
and the meanings of the commands of the link, of the frames received and of the requests. -/

namespace Sys2Proof.Machine

/-! ### Bad frames (R45) -/

/-- Bad frames are counted: always, save in STANDBY under the quiet-standby flag (R45, R54). -/
def countsBad (s : State) : Bool := !(s.ssc.station == .standby && s.params.quiet)

/-- A bad frame adds 1 to the count, holding at 255; the one that brings it to 16 raises LINK_NOISY (R45). -/
def countBad (s : State) : State :=
  if countsBad s then
    raiseIf (min 255 (s.lkc.badCount + 1) == 16) .linkNoisy
      { s with lkc := { s.lkc with badCount := min 255 (s.lkc.badCount + 1) } }
  else s

/-- As many bad frames are counted, one by one (R45). -/
def countBads : Nat → State → State
  | 0, s => s
  | n + 1, s => countBads n (countBad s)

/-- Nothing of the pair is counted or taken any longer: idle is counted from now on (R40). -/
def Ear.rest (e : Ear) : Ear := { e with quiet := 0, clock := none, bits := [], bytes := [], heard := false }

/-- What the receiver follows of the pair after a command of the receiver: its counts go on where the levels have led to the
command; where the command alone stands for them, idle is counted from its moment, the end of the stop bit or break that it
reports (R40). -/
def Ear.taken (e : Ear) : Ear := if e.heard then { e with heard := false } else e.rest

/-- The receiver enters a state; the link is busy, save in IDLE (R40, R41). -/
def Lkc.receive (rx : RxState) (l : Lkc) : Lkc :=
  { l with rx := rx, linkIdle := rx == .idle, ownAbort := false, ear := l.ear.taken }

/-- LKC's receiver in a new state. -/
def withRx (rx : RxState) (s : State) : State := { s with lkc := s.lkc.receive rx }

/-- A bad frame is heard (R45). One heard within an own attempt is counted when the attempt ends, unless a bit error ends it,
since the station does not count the frame that it aborts itself (R41, R49, log 27). -/
def heardBad (s : State) : State :=
  match s.lkc.attempt with
  | none => countBad s
  | some a => { s with lkc := { s.lkc with attempt := some { a with bad := a.bad + 1 } } }

/-- A partial frame is discarded: counted unless the own abort break ended it (R41). -/
def discardPartial (rx : RxState) (s : State) : State :=
  withRx rx (if s.lkc.ownAbort then s else heardBad s)

/-- An event of the receiver: it acts while LKC is enabled (R40). -/
def onLink (f : State → State) (s : State) : State := if s.lkc.enabled then f s else s

/-! ### The receiver's steps (R40 to R43) -/

/-- R42's two checks: the run within 6% of five nominal bit times in part clocks, bounds included, and a recessive tail. -/
def syncGood (s : State) (run : Nat) (tailRecessive : Bool) : Bool :=
  tailRecessive && (if s.linkRate then decide (188 ≤ run ∧ run ≤ 212) else decide (376 ≤ run ∧ run ≤ 424))

/-- The sync byte is judged (R42): FRAME with the measured run, or a sync error. -/
def syncJudged (run : Nat) (tailRecessive : Bool) (s : State) : State :=
  let measured := { s with lkc := { s.lkc with rxRun := run } }
  if syncGood s run tailRecessive then withRx .frame measured else withRx .hunt (heardBad measured)

/-- SYNC_ERROR (R42): a sync byte with these measurements is judged. -/
def execSyncError (run : Nat) (tailRecessive : Bool) (s : State) : Host.Outcome State Fault Refusal :=
  running (onLink (syncJudged run tailRecessive)) s

/-- SYNC_ACCEPTED (R42): a sync byte with these measurements is judged. -/
def execSyncAccepted (run : Nat) (tailRecessive : Bool) (s : State) : Host.Outcome State Fault Refusal :=
  running (onLink (syncJudged run tailRecessive)) s

/-- A frame ends as a bad frame, the receiver in HUNT (R43, R44). -/
def frameBad (s : State) : State := withRx .hunt (heardBad s)

/-- STOP_BIT_DOMINANT (R43): in FRAME alone. -/
def execStopBitDominant (s : State) : Host.Outcome State Fault Refusal :=
  running (onLink fun s => if s.lkc.rx = .frame then frameBad s else s) s

/-- LENGTH_ABOVE_32 (R43): in FRAME alone; a length of 32 or less ends nothing. -/
def execLengthAbove32 (length : Byte) (s : State) : Host.Outcome State Fault Refusal :=
  running (onLink fun s => if s.lkc.rx = .frame ∧ 32 < length.toNat then frameBad s else s) s

/-- PARTIAL_FRAME_DISCARDED (R41): by a break, or by 11 recessive bit times, after which the link is idle. A frame is under
way in FRAME, or was when the own abort break began (R49). -/
def execPartialFrameDiscarded (byBreak : Bool) (s : State) : Host.Outcome State Fault Refusal :=
  running
    (onLink fun s =>
      if s.lkc.rx = .frame ∨ s.lkc.ownAbort = true then discardPartial (if byBreak then .brk else .idle) s else s) s

/-- LINK_IDLE (R40, R41): 11 recessive bit times. A frame still being received is cut off by them. -/
def execLinkIdle (s : State) : Host.Outcome State Fault Refusal :=
  running (onLink fun s => if s.lkc.rx = .frame then discardPartial .idle s else withRx .idle s) s

/-- BREAK_DETECTED (R41): 11 dominant bit times. A frame still being received is cut off by them. -/
def execBreakDetected (s : State) : Host.Outcome State Fault Refusal :=
  running (onLink fun s => if s.lkc.rx = .frame then discardPartial .brk s else withRx .brk s) s

/-- BAD_FRAME_WINDOW (R45). -/
def execBadFrameWindow (s : State) : Host.Outcome State Fault Refusal :=
  running
    (fun s =>
      onExpiry s.lkc.window 8000
        (fun s => { s with lkc := { s.lkc with badCount := 0, window := Timer.restart 8000 s.lkc.window } }) s) s

/-! ### Good frames (R44, R51, R54) -/

/-- The duplicate-address check (R51). -/
def duplicateChecked (sender : Addr) (s : State) : State :=
  if sender = s.addr then raise .duplicateAddress { s with lkc := { s.lkc with dup := some s.now } } else s

/-- A CLAIM handed to SYN (R106). -/
def claimTaken (sender : Addr) (p : List Byte) (s : State) : State :=
  if p.length = 4 ∧ sender ≠ s.addr ∧ s.btr.berthState = .dead ∧ s.ssc.station.broadcasting = true then
    foreignClaim sender s
  else s

/-- A converter station's address (00, the stations). -/
def isStation (a : Addr) : Bool := decide (1 ≤ a.toNat ∧ a.toNat ≤ 12)

/-- A sender address that makes no bad frame: neither 0 nor 13 (R44). -/
def goodSender (a : Addr) : Bool := decide (a.toNat ≠ 0 ∧ a.toNat ≠ 13)

/-- A converter station's frame passes the filters of R44 and R54. -/
def fromStation (sender : Addr) (s : State) : Bool := isStation sender && !s.ssc.station.listening

/-- LKC hands a good frame on, or drops it (R44, R54). -/
def deliver (r : Received) (s : State) : State :=
  match FrameKind.ofCode r.kind.toNat with
  | none => s
  | some k =>
      if r.cls.toNat ≠ k.cls then s
      else
        match k with
        | .tripNotice => if fromStation r.sender s then announcing (tripNoticeTaken r.sender r.payload) s else s
        | .request =>
            if r.sender.toNat = 15 ∧ r.payload ≠ [] ∧
                ((r.payload.getD 0 0).toNat = 0 ∨ (r.payload.getD 0 0).toNat = s.addr.toNat) then
              requestTaken r.payload s
            else s
        | .claim => if fromStation r.sender s then announcing (claimTaken r.sender r.payload) s else s
        | .shipStatus =>
            if r.sender.toNat = 14 ∧ s.ssc.station.listening = false then announcing (shipStatusTaken r.payload) s
            else s
        | .status => if fromStation r.sender s then announcing (statusTaken r.sender r.payload) s else s
        | .contStatus => if fromStation r.sender s then contStatusTaken r.sender r.payload s else s
        | .reply => s
        | .intervalReport => s
        | .logData => s

/-- A frame whose CRC is good ends on the pair (R44, R51): a sender of 0 or 13 makes it bad. -/
def frameEnded (r : Received) (s : State) : State :=
  if goodSender r.sender then deliver r (duplicateChecked r.sender (withRx .hunt s)) else frameBad s

/-- STATUS_RECEIVED (R64). -/
def execStatusReceived (sender : Addr) (payload : List Byte) (s : State) : Host.Outcome State Fault Refusal :=
  running (onLink (frameEnded { cls := 3, sender := sender, kind := 0x30, payload := payload })) s

/-- CONT_STATUS_RECEIVED (R65). -/
def execContStatusReceived (sender : Addr) (payload : List Byte) (s : State) : Host.Outcome State Fault Refusal :=
  running (onLink (frameEnded { cls := 4, sender := sender, kind := 0x31, payload := payload })) s

/-- TRIP_NOTICE_RECEIVED (R66). -/
def execTripNoticeReceived (sender : Addr) (payload : List Byte) (s : State) : Host.Outcome State Fault Refusal :=
  running (onLink (frameEnded { cls := 0, sender := sender, kind := 0x01, payload := payload })) s

/-- SHIP_STATUS_RECEIVED (R68). -/
def execShipStatusReceived (payload : List Byte) (s : State) : Host.Outcome State Fault Refusal :=
  running (onLink (frameEnded { cls := 2, sender := 14, kind := 0x21, payload := payload })) s

/-- CLAIM_RECEIVED (R106). -/
def execClaimReceived (sender : Addr) (payload : List Byte) (s : State) : Host.Outcome State Fault Refusal :=
  running (onLink (frameEnded { cls := 2, sender := sender, kind := 0x20, payload := payload })) s

/-- FRAME_DROPPED (R44, R54): a good frame by its identifier and payload. -/
def execFrameDropped (cls sender : BitVec 4) (kind : Byte) (payload : List Byte) (s : State) :
    Host.Outcome State Fault Refusal :=
  running (onLink (frameEnded { cls := cls, sender := sender, kind := kind, payload := payload })) s

/-- BAD_FRAME (R44): the bytes of a finished frame are judged. -/
def execBadFrame (bytes : List Byte) (s : State) : Host.Outcome State Fault Refusal :=
  running
    (onLink fun s =>
      match judgeFrame bytes with
      | some r => frameEnded r s
      | none => frameBad s) s

/-! ### Requests (R44, R99) -/

/-- A REQUEST from the berth panel, by its payload. -/
def requestFrame (payload : List Byte) : Received := { cls := 1, sender := 15, kind := 0x10, payload := payload }

/-- PREPARE (R89). -/
def execPrepare (target number : Byte) (params : List Byte) (s : State) : Host.Outcome State Fault Refusal :=
  running (onLink (frameEnded (requestFrame (target :: number :: 1 :: params)))) s

/-- SHIP_SYNC (R117). -/
def execShipSync (target number : Byte) (params : List Byte) (s : State) : Host.Outcome State Fault Refusal :=
  running (onLink (frameEnded (requestFrame (target :: number :: 2 :: params)))) s

/-- RETURN (R136). -/
def execReturnLoad (target number : Byte) (params : List Byte) (s : State) : Host.Outcome State Fault Refusal :=
  running (onLink (frameEnded (requestFrame (target :: number :: 3 :: params)))) s

/-- DISCONNECT (R95). -/
def execDisconnect (target number : Byte) (params : List Byte) (s : State) : Host.Outcome State Fault Refusal :=
  running (onLink (frameEnded (requestFrame (target :: number :: 4 :: params)))) s

/-- MARK (R101). -/
def execMark (target number : Byte) (params : List Byte) (s : State) : Host.Outcome State Fault Refusal :=
  running (onLink (frameEnded (requestFrame (target :: number :: 5 :: params)))) s

/-- CLEAR (R177). -/
def execClear (target number : Byte) (params : List Byte) (s : State) : Host.Outcome State Fault Refusal :=
  running (onLink (frameEnded (requestFrame (target :: number :: 6 :: params)))) s

/-- READ_METER (R155). -/
def execReadMeter (target number : Byte) (params : List Byte) (s : State) : Host.Outcome State Fault Refusal :=
  running (onLink (frameEnded (requestFrame (target :: number :: 7 :: params)))) s

/-- READ_LOG (R103). -/
def execReadLog (target number : Byte) (params : List Byte) (s : State) : Host.Outcome State Fault Refusal :=
  running (onLink (frameEnded (requestFrame (target :: number :: 8 :: params)))) s

/-- CONFIG_STORE (R159). -/
def execConfigStore (target number : Byte) (params : List Byte) (s : State) : Host.Outcome State Fault Refusal :=
  running (onLink (frameEnded (requestFrame (target :: number :: 9 :: params)))) s

/-- MALFORMED_REQUEST (R181): a REQUEST by its whole payload. -/
def execMalformedRequest (payload : List Byte) (s : State) : Host.Outcome State Fault Refusal :=
  running (onLink (frameEnded (requestFrame payload))) s

/-! ### The transmitter (R46 to R50, R52) -/

/-- A queue without marks of an attempt. -/
def settleEntries (q : List TxEntry) : List TxEntry := q.map fun e => { e with inAttempt := false }

/-- The attempt ends, its frame staying pending (R47, R48, R52): LDE lowered. -/
def Lkc.endAttempt (l : Lkc) : Lkc := { l with queue := settleEntries l.queue, attempt := none, lde := false }

/-- An entry marked as in an attempt. -/
def markEntry : Nat → List TxEntry → List TxEntry
  | _, [] => []
  | 0, e :: rest => { e with inAttempt := true } :: rest
  | n + 1, e :: rest => e :: markEntry n rest

/-- The station starts its break with the head of its queue fixed for the attempt (R46). -/
def transmit (s : State) : State :=
  match headIndex s.lkc.queue with
  | none => s
  | some i =>
      match s.lkc.queue[i]? with
      | none => s
      | some e =>
          { s with lkc := { s.lkc with
              queue := markEntry i s.lkc.queue
              attempt := some { frame := e.frame, bytes := e.frame.bytes s.addr, replaced := false }
              lde := true, linkIdle := false, rx := .dominantRun } }

/-- TRANSMIT_START (R46). -/
def execTransmitStart (s : State) : Host.Outcome State Fault Refusal :=
  running (onLink fun s => if s.lkc.linkIdle = true ∧ s.lkc.attempt = none then transmit s else s) s

/-- An attempt ends without a bit error (R47, R48): its frame stays pending, and the bad frames heard in it are counted
(R45, log 27). -/
def attemptLeft (a : Attempt) (s : State) : State := countBads a.bad { s with lkc := s.lkc.endAttempt }

/-- ALIGNMENT_DROPOUT (R47), as the transmitter meets it at a part clock (`Attempt.talk`): the frame stays pending, its retry
count unchanged. -/
def execAlignmentDropout (s : State) : Host.Outcome State Fault Refusal :=
  running
    (onLink fun s =>
      match s.lkc.attempt with
      | none => s
      | some a => attemptLeft a s) s

/-- ARBITRATION_LOST (R48), at the end of the bit in which the transmitter lost (`Attempt.talk`): the frame stays pending, its
retry count unchanged. -/
def execArbitrationLost (s : State) : Host.Outcome State Fault Refusal :=
  running
    (onLink fun s =>
      match s.lkc.attempt with
      | none => s
      | some a => attemptLeft a s) s

/-- The retry count of the entry in the attempt (R49). -/
def attemptRetry (q : List TxEntry) : Nat := (q.find? (·.inAttempt)).elim 0 (·.retry)

/-- The retry count of the entry in the attempt raised by 1 (R49). -/
def retryEntries (q : List TxEntry) : List TxEntry :=
  q.map fun e => if e.inAttempt then { e with retry := e.retry + 1 } else e

/-- The entry in the attempt removed (R49, R50). -/
def removeAttempted (q : List TxEntry) : List TxEntry := q.filter fun e => !e.inAttempt

/-- LKC after the abort break of a bit error (R49): idle is counted from the break's end (R40). `queue`: what it
leaves of the queue. -/
def Lkc.aborted (queue : List TxEntry) (l : Lkc) : Lkc :=
  { l with
    queue := settleEntries queue, attempt := none, lde := false, rx := .brk, ownAbort := true, linkIdle := false
    ear := l.ear.rest }

/-- A bit error in an attempt (R49): the bad frames heard in it go uncounted (R41, log 27); the retry count rises; at 16 the frame is discarded with LINK_TX_FAIL, and SYN submits
a discarded CLAIM anew (R105). An entry replaced meanwhile stays with its new frame at retry count 0 (R52). -/
def bitErrorTaken (a : Attempt) (s : State) : State :=
  if a.replaced then { s with lkc := s.lkc.aborted s.lkc.queue }
  else if attemptRetry s.lkc.queue + 1 < 16 then { s with lkc := s.lkc.aborted (retryEntries s.lkc.queue) }
  else raiseClaim (raise .linkTxFail { s with lkc := s.lkc.aborted (removeAttempted s.lkc.queue) })

/-- BIT_ERROR (R49), at the end of the abort break (`Attempt.talk`, log 27). -/
def execBitError (s : State) : Host.Outcome State Fault Refusal :=
  running
    (onLink fun s =>
      match s.lkc.attempt with
      | none => s
      | some a => bitErrorTaken a s) s

/-- The sequence byte of a status broadcast (R61, 13.3). -/
def Frame.restamp (seq : Byte) (f : Frame) : Frame :=
  match f.kind with
  | .status => { f with payload := f.payload.set 13 seq }
  | .contStatus => { f with payload := f.payload.set 0 seq }
  | _ => f

/-- The waiting status broadcast stamped again, its retry count 0 (R61). -/
def restampQueue (seq : Byte) (q : List TxEntry) : List TxEntry :=
  q.map fun e => if e.frame.isStatus then { e with frame := e.frame.restamp seq, retry := 0 } else e

/-- The sent notice to the block that submitted the frame (R50, R61, R106). -/
def sentNotice (a : Attempt) (s : State) : State :=
  if a.frame.isStatus then
    { s with
      pvw := { s.pvw with seq := s.pvw.seq + 1 }
      lkc := if a.replaced then { s.lkc with queue := restampQueue (s.pvw.seq + 1) s.lkc.queue } else s.lkc }
  else if a.frame.kind = .claim then announcing ownClaimSeen s
  else s

/-- LKC after an own frame seen (R50, R52): its entry removed, or kept with the frame that replaced it; idle is counted from
the end of its last stop bit (R40). -/
def Lkc.seen (a : Attempt) (l : Lkc) : Lkc :=
  { l with
    queue := settleEntries (if a.replaced then l.queue else removeAttempted l.queue), attempt := none, lde := false
    rx := .hunt, linkIdle := false, ownAbort := false, ear := l.ear.rest }

/-- The own frame seen (R50). The bad frames heard in the attempt are counted, since no bit error has ended it (R45, log 27). -/
def ownFrameSeen (a : Attempt) (s : State) : State := sentNotice a (countBads a.bad { s with lkc := s.lkc.seen a })

/-- OWN_FRAME_SEEN (R50), at the end of the last stop bit (`Attempt.talk`). -/
def execOwnFrameSeen (s : State) : Host.Outcome State Fault Refusal :=
  running
    (onLink fun s =>
      match s.lkc.attempt with
      | none => s
      | some a => ownFrameSeen a s) s

/-- DUPLICATE_ADDRESS_TIMER (R51). -/
def execDuplicateAddressTimer (s : State) : Host.Outcome State Fault Refusal :=
  running (fun s => onExpiry s.lkc.dup 8000 (fun s => { s with lkc := { s.lkc with dup := none } }) s) s

end Sys2Proof.Machine
end

