-- ==== Sys2Proof/Machine/Resets.lean ====
section
/-! DEFINITION. The resets (R85 to R87) with the values every block takes at them, and the meanings of COLD_RESET,
RST_N_ASSERTED, WARM_RESET and WARM_RESET_END. -/

namespace Sys2Proof.Machine

/-- LKC as it is enabled: the link busy until it has been idle, the queue empty, the bad-frame window started (R40, R45,
R55). -/
def Lkc.enable (now : Nat) : Lkc := { Lkc.disabled with enabled := true, window := some now }

/-! ### Cold reset -/

/-- Every field at its cold-reset value, the commands and the clock kept, and the record memory, but for a configuration
write that the reset cuts off (R159). -/
def coldBase (s : State) : State :=
  { State.reset with
    pending := s.pending, pair := s.pair, now := s.now
    freeCount := if s.mem.writesConfig then s.freeCount + 1 else s.freeCount
    mem := s.mem.coldCut s.freeCount }

/-- RST_N goes low (R85): every output at rest. Where the record memory loses its supply, a running operation is torn
(log 11). -/
def rstAsserted (powerLost : Bool) (s : State) : State :=
  { coldBase s with
    mem := if powerLost then s.mem.powerLoss s.freeCount else (coldBase s).mem
    freeCount := if powerLost then s.freeCount + 1 else (coldBase s).freeCount }

/-- RST_N_ASSERTED (R85). -/
def execRstNAsserted (powerLost : Bool) (s : State) : Host.Outcome State Fault Refusal := .next (rstAsserted powerLost s)

/-- The end of RST_N (R85, R86, R40, R73, R116, R122): straps and lines sampled, STARTING with its start work or INVALID.
The start work begins with a continuous-read exit (R158). -/
def coldStart (addr : Addr) (rating : BitVec 2) (linkRate ccAux sbAux tripIn : Bool) (s : State) : State :=
  let base := coldBase s
  setPermit
    { base with
      phase := .run, addr := addr, rating := rating, linkRate := linkRate, ccAux := ccAux, sbAux := sbAux
      tripIn := tripIn
      ssc := { station := if isStation addr then .starting else .invalid, session := none }
      lkc := if isStation addr then Lkc.enable s.now else .disabled
      shc := { Shc.initial with tick := some s.now }
      syn := { Syn.initial with window := some s.now, confirmed := !ccAux }
      rwr := { Rwr.initial with start := if isStation addr then .configLoad else .none }
      mem := if isStation addr then { base.mem with cont := false } else base.mem }

/-- COLD_RESET (R85, R86): TRIP_IN standing asserted is taken as asserted now (R173). -/
def execColdReset (addr : Addr) (rating : BitVec 2) (linkRate ccAux sbAux tripIn : Bool) (s : State) :
    Host.Outcome State Fault Refusal :=
  .next (raiseIf tripIn .tripInput (coldStart addr rating linkRate ccAux sbAux tripIn s))

/-! ### Warm reset -/

/-- RWR at the assertion of RESTART_N (R167): the operation on the port ended, what was in flight noted. R167 names no
recovery that a CLEAR has resumed outside STARTING (R164): that such a recovery, its format's erase and program too, is noted
as `.recovery` and run again from its first step is the model's choice (DESIGN CHOICE, log 42). R164 makes a failed sector
change again with the same sector sequence. Where that erase still waits for the port, nothing is in flight, and R167 does not
say whether the sequence is kept: that it is not, and that the sector change of the waiting record advances the counter once
more, is the model's choice (DESIGN CHOICE, log 44). -/
def Rwr.warm (r : Rwr) : Rwr :=
  { r with
    writer := if r.writer = .faulted then .faulted else .idle
    op := if r.writer = .faulted then r.op else none
    busy := none
    start := .none
    startTimer := none
    settling := false
    inFlight :=
      if r.start ≠ .none then some .recovery
      else if (r.writer = .programming ∨ r.writer = .erasing) ∧ r.busy.isSome = true then r.op
      else if r.settling then r.inFlight
      else none }

/-- RESTART_N is asserted (R87 and the reset table of each chapter). The station state is kept as the state at the
assertion (log 17). The strobes stop and do not start again, so that the causes of OVERCURRENT and DC_FAULT stay what the
latest new sample made them (R12, R177, log 37). -/
def warmAsserted (s : State) : State :=
  setPermit
    { s with
      phase := .restartLow
      spt := .initial, msu := s.msu.stopped, btr := .initial, rfg := .initial, mod := .off, lkc := .disabled
      pvw := .initial
      shc := .initial
      syn := { Syn.initial with window := some s.now, confirmed := !s.ccAux }
      hoc := .initial
      emt := s.emt.map fun m => { m with tick := none }
      rwr := s.rwr.warm
      fpt := .initial
      pru := { s.pru with waiting := if s.ssc.station = .starting then s.pru.waiting else [] } }

/-- WARM_RESET (R87): no effect in INVALID (R86). -/
def execWarmReset (s : State) : Host.Outcome State Fault Refusal :=
  running (fun s => if s.ssc.station = .invalid then s else warmAsserted s) s

/-- EMT at the end of a warm reset: PARTIAL set, the interval tick restarted (R146, R156). -/
def Meter.restarted (now : Nat) (m : Meter) : Meter :=
  { m with flags := { m.flags with partialIvl := true }, tick := some now }

/-- What the end of RESTART_N does in whatever state (R179, R40, R73, R167): RESTARTED held, the EVENT submitted, LKC
enabled, the ticks restarted, a continuous-read exit, RWR settling what was in flight. -/
def warmRestarted (s : State) : State :=
  let held := requestExit (submitEvent 6 [BitVec.ofNat 8 s.ssc.station.code] (hold .restarted s))
  { held with
    phase := .run
    lkc := Lkc.enable s.now
    shc := { held.shc with tick := some s.now }
    emt := if sessionOpen held then held.emt.map (Meter.restarted s.now) else held.emt
    rwr := { held.rwr with settling := true, startTimer := some s.now } }

/-- RWR's start work begins again from its first step, the configuration load, which follows the status wait at the end of
the reset (R87, R167). What a wait that ends busy leaves undone is the recovery (log 45). -/
def Rwr.startAgain (r : Rwr) : Rwr := { r with start := .configLoad, inFlight := some .recovery }

/-- The conditions that became held in the reset wait no longer. -/
def waitOver (s : State) : State := { s with pru := { s.pru with waiting := [] } }

/-- A warm reset ends in STANDBY (R87, R62): the STATUS announcing it. -/
def warmToStandby (s : State) : State :=
  let t := clearClosed s
  let u : State := { t with ssc := { t.ssc with station := .standby } }
  setPermit (submit (statusFrame u) u)

/-- A station tripped before the reset resumes that trip (R179, R62). -/
def warmToTripped (s : State) : State :=
  let t := clearClosed s
  triggerStatus (setPermit { t with ssc := { t.ssc with station := .tripped }, pvw := { t.pvw with shipStale := true } })

/-- The state after the end of a warm reset, outside STARTING (R87, R179). -/
def warmOutcome (s : State) : State :=
  if tripHeld s then
    match s.pru.first with
    | some _ => warmToTripped s
    | none =>
        match waitingCause s.ssc.station s with
        | some r => tripWith r { s with pvw := { s.pvw with shipStale := true } }
        | none => warmToStandby s
  else warmToStandby s

/-- RESTART_N ends (R87). -/
def warmEnded (s : State) : State :=
  let t := warmRestarted s
  if s.ssc.station = .starting then { t with rwr := t.rwr.startAgain } else waitOver (warmOutcome t)

/-- WARM_RESET_END (R87, R179). -/
def execWarmResetEnd (s : State) : Host.Outcome State Fault Refusal :=
  .next (if s.phase = .restartLow then warmEnded s else s)

end Sys2Proof.Machine
end

