-- ==== Sys2Proof/Machine/Sampling.lean ====
section
/-! DEFINITION. A sample's way through the station (chapter 1, log 7), the settlement of periods, the carrier period start,
and the out-of-band timer. -/

namespace Sys2Proof.Machine

/-- MSU's checks on a new sample, each reported where it is met (R12). -/
def checked (r : Sample) (isNew : Bool) (s : State) : State :=
  raiseIf (isNew && dcFaultMet r) .dcFault (raiseIf (isNew && overcurrentMet r) .overcurrent s)

/-- MSU's closes and BTR's crossings of a sample (R9 to R16). -/
def tracked (r : Sample) (k : Nat) (e : SampleEvents) (s : State) : State :=
  { s with msu := s.msu.close e, btr := s.btr.take r k e (s.msu.close e) }

/-- SYN and HOC at the crossings and closes of a sample (R104 to R111, R118 to R121, R138), then the out-of-band timer
(R17). `old`: the berth bus state before it. -/
def steered (old : BusState) (e : SampleEvents) (s : State) : State :=
  let claims := berthChanged old s
  let joined := if e.berthClose || e.moduleClose then joinJudged claims else claims
  let shipped := if e.berthClose || e.shipClose then shipJudged joined else joined
  let reported := reportClosed shipped
  judgeBand (if e.moduleClose then partJudged reported else reported)

/-- A sample handed on passes MSU's sums and checks, EMT, BTR, and the blocks that judge at its events (R4, R8 to R16). -/
def takeSample (r : Sample) (isNew : Bool) (k : Nat) (s : State) : State :=
  let summed : State := { s with msu := s.msu.take r isNew }
  let metered := integrate (activeProduct r) (checked r isNew summed)
  let e := sampleEvents r k metered.btr metered.msu
  announcing (fun t => steered metered.btr.berthState e (tracked r k e t)) metered

/-- A carrier period is settled by a complete record, or missing (R2 to R5). MEASUREMENT_LOST, and the trip it makes, comes
before the repeat of that period is handed on (log 7). -/
def settlePeriod (record : Option (List Byte)) (s : State) : State :=
  let settledSpt := s.spt.settle record
  let lost := raiseIf ((s.spt.outcome record).isNone && settledSpt.runCount == 3) .measurementLost
    { s with spt := settledSpt }
  match settledSpt.lastGood with
  | none => lost
  | some r => takeSample r (s.spt.outcome record).isSome (s.spt.index.getD 0) lost

/-- The strobes run and this period is not settled yet. -/
def unsettled (s : State) : Bool := s.spt.strobes && !s.spt.settled && s.spt.index.isSome

/-- The bytes of a period: the not-ready bytes before the record discarded (R2). -/
def afterNotReady (bytes : List Byte) : List Byte := bytes.dropWhile (· == 0xFF#8)

/-- The record of a period completes (R2): the first 25 bytes from the start marker; a first byte that is no start marker
settles the period missing at once; fewer than 25 bytes complete nothing. -/
def recordBytes (bytes : List Byte) (s : State) : State :=
  match afterNotReady bytes with
  | [] => s
  | b :: rest =>
      if b ≠ 0xA6#8 then settlePeriod none s
      else if (b :: rest).length < 25 then s
      else settlePeriod (some ((b :: rest).take 25)) s

/-- RECORD_COMPLETE (R2). -/
def execRecordComplete (bytes : List Byte) (s : State) : Host.Outcome State Fault Refusal :=
  running (fun s => if unsettled s then recordBytes bytes s else s) s

/-- START_MARKER_WRONG (R2). A byte of all ones is no first byte, and the start marker is not wrong. -/
def execStartMarkerWrong (first : Byte) (s : State) : Host.Outcome State Fault Refusal :=
  running
    (fun s => if unsettled s = true ∧ first ≠ 0xFF#8 ∧ first ≠ 0xA6#8 then settlePeriod none s else s) s

/-! ### The carrier period start -/

/-- The period that ends unsettled is settled missing (R2). -/
def settleLate (s : State) : State := if unsettled s then settlePeriod none s else s

/-- The strobe of a new period (R1, R13): the sample index counts from 0 at the first strobe. -/
def strobe (s : State) : State :=
  { s with spt :=
      if s.spt.strobes then
        { s.spt with
          settled := false
          index :=
            match s.spt.index with
            | none => some 0
            | some k => some (k + 1) }
      else s.spt }

/-- RFG's and MOD's work at a period start; a completed soft start takes PREPARED to JOINING (R28, R35, R92). -/
def carrierWork (s : State) : State :=
  if softStartDone s = true ∧ s.ssc.station = .prepared ∧ s.phase = .run then announcing enterJoining (periodWork s)
  else periodWork s

/-- A carrier period starts: late settlement and period work, in the order the operand gives, then the strobe. -/
def carrierStart (workFirst : Bool) (s : State) : State :=
  if workFirst then strobe (settleLate (carrierWork s)) else strobe (carrierWork (settleLate s))

/-- CARRIER_PERIOD_START (R19): the clock advances by one period; periods start in every state and through a warm reset. -/
def execCarrierPeriodStart (workFirst : Bool) (s : State) : Host.Outcome State Fault Refusal :=
  taken (fun s => carrierStart workFirst { s with now := s.now + 1 }) s

/-! ### The out-of-band timer -/

/-- The berth frequency has been out of band for 500 ms (R17): BUS_FREQUENCY is reported, the timer stops. -/
def bandExpired (s : State) : State :=
  raise .busFrequency { s with btr := { s.btr with oob := none, oobDone := true } }

/-- BUS_FREQUENCY_TIMER (R17). -/
def execBusFrequencyTimer (s : State) : Host.Outcome State Fault Refusal :=
  running (fun s => onExpiry s.btr.oob 4000 bandExpired s) s

end Sys2Proof.Machine
end

