-- ==== Sys2Proof/Machine/Sharing.lean ====
section
/-! DEFINITION. The Sharing Controller (chapter 5): share trims, restoration, and the meanings of its two ticks. -/

namespace Sys2Proof.Machine

/-- The increment of a share trim: gain × (weighted sum − own × ΣR) ÷ ΣR, rounded half away from zero (R76, R78). -/
def shareIncrement (gain weighted own ratings : Int) : Int := roundAway (gain * (weighted - own * ratings)) ratings

/-- SHC takes the f_share step (R77). -/
def sharesFrequency (s : State) : Bool :=
  (s.ssc.station == .online || s.ssc.station == .shipSync || s.ssc.station == .supplying) && s.ccAux
    && !(peerParticipants s).isEmpty

/-- SHC takes the v_share step (R78). -/
def sharesVoltage (s : State) : Bool := s.ccAux && s.ssc.station.onBus

/-- f_share after a sharing tick (R76, R77). -/
def nextFShare (s : State) : Int :=
  if sharesFrequency s then
    clamp (-400000) 400000 (s.shc.fShare + shareIncrement s.params.ks (sumPR s) s.msu.p (sumR s))
  else s.shc.fShare

/-- v_share after a sharing tick (R78). -/
def nextVShare (s : State) : Int :=
  if sharesVoltage s then
    clamp (-50000) 50000 (s.shc.vShare + shareIncrement s.params.kq (sumQR s) s.msu.q (sumR s))
  else s.shc.vShare

/-- The work of a sharing tick (R73). -/
def sharingWork (s : State) : State :=
  { s with shc := { s.shc with
      fShare := nextFShare s, vShare := nextVShare s, tick := Timer.restart 8 s.shc.tick } }

/-- SHARING_TICK (R73). -/
def execSharingTick (s : State) : Host.Outcome State Fault Refusal :=
  running (fun s => onExpiry s.shc.tick 8 sharingWork s) s

/-- f_rest after a restoration expiry: held while the berth frequency is invalid (R79, R80). -/
def nextFRest (s : State) : Int :=
  match s.btr.berth.freq with
  | none => s.shc.fRest
  | some f =>
      clamp (-(s.params.droop * 1000)) (s.params.droop * 1000)
        (s.shc.fRest + s.params.kr * (fBase s / 1000 - f))

/-- The work of a restoration expiry (R79). -/
def restorationWork (s : State) : State :=
  { s with shc := { s.shc with fRest := nextFRest s, rest := Timer.restart 80 s.shc.rest } }

/-- RESTORATION_TICK (R79). -/
def execRestorationTick (s : State) : Host.Outcome State Fault Refusal :=
  running (fun s => if s.ssc.station = .supplying then onExpiry s.shc.rest 80 restorationWork s else s) s

end Sys2Proof.Machine
end

