-- ==== Sys2Proof/Machine/Dispatch.lean ====
section
/-! DEFINITION. The dispatch: one arm for each command, each a direct call of its meaning. -/

namespace Sys2Proof.Machine

def exec (i : Instr) (s : State) : Host.Outcome State Fault Refusal :=
  match i with
  | .coldReset addr rating linkRate ccAux sbAux tripIn => Sys2Proof.Machine.execColdReset addr rating linkRate ccAux sbAux tripIn s
  | .warmReset => Sys2Proof.Machine.execWarmReset s
  | .warmResetEnd => Sys2Proof.Machine.execWarmResetEnd s
  | .tripInAsserted => Sys2Proof.Machine.execTripInAsserted s
  | .ccAuxChange closed => Sys2Proof.Machine.execCcAuxChange closed s
  | .sbAuxClose => Sys2Proof.Machine.execSbAuxClose s
  | .sbAuxOpen => Sys2Proof.Machine.execSbAuxOpen s
  | .carrierPeriodStart workFirst => Sys2Proof.Machine.execCarrierPeriodStart workFirst s
  | .recordComplete bytes => Sys2Proof.Machine.execRecordComplete bytes s
  | .startMarkerWrong first => Sys2Proof.Machine.execStartMarkerWrong first s
  | .busFrequencyTimer => Sys2Proof.Machine.execBusFrequencyTimer s
  | .syncError run tailRecessive => Sys2Proof.Machine.execSyncError run tailRecessive s
  | .stopBitDominant => Sys2Proof.Machine.execStopBitDominant s
  | .lengthAbove32 length => Sys2Proof.Machine.execLengthAbove32 length s
  | .partialFrameDiscarded byBreak => Sys2Proof.Machine.execPartialFrameDiscarded byBreak s
  | .badFrame bytes => Sys2Proof.Machine.execBadFrame bytes s
  | .badFrameWindow => Sys2Proof.Machine.execBadFrameWindow s
  | .transmitStart => Sys2Proof.Machine.execTransmitStart s
  | .alignmentDropout => Sys2Proof.Machine.execAlignmentDropout s
  | .arbitrationLost => Sys2Proof.Machine.execArbitrationLost s
  | .bitError => Sys2Proof.Machine.execBitError s
  | .ownFrameSeen => Sys2Proof.Machine.execOwnFrameSeen s
  | .duplicateAddressTimer => Sys2Proof.Machine.execDuplicateAddressTimer s
  | .statusReceived sender payload => Sys2Proof.Machine.execStatusReceived sender payload s
  | .contStatusReceived sender payload => Sys2Proof.Machine.execContStatusReceived sender payload s
  | .tripNoticeReceived sender payload => Sys2Proof.Machine.execTripNoticeReceived sender payload s
  | .shipStatusReceived payload => Sys2Proof.Machine.execShipStatusReceived payload s
  | .claimReceived sender payload => Sys2Proof.Machine.execClaimReceived sender payload s
  | .prepare target number params => Sys2Proof.Machine.execPrepare target number params s
  | .shipSync target number params => Sys2Proof.Machine.execShipSync target number params s
  | .returnLoad target number params => Sys2Proof.Machine.execReturnLoad target number params s
  | .disconnect target number params => Sys2Proof.Machine.execDisconnect target number params s
  | .mark target number params => Sys2Proof.Machine.execMark target number params s
  | .readMeter target number params => Sys2Proof.Machine.execReadMeter target number params s
  | .clear target number params => Sys2Proof.Machine.execClear target number params s
  | .readLog target number params => Sys2Proof.Machine.execReadLog target number params s
  | .configStore target number params => Sys2Proof.Machine.execConfigStore target number params s
  | .malformedRequest payload => Sys2Proof.Machine.execMalformedRequest payload s
  | .cadenceExpiry => Sys2Proof.Machine.execCadenceExpiry s
  | .peerEntryStale addr => Sys2Proof.Machine.execPeerEntryStale addr s
  | .peerEntryRemoved addr => Sys2Proof.Machine.execPeerEntryRemoved addr s
  | .shipRecordStale => Sys2Proof.Machine.execShipRecordStale s
  | .sharingTick => Sys2Proof.Machine.execSharingTick s
  | .restorationTick => Sys2Proof.Machine.execRestorationTick s
  | .settleTimerExpiry => Sys2Proof.Machine.execSettleTimerExpiry s
  | .claimResubmit => Sys2Proof.Machine.execClaimResubmit s
  | .claimExpiry => Sys2Proof.Machine.execClaimExpiry s
  | .energiseTimerExpiry => Sys2Proof.Machine.execEnergiseTimerExpiry s
  | .joinDwellComplete => Sys2Proof.Machine.execJoinDwellComplete s
  | .joinTimeLimitExpiry => Sys2Proof.Machine.execJoinTimeLimitExpiry s
  | .confirmationWindowEnd => Sys2Proof.Machine.execConfirmationWindowEnd s
  | .shipDwellComplete => Sys2Proof.Machine.execShipDwellComplete s
  | .syncTimeLimitExpiry => Sys2Proof.Machine.execSyncTimeLimitExpiry s
  | .handoverTick => Sys2Proof.Machine.execHandoverTick s
  | .staleTimerExpiry => Sys2Proof.Machine.execStaleTimerExpiry s
  | .handoverTimerExpiryIn => Sys2Proof.Machine.execHandoverTimerExpiryIn s
  | .handoverTimerExpiryOut => Sys2Proof.Machine.execHandoverTimerExpiryOut s
  | .partTimerExpiry => Sys2Proof.Machine.execPartTimerExpiry s
  | .tripTimerExpiry => Sys2Proof.Machine.execTripTimerExpiry s
  | .intervalTick => Sys2Proof.Machine.execIntervalTick s
  | .intervalSelfClose => Sys2Proof.Machine.execIntervalSelfClose s
  | .closingEnd => Sys2Proof.Machine.execClosingEnd s
  | .writerTakeWork => Sys2Proof.Machine.execWriterTakeWork s
  | .memoryPortGrant => Sys2Proof.Machine.execMemoryPortGrant s
  | .programComplete => Sys2Proof.Machine.execProgramComplete s
  | .eraseComplete => Sys2Proof.Machine.execEraseComplete s
  | .busyTimeout => Sys2Proof.Machine.execBusyTimeout s
  | .faultedStatusRead busy => Sys2Proof.Machine.execFaultedStatusRead busy s
  | .configLoadComplete busy => Sys2Proof.Machine.execConfigLoadComplete busy s
  | .recoveryBusyTimeout => Sys2Proof.Machine.execRecoveryBusyTimeout s
  | .logRecoveryComplete => Sys2Proof.Machine.execLogRecoveryComplete s
  | .warmResetSettle => Sys2Proof.Machine.execWarmResetSettle s
  | .warmResetBusyTimeout => Sys2Proof.Machine.execWarmResetBusyTimeout s
  | .readoutChunk => Sys2Proof.Machine.execReadoutChunk s
  | .readoutEndFrame => Sys2Proof.Machine.execReadoutEndFrame s
  | .rstNAsserted powerLost => Sys2Proof.Machine.execRstNAsserted powerLost s
  | .tripInReleased => Sys2Proof.Machine.execTripInReleased s
  | .linkIdle => Sys2Proof.Machine.execLinkIdle s
  | .breakDetected => Sys2Proof.Machine.execBreakDetected s
  | .syncAccepted run tailRecessive => Sys2Proof.Machine.execSyncAccepted run tailRecessive s
  | .frameDropped cls sender kind payload => Sys2Proof.Machine.execFrameDropped cls sender kind payload s

end Sys2Proof.Machine
end

