-- ==== Sys2Proof/Machine/Transmitter.lean ====
section
/-! DEFINITION. The transmitter at the part clock (R46 to R50): what it drives, how it compares the level it sends with the
level of the pair, and which command of the table each end of an attempt is. The commands' effects stand in
`Machine/Link.lean`. -/

namespace Sys2Proof.Machine

/-- The nominal bit time in part clocks (R38): 4 µs, and 2 µs under LINKRATE 1, at 20 MHz. -/
def bitClocks (linkRate : Bool) : Nat := if linkRate then 40 else 80

/-- What a part clock brings: LKC as it stands, and the command that the clock completes, if any. -/
abbrev Heard := Lkc × Option Instr

/-- LTX in an attempt at the part clock to come, true for dominant (R47 to R49): the break, the frame bit by bit, the rest of a
bit in which the arbitration was lost, sent recessive, or a bit error met, and the abort break; nothing while it waits. -/
def Attempt.drives (n : Nat) (a : Attempt) : Bool :=
  match a.place with
  | .brk _ => true
  | .waiting => false
  | .sending c => a.bitAt (c / n)
  | .losing _ => false
  | .failing _ level => level
  | .aborting _ => true

/-- LTX, true for dominant: nothing is driven outside an attempt (R40, R46). -/
def Lkc.ltx (n : Nat) (l : Lkc) : Bool :=
  match l.attempt with
  | some a => a.drives n
  | none => false

/-- The part clocks of a bit that follow its centre, `n` being those of the bit. -/
def afterCentre (n : Nat) : Nat := n - 1 - n / 2

/-- The transmitter reads another level than it sends, in a bit after its break. Sent dominant: a bit error (R47 to R49). Sent
recessive: an alignment dropout at once in the delimiter and the sync byte (R47), the arbitration lost in the identifier
(R48), a bit error from the length byte on (R49). -/
def Attempt.differs (n i : Nat) (a : Attempt) : TxPlace × Option Instr :=
  if a.bitAt i then (.failing (afterCentre n) true, none)
  else if i ≤ 10 then (a.place, some .alignmentDropout)
  else if i ≤ 30 then (.losing (afterCentre n), none)
  else (.failing (afterCentre n) false, none)

/-- The transmitter at one part clock of a level (R47 to R50). `n`: the nominal bit time in part clocks; a bit is compared at
its centre, those of the break, the delimiter and the sync byte too (log 41). The break lasts 13 bit times; the delimiter
begins at the first recessive clock after it; a lost arbitration and a bit error go on to the end of their bit; the abort
break lasts 13 bit times, and BIT_ERROR stands at its release (log 27). -/
def Attempt.talk (n : Nat) (d : Bool) (a : Attempt) : TxPlace × Option Instr :=
  match a.place with
  | .brk c =>
      if c % n = n / 2 ∧ d = false then (.failing (afterCentre n) true, none)
      else if c + 1 < 13 * n then (.brk (c + 1), none)
      else (.waiting, none)
  | .waiting => if d then (.waiting, none) else (.sending 1, none)
  | .sending c =>
      if c % n = n / 2 ∧ d ≠ a.bitAt (c / n) then a.differs n (c / n)
      else (.sending (c + 1), if c + 1 < n * a.bitCount then none else some .ownFrameSeen)
  | .losing left => (.losing (left - 1), if 1 < left then none else some .arbitrationLost)
  | .failing left level => (if 1 < left then .failing (left - 1) level else .aborting 0, none)
  | .aborting c => (.aborting (c + 1), if c + 1 < 13 * n then none else some .bitError)

/-- LKC's transmitter at one part clock of a level: of LKC only the place of the attempt moves. -/
def Lkc.talk (n : Nat) (d : Bool) (l : Lkc) : Heard :=
  match l.attempt with
  | none => (l, none)
  | some a => ({ l with attempt := some { a with place := (a.talk n d).1 } }, (a.talk n d).2)

end Sys2Proof.Machine
end

