-- ==== Sys2Proof/Machine/Receiver.lean ====
section
/-! DEFINITION. The receiver at the part clock (R38, R40 to R43): how the levels of the pair move the receive states, how bits
are sampled into bytes and bytes into frames, and which command of the table each end of a run, byte or frame is; and
LKC at the part clock, transmitter and receiver. The commands' effects stand in `Machine/Link.lean`. -/

namespace Sys2Proof.Machine

/-- The part clock after the start edge at which bit `j` is sampled: (j + ½) measured bit times, the sync run being five
(R42, R43), rounded down to a whole clock (log 33). -/
def sampleClock (run j : Nat) : Nat := (2 * j + 1) * run / 10

/-- The byte of its ten sampled levels, the start bit first, the most significant data bit next (R38). -/
def byteOf (bits : List Bool) : Byte := ((bits.drop 1).take 8).foldl (fun acc d => acc <<< 1 ||| (if d then 0 else 1)) 0

/-- One more part clock of a level: how long it has lasted, and the recessive clocks toward idle, which a dominant level
restarts (R40). -/
def Ear.count (d : Bool) (e : Ear) : Ear :=
  { e with
    dominant := d, lasted := if d = e.dominant then e.lasted + 1 else 1, quiet := if d then 0 else e.quiet + 1
    heard := false }

/-- A byte begins at its falling edge (R43). -/
def Ear.byteBegins (e : Ear) : Ear := { e with clock := some 0, bits := [] }

/-- No frame is under way, and a command follows that says so. -/
def Ear.over (e : Ear) : Ear := { e with clock := none, bits := [], bytes := [], heard := true }

/-- The frame is complete: two identifier bytes, the length, as many payload bytes as it states, two CRC bytes (R43). -/
def Ear.frameComplete (e : Ear) : Bool := 3 ≤ e.bytes.length && e.bytes.length == 5 + (e.bytes.getD 2 0).toNat

/-- The receiver goes on with its counts. -/
def Lkc.goesOn (l : Lkc) (e : Ear) : Heard := ({ l with ear := e }, none)

/-- The receiver goes to a state for which the table of commands has no row (R41). -/
def Lkc.moves (l : Lkc) (rx : RxState) (e : Ear) : Heard := ({ l with rx := rx, linkIdle := false, ear := e }, none)

/-- A command reports what the receiver has met; no frame is under way any longer. -/
def Lkc.reports (l : Lkc) (c : Instr) (e : Ear) : Heard := ({ l with ear := e.over }, some c)

/-- The command of a REQUEST, by its payload (R44, R181). -/
def requestRow (payload : List Byte) : Instr :=
  match payload with
  | target :: number :: kind :: params =>
      match kind.toNat with
      | 1 => .prepare target number params
      | 2 => .shipSync target number params
      | 3 => .returnLoad target number params
      | 4 => .disconnect target number params
      | 5 => .mark target number params
      | 6 => .clear target number params
      | 7 => .readMeter target number params
      | 8 => .readLog target number params
      | 9 => .configStore target number params
      | _ => .malformedRequest payload
  | _ => .malformedRequest payload

/-- The command of a good frame, by its kind, class and sender (R44). -/
def goodFrameRow (r : Received) : Instr :=
  match FrameKind.ofCode r.kind.toNat with
  | some k =>
      if r.cls.toNat ≠ k.cls then .frameDropped r.cls r.sender r.kind r.payload
      else
        match k, isStation r.sender with
        | .tripNotice, true => .tripNoticeReceived r.sender r.payload
        | .claim, true => .claimReceived r.sender r.payload
        | .status, true => .statusReceived r.sender r.payload
        | .contStatus, true => .contStatusReceived r.sender r.payload
        | .shipStatus, _ =>
            if r.sender = 14 then .shipStatusReceived r.payload else .frameDropped r.cls r.sender r.kind r.payload
        | .request, _ =>
            if r.sender = 15 ∧ r.payload ≠ [] then requestRow r.payload
            else .frameDropped r.cls r.sender r.kind r.payload
        | _, _ => .frameDropped r.cls r.sender r.kind r.payload
  | none => .frameDropped r.cls r.sender r.kind r.payload

/-- The command of a frame that has ended, by its bytes: a good or a bad frame (R44). -/
def frameRow (bytes : List Byte) : Instr :=
  match judgeFrame bytes with
  | some r => goodFrameRow r
  | none => .badFrame bytes

/-- The sync byte at one part clock (R42): the run is measured up to its end, then the five bits after it are sampled; a run
outside the tolerance or a bit sampled dominant is a sync error at once. -/
def Lkc.hearSync (n : Nat) (d : Bool) (t : Nat) (l : Lkc) (e : Ear) : Heard :=
  if e.bits = [] then
    if d then if 11 * n ≤ e.lasted then l.reports .breakDetected e else l.goesOn { e with clock := some t }
    else if 94 * (5 * n) ≤ 100 * t ∧ 100 * t ≤ 106 * (5 * n) then
      ({ l with rxRun := t, ear := { e with clock := some t, bits := List.replicate 5 true } }, none)
    else l.reports (.syncError t false) e
  else if t = sampleClock l.rxRun e.bits.length then
    if d then l.reports (.syncError l.rxRun false) e
    else
      ({ l with ear := { e with clock := some t, bits := e.bits ++ [d], bytes := [], heard := e.bits.length == 9 } },
        if e.bits.length = 9 then some (.syncAccepted l.rxRun true) else none)
  else l.goesOn { e with clock := some t }

/-- A bit of a byte is sampled (R43): a recessive start bit is a glitch; a dominant stop bit ends the frame; a byte is taken
at its stop bit. -/
def Lkc.sampleBit (d : Bool) (l : Lkc) (e : Ear) : Heard :=
  if e.bits = [] ∧ d = false then l.goesOn { e with clock := none }
  else if e.bits.length < 9 then l.goesOn { e with bits := e.bits ++ [d] }
  else if d then l.reports .stopBitDominant e
  else l.goesOn { e with bits := e.bits ++ [d], bytes := e.bytes ++ [byteOf e.bits] }

/-- A frame at one part clock (R41, R43): `falling` marks a falling edge. A byte lasts from its edge to the end of its stop
bit, ten measured bit times on, or to an edge that comes before it; idle is counted from there, and there a third byte above
32 ends the frame. A frame that ends within an attempt is the own one, heard as it is sent and not judged here (R44, R50): the
receiver only hunts. -/
def Lkc.hearFrame (n : Nat) (d falling : Bool) (l : Lkc) (e : Ear) : Heard :=
  if d = true ∧ 11 * n ≤ e.lasted then l.reports (.partialFrameDiscarded true) e
  else
    match e.clock with
    | none =>
        if falling then l.goesOn e.byteBegins
        else if 11 * n ≤ e.quiet then l.reports (.partialFrameDiscarded false) e
        else l.goesOn e
    | some t =>
        if e.bits.length = 10 then
          if 2 * l.rxRun ≤ t + 1 ∨ falling = true then
            let rested := { e with clock := none, bits := [], quiet := if d then 0 else 1 }
            if e.bytes.length = 3 ∧ 32 < (e.bytes.getD 2 0).toNat then l.reports (.lengthAbove32 (e.bytes.getD 2 0)) rested
            else if e.frameComplete then
              if l.attempt.isSome then l.moves .hunt { rested with bytes := [] } else l.reports (frameRow e.bytes) rested
            else if falling then l.goesOn e.byteBegins
            else l.goesOn rested
          else l.goesOn { e with clock := some (t + 1) }
        else if t + 1 = sampleClock l.rxRun e.bits.length then l.sampleBit d { e with clock := some (t + 1) }
        else l.goesOn { e with clock := some (t + 1) }

/-- The receiver at one part clock of a level, by R41's table. `n`: the nominal bit time in part clocks. A dominant level in
HUNT is a run wherever it began, so that 11 bit times of it are a break. -/
def Lkc.listen (n : Nat) (d : Bool) (l : Lkc) : Heard :=
  let e := l.ear.count d
  match l.rx with
  | .idle => if d then l.moves .dominantRun e else l.goesOn e
  | .dominantRun =>
      if d then if 11 * n ≤ e.lasted then l.reports .breakDetected e else l.goesOn e else l.moves .hunt e
  | .hunt =>
      if d then l.moves .dominantRun e else if 11 * n ≤ e.quiet then l.reports .linkIdle e else l.goesOn e
  | .brk => if d then l.goesOn e else l.moves .delimit e
  | .delimit =>
      if d then l.moves .sync e.byteBegins else if 11 * n ≤ e.quiet then l.reports .linkIdle e else l.goesOn e
  | .sync =>
      match e.clock with
      | some t => l.hearSync n d (t + 1) e
      | none => if d then l.goesOn e.byteBegins else l.goesOn e
  | .frame => l.hearFrame n d (d && !l.ear.dominant) e

/-- LKC at one part clock (R40 to R50): the transmitter compares the level with the one it sends, then the receiver hears it
(log 2). The commands that the clock completes stand in that order. -/
def Lkc.clocked (n : Nat) (d : Bool) (l : Lkc) : Lkc × List Instr :=
  (((l.talk n d).1.listen n d).1, (l.talk n d).2.toList ++ ((l.talk n d).1.listen n d).2.toList)

/-- LKC reads one part clock of the pair while it is enabled (R40); the commands the clock completes are taken next. -/
def hear (d : Bool) (s : State) : State :=
  { s with
    lkc := if s.lkc.enabled then (s.lkc.clocked (bitClocks s.linkRate) d).1 else s.lkc
    pending := if s.lkc.enabled then (s.lkc.clocked (bitClocks s.linkRate) d).2 ++ s.pending else s.pending }

end Sys2Proof.Machine
end

