-- ==== Sys2Proof/Safety.lean ====
section
/-! DEFINITION. The terms claims are stated in: which blocks two states agree on, and the spec's laws of the device as
predicates of a state, each with what makes it hold again after every step, what the start work reads in the memory, and
what the causes, the held summary and the status broadcasts hold, by the spec's tables. -/

namespace Sys2Proof.Machine

/-! ### Frames -/

/-- The parts of `State`, for saying what a command leaves unchanged. -/
inductive Part where
  | pending | pair | clock | freeCount | phase | straps | ccAux | sbAux | tripIn | spt | msu | btr | rfg | mod | lkc | pvw | shc
  | ssc | syn | hoc | emt | rwr | fpt | mem | params | pru
  deriving DecidableEq, Repr

/-- Two states agree on a part. -/
def Part.same (s t : State) : Part → Prop
  | .pending => t.pending = s.pending
  | .pair => t.pair = s.pair
  | .clock => t.now = s.now
  | .freeCount => t.freeCount = s.freeCount
  | .phase => t.phase = s.phase
  | .straps => t.addr = s.addr ∧ t.rating = s.rating ∧ t.linkRate = s.linkRate
  | .ccAux => t.ccAux = s.ccAux
  | .sbAux => t.sbAux = s.sbAux
  | .tripIn => t.tripIn = s.tripIn
  | .spt => t.spt = s.spt
  | .msu => t.msu = s.msu
  | .btr => t.btr = s.btr
  | .rfg => t.rfg = s.rfg
  | .mod => t.mod = s.mod
  | .lkc => t.lkc = s.lkc
  | .pvw => t.pvw = s.pvw
  | .shc => t.shc = s.shc
  | .ssc => t.ssc = s.ssc
  | .syn => t.syn = s.syn
  | .hoc => t.hoc = s.hoc
  | .emt => t.emt = s.emt
  | .rwr => t.rwr = s.rwr
  | .fpt => t.fpt = s.fpt
  | .mem => t.mem = s.mem
  | .params => t.params = s.params
  | .pru => t.pru = s.pru

/-- Two states agree on every part but those listed. -/
def sameBut (parts : List Part) (s t : State) : Prop := ∀ p : Part, p ∉ parts → p.same s t

/-! ### Laws of the device -/

/-- The states with the gates off and the contactor commanded open (R84): STARTING, INVALID, STANDBY, CLOSING, TRIPPED. -/
def StationState.quiet : StationState → Bool
  | .starting => true
  | .invalid => true
  | .standby => true
  | .closing => true
  | .tripped => true
  | _ => false

/-- The gates are off and the contactor is commanded open. -/
def AtRest (s : State) : Prop := s.mod.gate = .gatesOff ∧ s.syn.cmdClosed = false

/-- The law of R174: while any trip-class held condition is present, the gates are off and the contactor is commanded open. -/
def TripLaw (s : State) : Prop := tripHeld s = true → AtRest s

/-- What keeps R174's law: in a reset and in the quiet states the station is at rest, and a running station that holds a
trip-class condition is in STARTING, INVALID or TRIPPED. -/
def TripInv (s : State) : Prop :=
  (s.phase ≠ .run ∨ s.ssc.station.quiet = true → AtRest s) ∧
    (s.phase = .run → tripHeld s = true →
      s.ssc.station = .starting ∨ s.ssc.station = .invalid ∨ s.ssc.station = .tripped)

/-- The law of R23, first part: the frequency reference lies within its band; the rate limit is a limit. -/
def FrequencyLaw (s : State) : Prop :=
  45000000 ≤ s.rfg.fRef ∧ s.rfg.fRef ≤ 65000000 ∧ 1 ≤ s.params.rate

/-- The law of R52: at most 8 frames, of which at most one is a STATUS or CONT_STATUS. -/
def QueueLaw (s : State) : Prop :=
  s.lkc.queue.length ≤ 8 ∧ (s.lkc.queue.countP fun e => e.frame.isStatus) ≤ 1

/-- The law of R40, R41 and R55: the receive state is IDLE exactly while the link is idle. -/
def LinkLaw (s : State) : Prop := s.lkc.linkIdle = true ↔ s.lkc.rx = .idle

/-- An empty queue, and a level to come on the pair of an enabled LKC: the next step hears that part clock (log 2). `n`: the
part clocks of a nominal bit time (R38). -/
def HearsNext (n : Nat) (d : Bool) (rest : List Bool) (s : State) : Prop :=
  s.lkc.enabled = true ∧ s.pending = [] ∧ s.pair = d :: rest ∧ n = (if s.linkRate then 40 else 80)

/-- The law of R63: one entry for an address, none for the own address, at most 11 entries. -/
def ViewLaw (s : State) : Prop :=
  (s.pvw.peers.map (·.addr)).Nodup ∧ (∀ e ∈ s.pvw.peers, e.addr ≠ s.addr) ∧ s.pvw.peers.length ≤ 11

/-- What keeps R63's law: the entries stand in rising order of address, each a converter station's other than the own; LKC
is enabled, entries are held and the station runs outside INVALID only under a valid own address. -/
def ViewInv (s : State) : Prop :=
  s.pvw.peers.Pairwise (fun x y => x.addr < y.addr) ∧
    (∀ e ∈ s.pvw.peers, isStation e.addr = true ∧ e.addr ≠ s.addr) ∧
      (s.lkc.enabled = true ∨ s.pvw.peers ≠ [] ∨ s.phase = .restartLow ∨
          (s.phase = .run ∧ s.ssc.station ≠ .invalid) → isStation s.addr = true)

/-- The law of R88: a ship-connected state only with an OPEN session context. -/
def SessionLaw (s : State) : Prop := s.ssc.station.shipConnected = true → sessionOpen s = true

/-- The states from PREPARED to HANDOVER_OUT. -/
def StationState.serving : StationState → Bool
  | .prepared => true
  | .joining => true
  | .online => true
  | .shipSync => true
  | .handoverIn => true
  | .supplying => true
  | .handoverOut => true
  | _ => false

/-- What keeps R88's law: the serving states hold an OPEN context, a CLOSED one stands in CLOSING alone, and EMT holds its
fields exactly while SSC holds a context (R144). -/
def SessionInv (s : State) : Prop :=
  (s.ssc.station.serving = true → sessionOpen s = true) ∧
    (∀ c, s.ssc.session = some c → c.opened = false → s.ssc.station = .closing) ∧
      (s.emt.isSome = s.ssc.session.isSome)

/-- The law of R122: with the contactor commanded or reported closed, the permit is released only in SHIP_SYNC, the ship
dwell having run out since the windows were last found not met. -/
def PermitLaw (s : State) : Prop :=
  s.syn.permit = true → s.syn.cmdClosed = true ∨ s.ccAux = true →
    s.ssc.station = .shipSync ∧ ∃ t, s.syn.shipDwell = some t ∧ t + ms s.params.shipDwell ≤ s.now

/-- What keeps R122's law: the drive follows the rule, and ready is set in SHIP_SYNC alone, after the dwell. -/
def PermitInv (s : State) : Prop :=
  s.syn.permit = permitRule s ∧
    (s.syn.ready = true →
      s.phase = .run ∧ s.ssc.station = .shipSync ∧
        ∃ t, s.syn.shipDwell = some t ∧ t + ms s.params.shipDwell ≤ s.now)

/-- Every parameter of R158's table lies within its range. -/
def Params.InRange (p : Params) : Prop :=
  (0 ≤ p.droop ∧ p.droop ≤ 3000) ∧ (1 ≤ p.rate ∧ p.rate ≤ 2000) ∧ (0 ≤ p.dq ∧ p.dq ≤ 100) ∧ (0 ≤ p.ks ∧ p.ks ≤ 200) ∧
    (0 ≤ p.kq ∧ p.kq ≤ 100) ∧ (0 ≤ p.kr ∧ p.kr ≤ 100) ∧ (0 ≤ p.kphi ∧ p.kphi ≤ 200) ∧
    (10 ≤ p.joinFreq ∧ p.joinFreq ≤ 500) ∧ (100 ≤ p.joinPhase ∧ p.joinPhase ≤ 4000) ∧
    (10 ≤ p.joinVolt ∧ p.joinVolt ≤ 200) ∧ (20 ≤ p.joinDwell ∧ p.joinDwell ≤ 1000) ∧
    (10 ≤ p.syncLimit ∧ p.syncLimit ≤ 600) ∧ (20 ≤ p.slipTarget ∧ p.slipTarget ≤ 300) ∧
    (20 ≤ p.closeTime ∧ p.closeTime ≤ 300) ∧ (10 ≤ p.shipSlip ∧ p.shipSlip ≤ 200) ∧
    (100 ≤ p.shipPhase ∧ p.shipPhase ≤ 4000) ∧ (10 ≤ p.shipVolt ∧ p.shipVolt ≤ 200) ∧
    (20 ≤ p.shipDwell ∧ p.shipDwell ≤ 1000) ∧ (30 ≤ p.handoverLimit ∧ p.handoverLimit ≤ 1200) ∧
    (1 ≤ p.ramp ∧ p.ramp ≤ 200) ∧ (0 ≤ p.kh ∧ p.kh ≤ 200) ∧ (5 ≤ p.partReady ∧ p.partReady ≤ 100)

/-- The law of R131: P_target stays within 0 to 1000 ‰; the ramp rate is a step forward. -/
def TargetLaw (s : State) : Prop :=
  (∀ t, s.hoc.pTarget = some t → 0 ≤ t ∧ t ≤ 1000000) ∧ (∀ g, s.hoc.pFinal = some g → 0 ≤ g ∧ g ≤ 1000) ∧
    1 ≤ s.params.ramp

/-- The law of R147: a session's energy is the whole Wh of its closed intervals and the open interval's watt-samples. -/
def MeterLaw (s : State) : Prop :=
  ∀ m, s.emt = some m →
    m.sessionFwd = 28800000 * m.closedFwd + m.intervalFwd ∧ m.sessionRev = 28800000 * m.closedRev + m.intervalRev

/-- The laws of the record store: at most 16 records queued (R161), the record memory in canonical form, no program running
in the memory crosses a page boundary (R162), and a continuous-read exit waits only while the port is in use (R169,
R170). -/
def StoreLaw (s : State) : Prop :=
  s.rwr.queue.length ≤ 16 ∧ s.mem.wf ∧ (∀ a d, s.mem.op = some (.program a d) → a % 256 + d.length ≤ 256) ∧
    (s.fpt.exitWaits = true → s.fpt.port.isSome = true)

/-- An operation of the writer has what it works on: a record is written to a place within one page from the head of the
queue, and a sector change is made for a record that waits. -/
def WriterOp.placed (queue : List QueuedRecord) : WriterOp → Prop
  | .record _ offset => ∃ r, queue.head? = some r ∧ offset % 256 + r.record.size ≤ 256
  | .logErase _ _ => queue ≠ []
  | .head _ _ => queue ≠ []
  | .configErase => True
  | .configProgram => True
  | .formatErase => True
  | .formatHead => True
  | .recovery => True

/-- What keeps the store's laws: records of at most 48 bytes, a configuration block of 28, and an operation in hand or in
flight that has what it works on; what was in flight at a warm reset is kept only until the writer has settled it, and till
then it begins nothing else (R167); a readout whose final frame has gone waits for its exit (R168). -/
def StoreInv (s : State) : Prop :=
  StoreLaw s ∧ (∀ r ∈ s.rwr.queue, r.record.size ≤ 48) ∧ (∀ b, s.rwr.config = some b → b.length = 28) ∧
    (∀ op, s.rwr.op = some op → op.placed s.rwr.queue) ∧ (∀ op, s.rwr.inFlight = some op → op.placed s.rwr.queue) ∧
    (∀ op, s.rwr.inFlight = some op → op ≠ .recovery →
      s.rwr.writer = .idle ∧ s.rwr.start = .none ∧ (s.phase = .restartLow ∨ s.rwr.settling = true)) ∧
    ∀ r, s.fpt.readout = some r → r.ended = true → s.fpt.exitWaits = true

/-! ### Gate lines (R34) -/

/-- R34's ideal level of a phase at part clock `u` of a period, counted from its start, negative in the period before: high
while the counter, falling from its peak and rising back to it, is below the compare value then in force. -/
def IdealHigh (prev c u : Int) : Prop :=
  if u < 0 then 1250 - prev ≤ u + 2500 ∧ u + 2500 < 1250 + prev else 1250 - c ≤ u ∧ u < 1250 + c

/-- R34's drive of a phase at part clock `t`: each switch conducts where the ideal level is its own and has been for 40 part
clocks, and both are off for the 40 part clocks from each change of that level. -/
def DrivesPhase (prev c : Int) (t : Nat) (high low : Bool) : Prop :=
  (high = true ↔ ∀ u : Int, t - 40 ≤ u → u ≤ t → IdealHigh prev c u) ∧
    (low = true ↔ ∀ u : Int, t - 40 ≤ u → u ≤ t → ¬ IdealHigh prev c u) ∧
    ∀ u : Int, ¬ (IdealHigh prev c (u - 1) ↔ IdealHigh prev c u) → u ≤ t → t < u + 40 → high = false ∧ low = false

/-! ### Conditions (R17, R172, R177, R178) -/

/-- The berth frequency is timed against the band of the session nominal, in mHz, and lies out of it: in the five states on
the berth bus, invalid or outside the band (R17). Without a session context the band is that of 50 Hz (log 12). -/
def BandMissed (s : State) : Prop :=
  s.ssc.station ∈ [StationState.online, .shipSync, .handoverIn, .supplying, .handoverOut] ∧
    ∀ f, s.btr.berth.freq = some f →
      if ∃ c, s.ssc.session = some c ∧ c.is60 = true then f < 57000 ∨ 63000 < f else f < 47500 ∨ 52500 < f

/-- The cause of a condition is live, row by row of R177's table. -/
def CauseTable (s : State) : Condition → Prop
  | .overcurrent => s.msu.ocLive = true
  | .dcFault => s.msu.dcLive = true
  | .measurementLost => 3 ≤ s.spt.runCount
  | .tripInput => s.tripIn = true
  | .contactorFail => s.ccAux ≠ s.syn.cmdClosed ∧ s.syn.window = none
  | .duplicateAddress => ∃ last, s.lkc.dup = some last ∧ s.now < last + 8000
  | .busFrequency => BandMissed s
  | .recordStoreFault => s.rwr.faultBusy = true
  | .shipBreakerFail => s.hoc.sbtLow = true ∧ s.sbAux = true ∧ s.hoc.tripDone = true
  | .linkNoisy => 16 ≤ s.lkc.badCount
  | .linkTxFail => False
  | .linkOverrun => False
  | .syncTimeout => False
  | .handoverAborted => False
  | .energiseFailed => False
  | .configAdjusted => False
  | .markLate => False
  | .restarted => False

/-- A condition is trip class under a trip mask, by the classes of R172's table. -/
def TripClassTable (p : Params) (x : Condition) : Prop :=
  x ∈ [Condition.overcurrent, .dcFault, .measurementLost, .tripInput, .contactorFail, .duplicateAddress] ∨
    x = .busFrequency ∧ p.tripBus = true ∨ x = .linkTxFail ∧ p.tripTx = true ∨ x = .recordStoreFault ∧ p.tripStore = true

/-- The groups of R178's table, that of mark 1 first. -/
def summaryGroups : List (List Condition) :=
  [[.overcurrent, .dcFault], [.measurementLost], [.tripInput], [.contactorFail], [.duplicateAddress], [.busFrequency],
    [.linkTxFail, .linkNoisy, .linkOverrun], [.recordStoreFault], [.shipBreakerFail], [.syncTimeout, .energiseFailed],
    [.handoverAborted], [.configAdjusted], [.markLate], [.restarted]]

/-- The conditions in the order of their codes, 1 to 18 (13.1). -/
def conditionsByCode : List Condition :=
  [.overcurrent, .dcFault, .measurementLost, .tripInput, .contactorFail, .duplicateAddress, .busFrequency, .linkTxFail,
    .recordStoreFault, .shipBreakerFail, .syncTimeout, .handoverAborted, .energiseFailed, .linkNoisy, .linkOverrun,
    .configAdjusted, .markLate, .restarted]

/-- The station states in the order of their codes, 1 to 12 (13.1). -/
def statesByCode : List StationState :=
  [.starting, .invalid, .standby, .prepared, .joining, .online, .shipSync, .handoverIn, .supplying, .handoverOut, .closing,
    .tripped]

/-! ### Fields of frames (13.1, 13.3) -/

/-- Two bytes from an offset as a number, high byte first (R180). -/
def wordAt (p : List Byte) (offset : Nat) : Nat := (p.getD offset 0).toNat * 256 + (p.getD (offset + 1) 0).toNat

/-- A held set field of 3 bytes: condition code c in bit c − 1, the others 0 (13.1). -/
def HeldSetSays (held : List Condition) (p : List Byte) : Prop :=
  p.length = 3 ∧ ∀ k, k < 24 →
    ((p.getD (2 - k / 8) 0).getLsbD (k % 8) = true ↔ ∃ x ∈ held, conditionsByCode[k]? = some x)

/-- A held summary at an offset: mark k of R178 in bit k − 1, mark 15 for a trip-class condition, bit 15 0 (13.1). -/
def SummarySays (params : Params) (held : List Condition) (p : List Byte) (offset : Nat) : Prop :=
  ∀ k, k < 16 → ((wordAt p offset).testBit k = true ↔
    (∃ x ∈ held, x ∈ summaryGroups.getD k []) ∨ k = 14 ∧ ∃ x ∈ held, TripClassTable params x)

/-- The sixteen bytes of a STATUS say the station as it stands, field by field (R58, R60, 13.3). -/
def StatusSays (s : State) (p : List Byte) : Prop :=
  p.length = 16 ∧ (∃ code, (p.getD 0 0).toNat = code + 1 ∧ statesByCode[code]? = some s.ssc.station) ∧
    (let flag k := (p.getD 1 0).getLsbD k
     flag 0 = s.ccAux ∧ flag 1 = s.syn.permit ∧ flag 2 = s.hoc.ready ∧ flag 3 = s.hoc.returnArmed ∧ flag 4 = s.hoc.aborted ∧
       (flag 5 = true ↔ ∃ time, s.syn.claim = .own time) ∧
       (flag 6 = true ↔ s.ssc.station ≠ .tripped ∧ s.ssc.station ≠ .closing) ∧ flag 7 = false) ∧
    (s.ssc.session = none → wordAt p 2 = 0 ∧ wordAt p 4 = 0) ∧
    (∀ c, s.ssc.session = some c → wordAt p 2 * 65536 + wordAt p 4 = c.id.toNat) ∧
    (p.getD 6 0).toNat = s.rating.toNat ∧ (wordAt p 7 : Int) = s.msu.p % 65536 ∧ (wordAt p 9 : Int) = s.msu.q % 65536 ∧
    (s.btr.berth.freq = none → wordAt p 11 = 0) ∧
    (∀ f, s.btr.berth.freq = some f → 0 ≤ f → (wordAt p 11 : Int) = min f 65535) ∧
    p.getD 13 0 = s.pvw.seq ∧ SummarySays s.params s.pru.held p 14

/-- The six bytes of a CONT_STATUS say the sequence, the loading and eight live conditions (R59, 13.1, 13.3). -/
def ContStatusSays (s : State) (p : List Byte) : Prop :=
  p.length = 6 ∧ p.getD 0 0 = s.pvw.seq ∧ (wordAt p 1 : Int) = s.msu.p % 65536 ∧ (wordAt p 3 : Int) = s.msu.q % 65536 ∧
    (let flag k := (p.getD 5 0).getLsbD k
     flag 0 = s.rfg.overmod ∧ flag 1 = s.rfg.freqClamped ∧ flag 2 = s.rfg.rateLimited ∧ flag 3 = s.spt.saturated ∧
       flag 4 = s.pvw.shipStale ∧ (flag 5 = true ↔ s.btr.berthState = .live) ∧ (flag 6 = true ↔ s.btr.shipState = .live) ∧
       (flag 7 = true ↔ s.rwr.writer = .programming ∨ s.rwr.writer = .erasing))

/-! ### Trackers -/

/-- R14 at a crossing accepted at `time`: the period since the last crossing joins the list, the oldest of five leaving; a
tracker without a last crossing time appends none; the frequency is that of the list. -/
def Tracker.CrossedAt (time : Int) (old new : Tracker) : Prop :=
  new.tLast = some time ∧ new.freq = frequencyOf new.periods ∧ (old.tLast = none → new.periods = old.periods) ∧
    ∀ last, old.tLast = some last →
      (old.periods.length < 4 → new.periods = old.periods ++ [time - last]) ∧
      (old.periods.length = 4 → new.periods = old.periods.tail ++ [time - last])

/-! ### The start work's reading of the memory (11.5, 13.4) -/

/-- A row of the parameter block (13.4): where a parameter stands and in which unit, with its range and default (R158). -/
structure ParamRow where
  value : Params → Int
  offset : Nat
  length : Nat
  unit : Int
  low : Int
  high : Int
  preset : Int

/-- The value a block stores for a row (13.4). -/
def ParamRow.stored (w : ParamRow) (block : List Byte) : Int := fieldNat block w.offset w.length * w.unit

/-- The numbers of the parameter block: offset, length and unit of 13.4, range and default of R158. -/
def paramRows : List ParamRow :=
  [⟨Params.droop, 0, 2, 1, 0, 3000, 1500⟩, ⟨Params.rate, 2, 2, 1, 1, 2000, 125⟩, ⟨Params.dq, 4, 1, 1, 0, 100, 40⟩,
    ⟨Params.ks, 5, 1, 1, 0, 200, 10⟩, ⟨Params.kq, 6, 1, 1, 0, 100, 5⟩, ⟨Params.kr, 7, 1, 1, 0, 100, 2⟩,
    ⟨Params.kphi, 8, 1, 1, 0, 200, 30⟩, ⟨Params.joinFreq, 9, 1, 2, 10, 500, 100⟩,
    ⟨Params.joinPhase, 10, 2, 1, 100, 4000, 1820⟩, ⟨Params.joinVolt, 12, 1, 1, 10, 200, 50⟩,
    ⟨Params.joinDwell, 13, 1, 10, 20, 1000, 200⟩, ⟨Params.syncLimit, 14, 1, 10, 10, 600, 120⟩,
    ⟨Params.slipTarget, 15, 2, 1, 20, 300, 80⟩, ⟨Params.closeTime, 17, 1, 2, 20, 300, 80⟩,
    ⟨Params.shipSlip, 18, 1, 1, 10, 200, 50⟩, ⟨Params.shipPhase, 19, 2, 1, 100, 4000, 1456⟩,
    ⟨Params.shipVolt, 21, 1, 1, 10, 200, 40⟩, ⟨Params.shipDwell, 22, 1, 10, 20, 1000, 100⟩,
    ⟨Params.handoverLimit, 23, 1, 10, 30, 1200, 180⟩, ⟨Params.ramp, 24, 1, 1, 1, 200, 20⟩,
    ⟨Params.kh, 25, 1, 1, 0, 200, 20⟩, ⟨Params.partReady, 26, 1, 1, 5, 100, 30⟩]

/-- A SECTOR_HEAD that is a candidate begins a sector: kind 0x01, length 1, the next record sequence, the sector sequence,
and a good CRC; its address and rating class are not looked at (R165, R182). -/
def HeadAt (m : Memory) (sector seq next : Nat) : Prop :=
  let h := memBytes m (sector * 4096) 16
  h.getD 0 0 = 0x01#8 ∧ h.getD 1 0 = 0x01#8 ∧ h = withCrc16 (h.take 14) ∧ next = fieldNat h 2 4 ∧ seq = fieldNat h 6 4

/-- A valid record stands at an offset of a sector: a known kind, its length the size of its kind, within the page, its CRC
good (R160, R166, R182). -/
def RecordAt (m : Memory) (sector offset size stamp : Nat) : Prop :=
  let r := memBytes m (sector * 4096 + offset) size
  ((r.getD 0 0).toNat, size) ∈ [(1, 16), (2, 32), (3, 32), (4, 48), (5, 48), (6, 16)] ∧
    (r.getD 1 0).toNat * 16 = size ∧ offset % 256 + size ≤ 256 ∧ r = withCrc16 (r.take (size - 2)) ∧ stamp = fieldNat r 2 4

/-- An offset is a page start, and the page is erased to its end (R166). -/
def ErasedPageAt (m : Memory) (sector offset : Nat) : Prop :=
  offset % 256 = 0 ∧ ∀ i, i < 256 → m.get (sector * 4096 + offset + i) = 0xFF#8

/-- The walk of a sector from an offset, a stamp noted last, to the write position and the stamp noted last then (R166): to
the end of the sector or an erased page, over a valid record to the byte after it, over anything else to the next page. -/
inductive Walks (m : Memory) (sector : Nat) : Nat → Option Nat → Nat → Option Nat → Prop where
  | full (offset : Nat) (last : Option Nat) : 4096 ≤ offset → Walks m sector offset last 4096 last
  | erased (offset : Nat) (last : Option Nat) : offset < 4096 → ErasedPageAt m sector offset →
      Walks m sector offset last offset last
  | record (offset size stamp position : Nat) (last found : Option Nat) : offset < 4096 →
      RecordAt m sector offset size stamp → Walks m sector (offset + size) (some stamp) position found →
      Walks m sector offset last position found
  | skip (offset position : Nat) (last found : Option Nat) : offset < 4096 → ¬ ErasedPageAt m sector offset →
      (∀ size stamp, ¬ RecordAt m sector offset size stamp) →
      Walks m sector ((offset / 256 + 1) * 256) last position found → Walks m sector offset last position found

/-- The recovery of a station in STARTING ends with `first` as the next record sequence (R85, R161, R166): the writer IDLE,
the records that waited unstamped stamped in order from it, the counter past them; STANDBY, or TRIPPED with its TRIP record
submitted where a trip-class condition is held. -/
def RecoveryEnds (first : Nat) (s t : State) : Prop :=
  t.rwr.recovered = true ∧ t.rwr.writer = .idle ∧ t.rwr.start = .none ∧
    ((∀ r ∈ s.rwr.queue, r.stamp = none) →
      t.rwr.queue.take s.rwr.queue.length = s.rwr.queue.mapIdx (fun i r => { r with stamp := some (first + i) }) ∧
      (tripHeld s = false → s.pru.waiting.any (tripClass s.params) = false →
        t.rwr.recSeq = first + s.rwr.queue.length ∧ t.rwr.queue.length = s.rwr.queue.length) ∧
      (tripHeld s = true ∨ s.pru.waiting.any (tripClass s.params) = true →
        t.rwr.recSeq = first + s.rwr.queue.length + 1)) ∧
    (tripHeld s = false → s.pru.waiting.any (tripClass s.params) = false → t.ssc.station = .standby) ∧
    (tripHeld s = true ∨ s.pru.waiting.any (tripClass s.params) = true → t.ssc.station = .tripped)

/-! ### Frames heard (R44) -/

/-- A command reports this frame: FRAME_DROPPED and BAD_FRAME any, by its identifier or by its bytes, each other row a frame
of its kind and, for a SHIP_STATUS and a REQUEST, of its sender (R44, 13.2). -/
def Reports (c : Instr) (f : Received) : Prop :=
  c = .frameDropped f.cls f.sender f.kind f.payload ∨
    f.payload.length ≤ 32 ∧
      c = .badFrame (withCrc16
        ((f.cls ++ f.sender : Byte) :: f.kind :: BitVec.ofNat 8 f.payload.length :: f.payload)) ∨
    (f.cls, f.kind, c) ∈
      [ (0#4, 0x01#8, Instr.tripNoticeReceived f.sender f.payload), (2#4, 0x20#8, .claimReceived f.sender f.payload),
        (3#4, 0x30#8, .statusReceived f.sender f.payload), (4#4, 0x31#8, .contStatusReceived f.sender f.payload) ] ∨
    f.cls = 2 ∧ f.kind = 0x21 ∧ f.sender = 14 ∧ c = .shipStatusReceived f.payload ∨
    f.cls = 1 ∧ f.kind = 0x10 ∧ f.sender = 15 ∧
      (c = .malformedRequest f.payload ∨
        ∃ (target number code : Byte) (ps : List Byte), f.payload = target :: number :: code :: ps ∧
          (code, c) ∈
            [ (1#8, Instr.prepare target number ps), (2#8, .shipSync target number ps), (3#8, .returnLoad target number ps),
              (4#8, .disconnect target number ps), (5#8, .mark target number ps), (6#8, .clear target number ps),
              (7#8, .readMeter target number ps), (8#8, .readLog target number ps),
              (9#8, .configStore target number ps) ])

/-- R44's table hands a good frame on, as R54 narrows it in STARTING and STANDBY: by its class, kind and sender, and for a
REQUEST by its target. -/
def HandedOn (s : State) (f : Received) : Prop :=
  f.cls = 1 ∧ f.kind = 0x10 ∧ f.sender = 15 ∧
      (∃ target rest, f.payload = target :: rest ∧ (target.toNat = 0 ∨ target.toNat = s.addr.toNat)) ∨
    s.ssc.station ≠ .starting ∧ s.ssc.station ≠ .standby ∧
      ((f.cls, f.kind) ∈ [(0#4, 0x01#8), (2#4, 0x20#8), (3#4, 0x30#8), (4#4, 0x31#8)] ∧ 1 ≤ f.sender.toNat ∧
          f.sender.toNat ≤ 12 ∨
        f.cls = 2 ∧ f.kind = 0x21 ∧ f.sender = 14)

/-- What a dropped frame leaves: the receive state alone has moved (R43, R44). -/
def onlyHeard (s : State) : State :=
  { s with lkc := { s.lkc with rx := .hunt, linkIdle := false, ownAbort := false, ear := s.lkc.ear.taken } }

/-! ### Changes of the peer view (R135, R139) -/

/-- A command changes the view by this peer, in R139's list: a STATUS that creates its entry or changes the entry's state or
flags, or announces STANDBY and removes it; a TRIP_NOTICE; the entry going stale or being removed. `now`: the moment it is
taken, to which the clock catches up where an age is reached (log 1). That the list is whole is log 30. -/
def ChangesView (s : State) (c : Instr) (a : Addr) (now : Nat) : Prop :=
  s.lkc.enabled = true ∧ isStation a = true ∧ a ≠ s.addr ∧ now = s.now ∧
      ((∃ p, c = .statusReceived a p ∧ p.length = 16 ∧ (p.getD 6 0).toNat ≤ 3 ∧
          ((∃ state : StationState, state.broadcasting = true ∧ (p.getD 0 0).toNat = state.code ∧
              ∀ e, peerAt a s.pvw.peers = some e →
                e.state ≠ state ∨ e.contactor ≠ (p.getD 1 0).getLsbD 0 ∨ e.ready ≠ (p.getD 1 0).getLsbD 2 ∨
                  e.aborted ≠ (p.getD 1 0).getLsbD 4) ∨
            (p.getD 0 0).toNat = 3 ∧ (peerAt a s.pvw.peers).isSome = true)) ∨
        ∃ p, c = .tripNoticeReceived a p ∧ p.length = 2 ∧ (peerAt a s.pvw.peers).isSome = true) ∨
    ∃ e, peerAt a s.pvw.peers = some e ∧
      (c = .peerEntryStale a ∧ e.stale = false ∧ now = max s.now (e.refreshed + 480) ∨
        c = .peerEntryRemoved a ∧ now = max s.now (e.refreshed + 4000))

/-- Every fresh participant (R70) but the own station whose state is HANDOVER_IN, SUPPLYING or HANDOVER_OUT shows its
ready-to-part flag set (R139). -/
def PeersShowReady (s : State) : Prop :=
  ∀ e ∈ s.pvw.peers, e.stale = false → s.now ≤ e.refreshed + 480 → e.session ≠ 0 → sessionId s = some e.session →
    e.contactor = true → e.state ∈ [StationState.handoverIn, .supplying, .handoverOut] → e.ready = true

/-- A fresh peer entry of the own session shows HANDOVER_OUT with its aborted flag set (R135). -/
def PeerShowsAbort (s : State) : Prop :=
  ∃ e ∈ s.pvw.peers, e.stale = false ∧ s.now ≤ e.refreshed + 480 ∧ e.session ≠ 0 ∧ sessionId s = some e.session ∧
    e.state = .handoverOut ∧ e.aborted = true

/-- A handover in has been aborted (R135, R137): HANDOVER_OUT with aborted set and HANDOVER_ABORTED held, the own P‰ as
target, a fresh handover timer, the seconds spent handed to the meter (R154), an EVENT with this cause. -/
def HandoverAborted (cause : Nat) (s t : State) : Prop :=
  t.ssc = { s.ssc with station := .handoverOut } ∧ t.hoc.aborted = true ∧ .handoverAborted ∈ t.pru.held ∧
    t.hoc.pTarget = some (clamp 0 1000 s.msu.p * 1000) ∧ t.hoc.fHo = 0 ∧ t.hoc.timer = some t.now ∧ t.hoc.stale = none ∧
    t.hoc.ready = false ∧ t.hoc.sbtLow = s.hoc.sbtLow ∧
    (s.rwr.queue.length < 16 →
      t.emt = s.emt.map (fun m => { m with
        handoverSeconds := min 65535 (m.handoverSeconds + (t.now - s.hoc.entered) / 8000) }) ∧
      ∃ body, (t.rwr.queue.drop s.rwr.queue.length).map (fun r => r.record) =
        [{ kind := .event, body := 3 :: BitVec.ofNat 8 cause :: body }]) ∧
    sameBut [.clock, .btr, .lkc, .pvw, .shc, .ssc, .syn, .hoc, .emt, .rwr, .pru] s t

/-! ### Requests -/

/-- The station is enabled on the link and a REQUEST with this target reaches it (R40, R44). -/
def Named (target : Byte) (s : State) : Prop :=
  s.phase = .run ∧ s.lkc.enabled = true ∧ isStation s.addr = true ∧ (target.toNat = 0 ∨ target.toNat = s.addr.toNat)

/-- An entry of the transmit queue for a REPLY: number, kind, outcome and reason, then the data (R99, 13.3). -/
def replyEntry (number : Byte) (kind outcome reason : Nat) (data : List Byte) : TxEntry :=
  { frame :=
      { kind := .reply
        payload := number :: BitVec.ofNat 8 kind :: BitVec.ofNat 8 outcome :: BitVec.ofNat 8 reason :: data }
    retry := 0, inAttempt := false }

/-- What a request leaves that changes nothing but the REPLY it produces, where the transmit queue has room. -/
def onlyReplied (number : Byte) (kind outcome reason : Nat) (data : List Byte) (s : State) : State :=
  { s with lkc := { s.lkc with
      rx := .hunt, linkIdle := false, ownAbort := false, ear := s.lkc.ear.taken
      queue := s.lkc.queue ++ [replyEntry number kind outcome reason data] } }

end Sys2Proof.Machine
end

