-- ==== Sys2Proof/Certificates/Slice0/Obligations.lean ====
section
/-! DEFINITION. The statements for the provers. Each names the rules it rests on; a clause that rests on the model's own
choice says so and names the log entry. -/

open Sys2Proof Sys2Proof.Machine

/-! ### The queue of commands, and reset -/

/-- One step takes the command at the front of the queue and runs it on the state with the queue's rest. On an empty queue
LKC reads one part clock of the pair, and with none to come the station idles (both log 2). -/
def Obligations.StepTakesFrontCommand : Prop :=
  (∀ (c : Instr) (rest : List Instr) (s : State), step { s with pending := c :: rest } = exec c { s with pending := rest }) ∧
    ∀ s : State, s.pending = [] →
      (∀ d rest, s.pair = d :: rest → step s = .next (hear d { s with pair := rest })) ∧ (s.pair = [] → step s = .next s)

/-- While RST_N is held low every output is at rest: gates off, contactor commanded open, nothing driven on the link, the
permit and trip lines released (R85), and every block stands at its cold-reset value (R7, R18, R37, R55, R72, R82, R116,
R127, R143, R171, R179). That `State.reset` is the station under RST_N, its straps and lines not yet sampled, is log 3; the
writer's place and counters before the recovery are log 16; the parameters at their defaults, but for the trip mask, are
log 23; the receiver waiting in HUNT with a measured sync run of 0 is log 33.
Every invariant of `Safety.lean` holds at reset. -/
def Obligations.ResetIsAtRestAndMeetsTheInvariants : Prop :=
  (State.reset.phase = .rstLow ∧ State.reset.pending = [] ∧ gateLines State.reset.mod 0 = ⟨false, false, false, false, false, false, false⟩ ∧
     State.reset.syn.cmdClosed = false ∧ State.reset.lkc.lde = false ∧ State.reset.syn.permit = true ∧
     State.reset.hoc.sbtLow = false ∧ State.reset.rfg.fRef = 50000000 ∧ State.reset.lkc.queue = [] ∧
     State.reset.pru.held = [] ∧ State.reset.pru.first = none ∧ State.reset.ssc.session = none ∧
     State.reset.shc.fShare = 0 ∧ State.reset.shc.vShare = 0 ∧ State.reset.shc.fRest = 0 ∧ State.reset.params = Params.default ∧
     State.reset.spt = .initial ∧ State.reset.msu = .initial ∧ State.reset.btr = .initial ∧ State.reset.rfg = .initial ∧
     State.reset.mod = .off ∧ State.reset.lkc = .disabled ∧ State.reset.pvw = .initial ∧ State.reset.shc = .initial ∧
     State.reset.syn = .initial ∧ State.reset.hoc = .initial ∧ State.reset.emt = none ∧ State.reset.rwr = .initial ∧
     State.reset.fpt = .initial ∧ State.reset.pru = .initial) ∧
  (TripInv State.reset ∧ FrequencyLaw State.reset ∧ QueueLaw State.reset ∧ LinkLaw State.reset ∧ ViewInv State.reset ∧ SessionInv State.reset ∧
     PermitInv State.reset ∧ TargetLaw State.reset ∧ MeterLaw State.reset ∧ StoreInv State.reset)

/-- The invariants say the laws of the device that the spec states. -/
def Obligations.InvariantsGiveTheDeviceLaws : Prop :=
  ∀ s : State, (TripInv s → TripLaw s) ∧ (ViewInv s → ViewLaw s) ∧ (SessionInv s → SessionLaw s) ∧ (PermitInv s → PermitLaw s) ∧
    (StoreInv s → StoreLaw s)

/-! ### Invariants that every command keeps -/

/-- R174's law is kept: while a trip-class condition is held, the gates are off and the contactor is commanded open. -/
def Obligations.EveryStepKeepsTheTripLaw : Prop :=
  ∀ s t : State, TripInv s → step s = .next t → TripInv t

/-- R23's band is kept, 45 to 65 Hz, and R131's bounds, P_target within 0 to 1000 ‰. -/
def Obligations.EveryStepKeepsTheReferenceAndTargetBounds : Prop :=
  (∀ s t : State, FrequencyLaw s → step s = .next t → FrequencyLaw t) ∧
  (∀ s t : State, TargetLaw s → step s = .next t → TargetLaw t)

/-- R52's law is kept: at most 8 frames pending, at most one of them a status broadcast. So is that of R40, R41 and R55: the
receive state is IDLE exactly while the link is idle. -/
def Obligations.EveryStepKeepsTheTransmitQueue : Prop :=
  (∀ s t : State, QueueLaw s → step s = .next t → QueueLaw t) ∧ ∀ s t : State, LinkLaw s → step s = .next t → LinkLaw t

/-- R63's law is kept: one entry for an address, none for the own address. -/
def Obligations.EveryStepKeepsThePeerView : Prop :=
  ∀ s t : State, ViewInv s → step s = .next t → ViewInv t

/-- R88's law is kept: a serving station holds an OPEN session, and the meter's fields exist with it (R144). -/
def Obligations.EveryStepKeepsTheSession : Prop :=
  ∀ s t : State, SessionInv s → step s = .next t → SessionInv t

/-- R122's law is kept: the permit line. -/
def Obligations.EveryStepKeepsThePermit : Prop :=
  ∀ s t : State, PermitInv s → step s = .next t → PermitInv t

/-- R147's balance is kept: the session's energy is the carried Wh and the open interval's remainder. R145's law: while a session is open, its forward and reverse energy never decrease in one step that keeps the session,
and they increase only where both SB_AUX and CC_AUX report closed. -/
def Obligations.EnergyBalancesAndOnlyRises : Prop :=
  (∀ s t : State, MeterLaw s → step s = .next t → MeterLaw t) ∧
  (∀ (s t : State) (m n : Meter), step s = .next t → sessionOpen s = true → sessionId s = sessionId t → s.emt = some m →
     t.emt = some n →
     m.sessionFwd ≤ n.sessionFwd ∧ m.sessionRev ≤ n.sessionRev ∧
       (m.sessionFwd < n.sessionFwd ∨ m.sessionRev < n.sessionRev → s.sbAux = true ∧ s.ccAux = true))

/-- The store's laws are kept: at most 16 records queued (R161), the record memory in canonical form, every program within
one page (R162), a continuous-read exit waiting only while the port is in use (R169, R170). -/
def Obligations.EveryStepKeepsTheStore : Prop :=
  ∀ s t : State, StoreInv s → step s = .next t → StoreInv t

/-! ### Laws of one step -/

/-- R23's law, second part: while the gates are not off, one step moves the frequency reference by no more than the rate
limit. -/
def Obligations.OneStepMovesTheReferenceByTheRate : Prop :=
  ∀ s t : State, 1 ≤ s.params.rate → step s = .next t → s.mod.gate ≠ .gatesOff → t.mod.gate ≠ .gatesOff →
    t.rfg.fRef - s.rfg.fRef ≤ s.params.rate ∧ s.rfg.fRef - t.rfg.fRef ≤ s.params.rate

/-! ### Chapter 1: samples -/

/-- A record with a good CRC and the expected sequence (or any, while that is unset) settles its period good (R3, R4, R6):
run count 0, last good record replaced, next expected sequence, saturation flags; Vdc is published (R12). Not-ready bytes
before it are discarded (R2). In PREPARED and TRIPPED, where the sample meets no check, nothing outside the measurement
path, the claim and the meter changes.
Outside JOINING the meter takes the active product in watts, toward zero, with its gate met (R145).

A first byte that is neither not-ready nor the start marker settles the period missing at once (R2): the run count
rises, holding at 255, the expected sequence moves on, the last good record and the saturation flag stay (R3, R4, R6);
at 3 MEASUREMENT_LOST is held (R5). The last good record is handed on again, so that its Vdc is published, and runs no check
(R4, R12). With no record yet, and away from 3, nothing else changes. A complete record whose CRC is wrong settles its
period in the same way. So does one whose CRC is good but whose sequence is not the expected one, except that the expected
sequence then follows that record (R3). -/
def Obligations.RecordsSettleTheirPeriods : Prop :=
  (∀ (s : State) (notReady : Nat) (r : List Byte), s.phase = .run → unsettled s = true → r.length = 25 →
     r.head? = some 0xA6#8 → crc8 (r.take 24) = r.getD 24 0 →
     (s.spt.expected = none ∨ s.spt.expected = some (r.getD 1 0)) →
     ∃ t, exec (.recordComplete (List.replicate notReady 0xFF#8 ++ r)) s = .next t ∧
       t.spt = { s.spt with settled := true, runCount := 0, lastGood := some (sampleOf r),
                            expected := some (r.getD 1 0 + 1), saturated := (sampleOf r).flags != 0 } ∧
       t.msu.vdc = some (sampleOf r).vdc.toInt ∧ t.msu.ocLive = overcurrentMet (sampleOf r) ∧
       t.msu.dcLive = dcFaultMet (sampleOf r) ∧
       sameBut [.spt, .msu, .btr, .rfg, .mod, .lkc, .pvw, .shc, .ssc, .syn, .hoc, .emt, .rwr, .fpt, .mem, .pru] s t ∧
       (overcurrentMet (sampleOf r) = false → dcFaultMet (sampleOf r) = false → s.ssc.station ≠ .joining →
         t.emt = (if sessionOpen s = true ∧ s.sbAux = true ∧ s.ccAux = true then
             s.emt.map (Meter.add ((((sampleOf r).vmAb.toInt * (sampleOf r).ia.toInt -
               (sampleOf r).vmBc.toInt * (sampleOf r).ic.toInt) * ratingVa s.rating).tdiv 346410162))
           else s.emt)) ∧
       (overcurrentMet (sampleOf r) = false → dcFaultMet (sampleOf r) = false →
         s.ssc.station = .prepared ∨ s.ssc.station = .tripped →
           sameBut [.spt, .msu, .btr, .syn, .lkc, .pvw, .emt, .pru] s t)) ∧
  (∀ (s : State) (c : Instr), s.phase = .run → unsettled s = true →
     ((∃ b : Byte, b ≠ 0xFF#8 ∧ b ≠ 0xA6#8 ∧ c = .startMarkerWrong b) ∨
       ∃ r : List Byte, r.length = 25 ∧ r.head? = some 0xA6#8 ∧ crc8 (r.take 24) ≠ r.getD 24 0 ∧ c = .recordComplete r) →
     ∃ t, exec c s = .next t ∧
       t.spt = { s.spt with settled := true, runCount := min 255 (s.spt.runCount + 1),
                            expected := s.spt.expected.map (· + 1) } ∧
       (s.spt.runCount = 2 → .measurementLost ∈ t.pru.held) ∧ t.msu.ocLive = s.msu.ocLive ∧ t.msu.dcLive = s.msu.dcLive ∧
       (∀ last, s.spt.lastGood = some last → t.msu.vdc = some last.vdc.toInt) ∧
       (s.spt.lastGood = none → s.spt.runCount ≠ 2 → sameBut [.spt] s t)) ∧
  (∀ (s : State) (r : List Byte) (e : Byte), s.phase = .run → unsettled s = true → r.length = 25 →
     r.head? = some 0xA6#8 → crc8 (r.take 24) = r.getD 24 0 → s.spt.expected = some e → e ≠ r.getD 1 0 →
     ∃ t, exec (.recordComplete r) s = .next t ∧
       t.spt = { s.spt with settled := true, runCount := min 255 (s.spt.runCount + 1), expected := some (r.getD 1 0 + 1) } ∧
       (s.spt.runCount = 2 → .measurementLost ∈ t.pru.held) ∧ t.msu.ocLive = s.msu.ocLive ∧ t.msu.dcLive = s.msu.dcLive ∧
       (∀ last, s.spt.lastGood = some last → t.msu.vdc = some last.vdc.toInt) ∧
       (s.spt.lastGood = none → s.spt.runCount ≠ 2 → sameBut [.spt] s t))

/-- A new sample over the current limit trips a station that can trip and does not hold OVERCURRENT (R12, R172, R174):
TRIPPED, gates off, contactor commanded open, and the first-cause record names it and the state (R175). R174 leaves open
which of two conditions of one sample is taken first: that OVERCURRENT comes before DC_FAULT is the model's choice (log 7).

The two checks of a new sample (R12): overcurrent is met where the magnitude of a current exceeds 30,000 counts, the DC link
check where Vdc is below 16,000 or above 31,000. Each cause is live exactly where its check is met, and each condition is
raised exactly there. A DC_FAULT alone trips a station that can trip and did not hold it, in the same way.

TRIP_IN (R173) and the trip it makes (R174 to R176): asserted, TRIP_INPUT is held, and a station that can trip and did
not hold it stands in TRIPPED with the gates off, the contactor commanded open, SBT released, the readout ended, an OPEN
session kept with one more trip, the first-cause record set, a TRIP_NOTICE submitted and one TRIP record under the session
id. Released, only the cause ends. That an assertion while it is asserted changes nothing is the model's choice (log 5).

BUS_FREQUENCY after 500 ms out of band (R17): held, the timer stopped; an alarm by the mask changes nothing else, a trip
class trips a station that can trip and did not hold it (R172).
The clock catches up with the moment the timer is due (log 1). -/
def Obligations.TripCausesTrip : Prop :=
  (∀ (s : State) (r : List Byte), canTrip s = true → .overcurrent ∉ s.pru.held → unsettled s = true → r.length = 25 →
     r.head? = some 0xA6#8 → crc8 (r.take 24) = r.getD 24 0 →
     (s.spt.expected = none ∨ s.spt.expected = some (r.getD 1 0)) →
     30000 < (sampleOf r).ia.toInt.natAbs ∨ 30000 < (sampleOf r).ib.toInt.natAbs ∨
       30000 < (sampleOf r).ic.toInt.natAbs →
     ∃ t, exec (.recordComplete r) s = .next t ∧ t.ssc.station = .tripped ∧ t.mod.gate = .gatesOff ∧
       t.syn.cmdClosed = false ∧ .overcurrent ∈ t.pru.held ∧
       ∃ following, t.pru.first = some { cause := .overcurrent, state := s.ssc.station, following := following }) ∧
  (∀ (s : State) (r : List Byte), s.phase = .run → unsettled s = true → r.length = 25 → r.head? = some 0xA6#8 →
     crc8 (r.take 24) = r.getD 24 0 → (s.spt.expected = none ∨ s.spt.expected = some (r.getD 1 0)) →
     let x := sampleOf r
     let current := 30000 < x.ia.toInt.natAbs ∨ 30000 < x.ib.toInt.natAbs ∨ 30000 < x.ic.toInt.natAbs
     let link := x.vdc.toInt < 16000 ∨ 31000 < x.vdc.toInt
     ∃ t, exec (.recordComplete r) s = .next t ∧ (t.msu.ocLive = true ↔ current) ∧ (t.msu.dcLive = true ↔ link) ∧
       (.overcurrent ∈ t.pru.held ↔ current ∨ .overcurrent ∈ s.pru.held) ∧
       (.dcFault ∈ t.pru.held ↔ link ∨ .dcFault ∈ s.pru.held) ∧
       (link → ¬ current → canTrip s = true → .dcFault ∉ s.pru.held →
         t.ssc.station = .tripped ∧ t.mod.gate = .gatesOff ∧ t.syn.cmdClosed = false ∧
           ∃ following, t.pru.first = some { cause := .dcFault, state := s.ssc.station, following := following })) ∧
  (∀ s : State, s.phase ≠ .rstLow →
     exec .tripInReleased s = .next { s with tripIn := false } ∧
     (s.tripIn = true → exec .tripInAsserted s = .next s) ∧
     (s.tripIn = false → .tripInput ∈ s.pru.held ∨ canTrip s = false →
       ∃ t, exec .tripInAsserted s = .next t ∧ .tripInput ∈ t.pru.held ∧ t.tripIn = true ∧ sameBut [.tripIn, .pru] s t) ∧
     (s.tripIn = false → .tripInput ∉ s.pru.held → canTrip s = true →
       ∃ t, exec .tripInAsserted s = .next t ∧ .tripInput ∈ t.pru.held ∧ t.tripIn = true ∧ t.ssc.station = .tripped ∧
         t.mod.gate = .gatesOff ∧ t.syn.cmdClosed = false ∧ (s.ssc.station.shipConnected = true → t.hoc = .initial ∧ t.shc.fRest = 0) ∧
         t.fpt.readout = none ∧ t.rfg.fRef = s.rfg.fRef ∧ t.shc.fShare = s.shc.fShare ∧
         (∃ following, t.pru.first =
           some { cause := .tripInput, state := s.ssc.station, following := following }) ∧
         (sessionOpen s = true → t.ssc.session = s.ssc.session) ∧
         (∀ m, sessionOpen s = true → s.emt = some m → s.rwr.queue.length < 16 →
           t.emt = some { m with trips := min 255 (m.trips + 1) }) ∧
         (s.lkc.enabled = true → s.lkc.queue.length ≤ 6 →
           ({ kind := .tripNotice, payload := [4, BitVec.ofNat 8 s.ssc.station.code] } : Frame) ∈
             t.lkc.queue.map (·.frame)) ∧
         (s.rwr.queue.length < 16 →
           (t.rwr.queue.drop s.rwr.queue.length).map (fun r => (r.record.kind, r.session)) = [(.trip, sessionId s)]) ∧
         sameBut [.tripIn, .btr, .rfg, .mod, .lkc, .pvw, .shc, .ssc, .syn, .hoc, .emt, .rwr, .fpt, .mem, .pru] s t)) ∧
  (∀ (s : State) (start : Nat), s.phase = .run → s.btr.oob = some start →
     ∃ t, exec .busFrequencyTimer s = .next t ∧ t.now = max s.now (start + 4000) ∧ .busFrequency ∈ t.pru.held ∧
       t.btr.oob = none ∧
       (s.params.tripBus = false → t.btr = { s.btr with oob := none, oobDone := true } ∧ sameBut [.clock, .btr, .pru] s t) ∧
       (s.params.tripBus = true → canTrip s = true → .busFrequency ∉ s.pru.held →
         t.ssc.station = .tripped ∧ t.mod.gate = .gatesOff ∧ t.syn.cmdClosed = false))

/-- The published voltage is the nearest whole number to 1000·√(S/N)/14,142.136 (R11), for every cycle of up to 320
samples of 16 bits: twice the value lies within 1 of 2·10⁶·√(S/N)/14,142,136. -/
def Obligations.VoltageIsTheNearestWhole : Prop :=
  ∀ c : CycleSum, 0 < c.n → c.v2 ≤ c.n * 1073741824 → c.n ≤ 320 →
    0 ≤ voltageOf c ∧ voltageOf c ≤ 2317 ∧
      4000000000000 * (c.v2 : Int) < (2 * voltageOf c + 1) ^ 2 * (c.n * 14142136 ^ 2) ∧
      (0 < voltageOf c → (2 * voltageOf c - 1) ^ 2 * (c.n * 14142136 ^ 2) ≤ 4000000000000 * (c.v2 : Int))

/-- The trackers' arithmetic (R13, R14, R16). A crossing is accepted between a negative sample and one of 0 or above while
armed, its time at the interpolated place in the sample interval, rounded to a sub-sample; it disarms the tracker and
appends the period since the last crossing, the oldest of five leaving. The first sample crosses nothing. The frequency is
valid exactly while four periods are held, rounded to the nearest mHz. A phase difference lies in −32768..32767 and differs
from the rounded quotient by whole turns.

A sample moves the three trackers so: it becomes the previous sample (R13); at a crossing the period list, last crossing time
and frequency are new (R14); without one they hold. A phase difference is invalid while one of
its two frequencies is; else it is recomputed at a crossing of either of its trackers from their last crossing times and the
newest period of the ship, or of the berth, else held. The slip is the berth's frequency minus the ship's, invalid while
either is (R16).

A cycle closes at the sample of a crossing or at its 320th (R9), the closing sample in it, and the next starts empty. The
module output's close publishes P‰ and Q‰ (R10), each bus's its V‰ (R11), the berth's and the ship's their state (R15): DEAD
below 100, LIVE from 850 with a frequency of 45 to 65 Hz, else ABNORMAL. A close without a crossing empties the period list
and makes the frequency invalid (R14). Between closes all of them hold.

The out-of-band timer starts, runs on or stops by the state and the berth frequency (R17). In HANDOVER_OUT a module close
starts the part timer where it is at zero, ready-to-part set or clear, or returns it to zero and clears ready unless SBT is
low (R138); that a timer stopped after its 1 s is at zero is the model's reading (log 43). A berth bus leaving DEAD ends claim,
settle timer and a CLAIM in no attempt; one falling DEAD in JOINING starts the settle timer; LIVE ends the energise timer
(R104, R105, R108). That both changes end the wait of a CLAIM discarded on a full queue is the model's choice (log 29). The
sample is new, or in a missing period the last good one again (R4), here by a wrong first byte away from the run count's 3. -/
def Obligations.TrackersTimeCrossingsAndPhases : Prop :=
  (∀ (t : Tracker) (v p : Int) (k j : Nat), t.prev = some (p, j) →
    (t.observe v k).prev = some (v, k) ∧
    (p < 0 → 0 ≤ v → t.armed = true →
      ∃ time, t.crossing v k = some time ∧ 256 * ((k : Int) - 1) ≤ time ∧ time ≤ 256 * k ∧
        2 * (time - 256 * ((k : Int) - 1)) * (v - p) ≤ 512 * -p + (v - p) ∧
        512 * -p - (v - p) < 2 * (time - 256 * ((k : Int) - 1)) * (v - p) ∧
        (t.observe v k).armed = false ∧ Tracker.CrossedAt time t (t.observe v k)) ∧
    (0 ≤ p ∨ v < 0 ∨ t.armed = false ∧ -1000 ≤ v →
      t.crossing v k = none ∧ (t.observe v k).periods = t.periods ∧ (t.observe v k).freq = t.freq ∧
        (t.observe v k).armed = (decide (v < -1000) || t.armed))) ∧
  (∀ (t : Tracker) (v : Int) (k : Nat), t.prev = none →
    t.crossing v k = none ∧ t.observe v k = { t with prev := some (v, k), armed := decide (v < -1000) || t.armed }) ∧
  (∀ periods : List Int, (∀ x ∈ periods, 0 < x) →
    (periods.length ≠ 4 → frequencyOf periods = none) ∧
    (periods.length = 4 → ∃ f, frequencyOf periods = some f ∧
      2 * f * periods.sum ≤ 16384000000 + periods.sum ∧ 16384000000 - periods.sum < 2 * f * periods.sum)) ∧
  (∀ ta tb period : Int, 0 < period →
    -32768 ≤ phaseBetween ta tb period ∧ phaseBetween ta tb period ≤ 32767 ∧
      (phaseBetween ta tb period - roundAway (65536 * (tb - ta)) period) % 65536 = 0) ∧
  ∀ (s : State) (c : Instr) (x : Sample) (k : Nat), s.phase = .run → unsettled s = true → s.spt.index = some k →
    (∃ r : List Byte, c = .recordComplete r ∧ x = sampleOf r ∧ r.length = 25 ∧ r.head? = some 0xA6#8 ∧
        crc8 (r.take 24) = r.getD 24 0 ∧ (s.spt.expected = none ∨ s.spt.expected = some (r.getD 1 0))) ∨
      (∃ b : Byte, c = .startMarkerWrong b ∧ b ≠ 0xFF#8 ∧ b ≠ 0xA6#8 ∧ s.spt.lastGood = some x ∧ s.spt.runCount ≠ 2) →
    ∃ t, exec c s = .next t ∧
      (let sumP := s.msu.sumP + (x.vmAb.toInt * x.ia.toInt - x.vmBc.toInt * x.ic.toInt)
       let sumQ := s.msu.sumQ + (x.vmBc.toInt * x.ia.toInt + (-x.vmAb.toInt - x.vmBc.toInt) * x.ib.toInt +
         x.vmAb.toInt * x.ic.toInt)
       let sumM : CycleSum := { v2 := s.msu.sumM.v2 + (x.vmAb.toInt * x.vmAb.toInt).toNat, n := s.msu.sumM.n + 1 }
       let sumB : CycleSum := { v2 := s.msu.sumB.v2 + (x.vbAb.toInt * x.vbAb.toInt).toNat, n := s.msu.sumB.n + 1 }
       let sumS : CycleSum := { v2 := s.msu.sumS.v2 + (x.vsAb.toInt * x.vsAb.toInt).toNat, n := s.msu.sumS.n + 1 }
       let shipCrosses := (s.btr.ship.crossing x.vsAb.toInt k).isSome
       let moduleCrosses := (s.btr.module.crossing x.vmAb.toInt k).isSome
       let berthCrosses := (s.btr.berth.crossing x.vbAb.toInt k).isSome
       t.btr.module.prev = some (x.vmAb.toInt, k) ∧ t.btr.berth.prev = some (x.vbAb.toInt, k) ∧
       t.btr.ship.prev = some (x.vsAb.toInt, k) ∧
       t.btr.module.armed = (!moduleCrosses && (decide (x.vmAb.toInt < -1000) || s.btr.module.armed)) ∧
       t.btr.berth.armed = (!berthCrosses && (decide (x.vbAb.toInt < -1000) || s.btr.berth.armed)) ∧
       t.btr.ship.armed = (!shipCrosses && (decide (x.vsAb.toInt < -1000) || s.btr.ship.armed)) ∧
       (∀ time, s.btr.module.crossing x.vmAb.toInt k = some time → Tracker.CrossedAt time s.btr.module t.btr.module) ∧
       (∀ time, s.btr.berth.crossing x.vbAb.toInt k = some time → Tracker.CrossedAt time s.btr.berth t.btr.berth) ∧
       (∀ time, s.btr.ship.crossing x.vsAb.toInt k = some time → Tracker.CrossedAt time s.btr.ship t.btr.ship) ∧
       (t.btr.berth.freq = none ∨ t.btr.ship.freq = none → t.btr.dphiShip = none ∧ t.btr.slip = none) ∧
       (t.btr.module.freq = none ∨ t.btr.berth.freq = none → t.btr.dphiJoin = none) ∧
       (∀ fBerth fShip, t.btr.berth.freq = some fBerth → t.btr.ship.freq = some fShip →
         t.btr.slip = some (fBerth - fShip) ∧
           (berthCrosses = false → shipCrosses = false → t.btr.dphiShip = s.btr.dphiShip) ∧
           (berthCrosses = true ∨ shipCrosses = true → ∀ tBerth tShip period, t.btr.berth.tLast = some tBerth →
             t.btr.ship.tLast = some tShip → t.btr.ship.periods.getLast? = some period →
             t.btr.dphiShip = some (phaseBetween tBerth tShip period))) ∧
       (∀ fModule fBerth, t.btr.module.freq = some fModule → t.btr.berth.freq = some fBerth →
         (moduleCrosses = false → berthCrosses = false → t.btr.dphiJoin = s.btr.dphiJoin) ∧
           (moduleCrosses = true ∨ berthCrosses = true → ∀ tModule tBerth period, t.btr.module.tLast = some tModule →
             t.btr.berth.tLast = some tBerth → t.btr.berth.periods.getLast? = some period →
             t.btr.dphiJoin = some (phaseBetween tModule tBerth period))) ∧
       (moduleCrosses = true ∨ 320 ≤ sumM.n →
         t.msu.p = clamp (-2000) 2000 (roundAway (1000 * sumP) (sumM.n * 346410162)) ∧
           t.msu.q = clamp (-2000) 2000 (roundAway (1000 * sumQ) (sumM.n * 600000000)) ∧ t.msu.vM = voltageOf sumM ∧
           t.msu.sumP = 0 ∧ t.msu.sumQ = 0 ∧ t.msu.sumM = { v2 := 0, n := 0 }) ∧
       (moduleCrosses = false → sumM.n < 320 →
         t.msu.p = s.msu.p ∧ t.msu.q = s.msu.q ∧ t.msu.vM = s.msu.vM ∧ t.msu.sumP = sumP ∧ t.msu.sumQ = sumQ ∧
           t.msu.sumM = sumM ∧ t.btr.module.periods = s.btr.module.periods ∧ t.btr.module.tLast = s.btr.module.tLast ∧
           t.btr.module.freq = s.btr.module.freq) ∧
       (moduleCrosses = false → 320 ≤ sumM.n →
         t.btr.module.periods = [] ∧ t.btr.module.tLast = none ∧ t.btr.module.freq = none) ∧
       (berthCrosses = true ∨ 320 ≤ sumB.n →
         t.msu.vB = voltageOf sumB ∧ t.msu.sumB = { v2 := 0, n := 0 } ∧
           (t.msu.vB < 100 → t.btr.berthState = .dead) ∧
           (100 ≤ t.msu.vB →
             ((850 ≤ t.msu.vB ∧ ∃ f, t.btr.berth.freq = some f ∧ 45000 ≤ f ∧ f ≤ 65000) → t.btr.berthState = .live) ∧
               (¬ (850 ≤ t.msu.vB ∧ ∃ f, t.btr.berth.freq = some f ∧ 45000 ≤ f ∧ f ≤ 65000) →
                 t.btr.berthState = .abnormal))) ∧
       (berthCrosses = false → sumB.n < 320 →
         t.msu.vB = s.msu.vB ∧ t.msu.sumB = sumB ∧ t.btr.berthState = s.btr.berthState ∧
           t.btr.berth.periods = s.btr.berth.periods ∧ t.btr.berth.tLast = s.btr.berth.tLast ∧
           t.btr.berth.freq = s.btr.berth.freq) ∧
       (berthCrosses = false → 320 ≤ sumB.n →
         t.btr.berth.periods = [] ∧ t.btr.berth.tLast = none ∧ t.btr.berth.freq = none) ∧
       (shipCrosses = true ∨ 320 ≤ sumS.n →
         t.msu.vS = voltageOf sumS ∧ t.msu.sumS = { v2 := 0, n := 0 } ∧
           (t.msu.vS < 100 → t.btr.shipState = .dead) ∧
           (100 ≤ t.msu.vS →
             ((850 ≤ t.msu.vS ∧ ∃ f, t.btr.ship.freq = some f ∧ 45000 ≤ f ∧ f ≤ 65000) → t.btr.shipState = .live) ∧
               (¬ (850 ≤ t.msu.vS ∧ ∃ f, t.btr.ship.freq = some f ∧ 45000 ≤ f ∧ f ≤ 65000) →
                 t.btr.shipState = .abnormal))) ∧
       (shipCrosses = false → sumS.n < 320 →
         t.msu.vS = s.msu.vS ∧ t.msu.sumS = sumS ∧ t.btr.shipState = s.btr.shipState ∧
           t.btr.ship.periods = s.btr.ship.periods ∧ t.btr.ship.tLast = s.btr.ship.tLast ∧
           t.btr.ship.freq = s.btr.ship.freq) ∧
       (shipCrosses = false → 320 ≤ sumS.n →
         t.btr.ship.periods = [] ∧ t.btr.ship.tLast = none ∧ t.btr.ship.freq = none) ∧
       (BandMissed t → t.btr.oob = (if s.btr.oobDone then s.btr.oob else some (s.btr.oob.getD s.now))) ∧
       (¬ BandMissed t → t.btr.oob = none ∧ t.btr.oobDone = false) ∧
       (s.ssc.station = .handoverOut → t.ssc.station = .handoverOut →
         (moduleCrosses = true ∨ 320 ≤ sumM.n →
           (t.msu.p ≤ s.params.partReady → t.hoc = { s.hoc with
             part := if s.hoc.part = none then some s.now else s.hoc.part }) ∧
           (s.params.partReady < t.msu.p → t.hoc = { s.hoc with part := none, ready := s.hoc.ready && s.hoc.sbtLow })) ∧
         (moduleCrosses = false → sumM.n < 320 → t.hoc = s.hoc)) ∧
       (s.btr.berthState = .dead → t.btr.berthState ≠ .dead →
         t.syn.claim = .free ∧ t.syn.settle = none ∧ t.syn.settled = false ∧ t.syn.claimWait = false ∧
           ∀ e ∈ t.lkc.queue, e.frame.kind = .claim → e.inAttempt = true) ∧
       (s.btr.berthState ≠ .dead → t.btr.berthState = .dead → t.ssc.station = .joining →
         t.syn.settle = some s.now ∧ t.syn.settled = false ∧ t.syn.claimWait = false ∧ t.syn.claim = s.syn.claim) ∧
       (t.btr.berthState = .live → t.syn.energise = none) ∧
       ((s.btr.berthState = .dead ↔ t.btr.berthState = .dead) → t.ssc.station = s.ssc.station →
         t.syn.claim = s.syn.claim ∧ t.syn.settle = s.syn.settle ∧ t.syn.settled = s.syn.settled ∧
           t.syn.claimWait = s.syn.claimWait))

/-! ### Chapter 2: the output reference -/

/-- The period work (R19 to R32), at the gate start and at every period start after it while the gates are not off: the droop of
the clamped P‰ (R21); the target, clamped to the band, with FREQ_CLAMPED; at the gate start f_ref at the session nominal and
RATE_LIMITED clear (R24), else the rate-limited step; the phase increment rounded half up (R25), from phase 0 at the gate
start; the amplitude, scaled in the soft start; the index from Vdc, with OVERMODULATION; the three compare values. With the
gates RUNNING nothing but the clock, the strobe, the Reference Generator and the Modulator changes.

A period still unsettled at the next start is settled missing there (R2), whichever of the two works is taken first: the run
count rises, the expected sequence moves on, the last good record is handed on again without a check (R4), at 3
MEASUREMENT_LOST is held (R5), and the new strobe begins a fresh record at the next index (R13). With the settlement first
the rest is the start as it is of the state so settled; with the work first the Generator's and the Modulator's work is that
of the same start with nothing to settle, and a trip that the settlement then makes takes the gates off with f_ref and θ as
that work left them (R36). What changes at the moment of a period start the work may read old or new (R19): that the
command's operand `workFirst` gives the order of the two works is the model's choice (log 6). -/
def Obligations.PeriodWorkFollowsItsRules : Prop :=
  (∀ (s : State) (workFirst : Bool), s.phase = .run → unsettled s = true →
     ∃ t, exec (.carrierPeriodStart workFirst) s = .next t ∧ t.now = s.now + 1 ∧
       t.spt = { s.spt with settled := false, runCount := min 255 (s.spt.runCount + 1)
                            expected := s.spt.expected.map (· + 1), index := s.spt.index.map (· + 1) } ∧
       (s.spt.runCount = 2 → .measurementLost ∈ t.pru.held) ∧ t.msu.ocLive = s.msu.ocLive ∧ t.msu.dcLive = s.msu.dcLive ∧
       (∀ last, s.spt.lastGood = some last → t.msu.vdc = some last.vdc.toInt) ∧
       (s.spt.lastGood = none → s.spt.runCount ≠ 2 → s.mod.gate = .running → sameBut [.clock, .spt, .rfg, .mod] s t) ∧
       (workFirst = false →
         ∃ u, exec (.startMarkerWrong 0) { s with now := s.now + 1 } = .next u ∧ unsettled u = false ∧
           exec (.carrierPeriodStart false) { u with now := s.now } = .next t) ∧
       (workFirst = true →
         ∃ u, exec (.carrierPeriodStart true) { s with spt := { s.spt with settled := true } } = .next u ∧
           (s.spt.runCount ≠ 2 ∨ .measurementLost ∈ s.pru.held ∨ canTrip s = false → t.rfg = u.rfg ∧ t.mod = u.mod) ∧
           (s.spt.runCount = 2 → .measurementLost ∉ s.pru.held → canTrip s = true →
             t.mod.gate = .gatesOff ∧ t.rfg.fRef = u.rfg.fRef ∧ t.rfg.theta = u.rfg.theta))) ∧
  ∀ (s : State) (workFirst : Bool), s.phase = .run → unsettled s = false →
    s.mod.gate ≠ .gatesOff ∨ s.ssc.station = .prepared ∧ tripHeld s = false →
    ∃ t, exec (.carrierPeriodStart workFirst) s = .next t ∧ t.mod.gate ≠ .gatesOff ∧
      t.rfg.fDroop = -s.params.droop * clamp (-200) 1200 s.msu.p ∧
      (let sum := fBase s + t.rfg.fDroop + s.shc.fShare + s.shc.fRest + s.syn.fSync + s.hoc.fHo
       let target := clamp 45000000 65000000 sum
       t.rfg.freqClamped = decide (sum < 45000000 ∨ 65000000 < sum) ∧
       (s.mod.gate = .gatesOff → t.rfg.fRef = fBase s ∧ t.rfg.rateLimited = false) ∧
       (s.mod.gate ≠ .gatesOff → 0 ≤ s.params.rate →
          t.rfg.fRef =
            (if target - s.rfg.fRef > s.params.rate then s.rfg.fRef + s.params.rate
             else if s.rfg.fRef - target > s.params.rate then s.rfg.fRef - s.params.rate else target) ∧
          t.rfg.rateLimited = decide (target - s.rfg.fRef > s.params.rate ∨ s.rfg.fRef - target > s.params.rate))) ∧
      t.rfg.theta = (if s.mod.gate = .gatesOff then 0 else s.rfg.theta) +
        BitVec.ofInt 32 ((t.rfg.fRef * 2 ^ 32 + 4000000000) / 8000000000) ∧
      t.rfg.vRef = clamp 850 1150
        (vBase s + (clamp (-1000) 1000 s.msu.q * -s.params.dq).tdiv 1000 + roundAway s.shc.vShare 1000 + s.syn.vSync) ∧
      (let k := if s.mod.gate = .gatesOff then 0 else s.rfg.k
       let used := if s.mod.gate ≠ .running ∧ k < 4000 then (t.rfg.vRef * k).tdiv 4000 else t.rfg.vRef
       (∀ v, s.msu.vdc = some v → 0 < v →
          t.rfg.m = clamp 0 1000 (roundAway (used * 24000) v) ∧
            t.rfg.overmod = decide (1000 < roundAway (used * 24000) v)) ∧
        ((∀ v, s.msu.vdc = some v → v ≤ 0) → t.rfg.m = 0 ∧ t.rfg.overmod = false)) ∧
      t.mod.ca = clamp 20 1230 (625 + roundAway (625 * t.rfg.m * sineValue t.rfg.theta) 32767000) ∧
      t.mod.cb = clamp 20 1230 (625 + roundAway (625 * t.rfg.m * sineValue (t.rfg.theta - 1431655765#32)) 32767000) ∧
      t.mod.cc = clamp 20 1230 (625 + roundAway (625 * t.rfg.m * sineValue (t.rfg.theta + 1431655765#32)) 32767000) ∧
      (s.mod.gate = .running → t.mod.gate = .running ∧ sameBut [.clock, .spt, .rfg, .mod] s t)

/-- The gate start (R24, R35): at a period start in PREPARED with the gates off and no trip-class condition held, the gate
state becomes SOFT_START, the reference is the session nominal, the phase starts from 0 by one increment, and all compare
values are 625 (R28, R32). Everywhere else in GATES_OFF no work is done (R19).

The soft start (R28): below 4,000 the amplitude is scaled and the count rises; at 4,000 the gate state becomes RUNNING
and the station goes from PREPARED to JOINING (R92), with the join time limit started (R112), and the settle timer where
the berth bus is DEAD (R105). -/
def Obligations.GatesStartAndSoftStartCompletes : Prop :=
  ((∀ (s : State) (workFirst : Bool), s.phase = .run → s.ssc.station = .prepared → s.mod.gate = .gatesOff →
     tripHeld s = false → unsettled s = false →
     ∃ t, exec (.carrierPeriodStart workFirst) s = .next t ∧ t.mod.gate = .softStart ∧ t.rfg.k = 1 ∧
       t.rfg.fRef = fBase s ∧ t.rfg.rateLimited = false ∧
       t.rfg.theta = BitVec.ofInt 32 ((fBase s * 2 ^ 32 + 4000000000) / 8000000000) ∧ t.rfg.m = 0 ∧
       t.mod.ca = 625 ∧ t.mod.cb = 625 ∧ t.mod.cc = 625 ∧ sameBut [.clock, .spt, .rfg, .mod] s t) ∧
   ∀ (s : State) (workFirst : Bool), s.phase = .run → s.ssc.station ≠ .prepared → s.mod.gate = .gatesOff →
     unsettled s = false →
     ∃ t, exec (.carrierPeriodStart workFirst) s = .next t ∧ sameBut [.clock, .spt] s t) ∧
  (∀ (s : State) (workFirst : Bool), s.phase = .run → s.ssc.station = .prepared → s.mod.gate = .softStart →
     unsettled s = false →
     ∃ t, exec (.carrierPeriodStart workFirst) s = .next t ∧
       (s.rfg.k < 4000 → t.rfg.k = s.rfg.k + 1 ∧ t.mod.gate = .softStart ∧ t.ssc.station = .prepared ∧
         (∀ v, s.msu.vdc = some v → 0 < v →
           t.rfg.m = clamp 0 1000 (roundAway ((t.rfg.vRef * s.rfg.k).tdiv 4000 * 24000) v)) ∧
         sameBut [.clock, .spt, .rfg, .mod] s t) ∧
       (s.rfg.k = 4000 → t.rfg.k = 4000 ∧ t.mod.gate = .running ∧ t.ssc.station = .joining ∧
         t.syn.joinLimit = some (s.now + 1) ∧
         t.syn.settle = (if s.btr.berthState = .dead then some (s.now + 1) else none) ∧
         sameBut [.clock, .spt, .btr, .rfg, .mod, .lkc, .pvw, .shc, .ssc, .syn, .hoc, .pru] s t))

/-- The sine value stays on its segment of the table (R31), and so within ±32,767; the compare value stays within 0 to 1250
before its clamp and 20 to 1230 after it, and is 625 at index 0 (R32).

Dead time (R34): with the gates not off, at each part clock of a period, each switch of a phase conducts where the ideal
level is its own and has been for 40 part clocks, and after each change of the ideal level both are off for 40 part clocks.
The two never conduct together, whatever the compare values of this period and the one before; in GATES_OFF all lines are low
(R33). The carry-over of the low switch across the period boundary, under the compare value of the period before, is DEDUCED
(log 21). -/
def Obligations.OutputStaysInRangeWithDeadTime : Prop :=
  ((∀ angle : BitVec 32,
     (min (sineEntry (angle.toNat / 1048576)) (sineEntry (angle.toNat / 1048576 + 1)) ≤ sineValue angle ∧
       sineValue angle ≤ max (sineEntry (angle.toNat / 1048576)) (sineEntry (angle.toNat / 1048576 + 1))) ∧
       -32767 ≤ sineValue angle ∧ sineValue angle ≤ 32767) ∧
   ∀ m sine : Int, 0 ≤ m → m ≤ 1000 → -32767 ≤ sine → sine ≤ 32767 →
     0 ≤ 625 + roundAway (625 * m * sine) 32767000 ∧ 625 + roundAway (625 * m * sine) 32767000 ≤ 1250 ∧
       compareValue m sine = clamp 20 1230 (625 + roundAway (625 * m * sine) 32767000) ∧
       compareValue 0 sine = 625) ∧
  (∀ (x : Mod) (t : Nat),
     ¬ ((gateLines x t).ah = true ∧ (gateLines x t).al = true) ∧ ¬ ((gateLines x t).bh = true ∧ (gateLines x t).bl = true) ∧
       ¬ ((gateLines x t).ch = true ∧ (gateLines x t).cl = true) ∧
       (x.gate = .gatesOff → gateLines x t = ⟨false, false, false, false, false, false, false⟩) ∧
       (x.gate ≠ .gatesOff → t < 2500 → (∀ c ∈ [x.ca, x.cb, x.cc, x.pa, x.pb, x.pc], 20 ≤ c ∧ c ≤ 1230) →
         (gateLines x t).enable = true ∧ DrivesPhase x.pa x.ca t (gateLines x t).ah (gateLines x t).al ∧
           DrivesPhase x.pb x.cb t (gateLines x t).bh (gateLines x t).bl ∧
           DrivesPhase x.pc x.cc t (gateLines x t).ch (gateLines x t).cl))

/-! ### Chapter 3: the berth link -/

/-- A sync byte is judged (R42): a run within 6% of five nominal bit times (400 part clocks, 200 under LINKRATE 1, bounds
included) with five recessive bits after it enters FRAME with that run as measured; any other is a bad frame, and the
receiver waits in HUNT. Both commands judge what was measured. A sync error met during an own attempt is noted with the
attempt, since the station does not count the frame that it aborts itself (R41, R49); that it is counted at the attempt's
end, where no bit error ends it, and not before, is the model's choice (log 27). -/
def Obligations.SyncByteIsJudged : Prop :=
  ∀ (s : State) (run : Nat) (tail : Bool) (c : Instr), c = .syncError run tail ∨ c = .syncAccepted run tail →
    s.phase = .run → s.lkc.enabled = true →
    (let nominal := if s.linkRate then 200 else 400
     (94 * nominal ≤ 100 * run ∧ 100 * run ≤ 106 * nominal ∧ tail = true →
        exec c s = .next { s with lkc := { s.lkc with
          rxRun := run, rx := .frame, linkIdle := false, ownAbort := false, ear := s.lkc.ear.taken } }) ∧
     (100 * run < 94 * nominal ∨ 106 * nominal < 100 * run ∨ tail = false →
        ∃ t, exec c s = .next t ∧ t.lkc.rx = .hunt ∧ t.lkc.queue = s.lkc.queue ∧ sameBut [.lkc, .pru] s t ∧
          (s.lkc.attempt = none → t.lkc.attempt = none ∧
            (countsBad s = true → t.lkc.badCount = min 255 (s.lkc.badCount + 1)) ∧
            (countsBad s = false → t.lkc.badCount = s.lkc.badCount ∧ t.pru = s.pru)) ∧
          (∀ a, s.lkc.attempt = some a →
            t.lkc.attempt = some { a with bad := a.bad + 1 } ∧ t.lkc.badCount = s.lkc.badCount ∧ t.pru = s.pru)))

/-- Each bad frame adds 1 to the count, holding at 255, and the one that brings it to 16 makes LINK_NOISY held (R41, R43 to
R45): a dominant stop bit, a length above 32, a partial frame (unless the own abort break ended it), a wrong CRC, a sender
of 0 or 13. A length of 32 or less is none, and changes nothing. Nothing but LKC and the held set changes. The first three
end a frame: where none is being received they change nothing (log 5). A bad frame met during an own attempt is noted with
the attempt: a station does not count the frame that it aborts itself (R41, R49); that it is counted at the attempt's end,
where no bit error ends it, and not before, is the model's choice (log 27). -/
def Obligations.BadFramesAreCounted : Prop :=
  (∀ (s : State) (c : Instr), s.phase = .run → s.lkc.rx ≠ .frame → s.lkc.ownAbort = false →
    c = .stopBitDominant ∨ (∃ n : Byte, c = .lengthAbove32 n) ∨ (∃ b, c = .partialFrameDiscarded b) → exec c s = .next s) ∧
  (∀ (s : State) (n : Byte), s.phase = .run → n.toNat ≤ 32 → exec (.lengthAbove32 n) s = .next s) ∧
  ∀ (s : State) (c : Instr), s.phase = .run → s.lkc.enabled = true → s.lkc.ownAbort = false →
    (s.lkc.rx = .frame ∧
        (c = .stopBitDominant ∨ (∃ n : Byte, 32 < n.toNat ∧ c = .lengthAbove32 n) ∨ ∃ b, c = .partialFrameDiscarded b) ∨
      ∃ (id1 id2 c1 c2 : Byte) (payload : List Byte), payload.length ≤ 32 ∧
        ([c1, c2] ≠ beBytes 2 (crc16 (id1 :: id2 :: BitVec.ofNat 8 payload.length :: payload)).toNat ∨
          id1.toNat % 16 = 0 ∨ id1.toNat % 16 = 13) ∧
        c = .badFrame (id1 :: id2 :: BitVec.ofNat 8 payload.length :: (payload ++ [c1, c2]))) →
    ∃ t, exec c s = .next t ∧
      (s.lkc.attempt = none → t.lkc.attempt = none ∧
        t.lkc.badCount = (if countsBad s then min 255 (s.lkc.badCount + 1) else s.lkc.badCount) ∧
          (countsBad s = true → s.lkc.badCount = 15 → .linkNoisy ∈ t.pru.held) ∧
          (countsBad s = false ∨ s.lkc.badCount ≠ 15 → t.pru = s.pru)) ∧
      (∀ a, s.lkc.attempt = some a →
        t.lkc.attempt = some { a with bad := a.bad + 1 } ∧ t.lkc.badCount = s.lkc.badCount ∧ t.pru = s.pru) ∧
      t.lkc.rx = (match c with
        | .partialFrameDiscarded true => .brk
        | .partialFrameDiscarded false => .idle
        | _ => .hunt) ∧
      t.lkc.queue = s.lkc.queue ∧ sameBut [.lkc, .pru] s t

/-- The receiver's line events outside a frame (R40, R41): 11 recessive bit times make the link idle, 11 dominant ones are a
break; a partial frame that the own abort break ended is discarded without being counted (R41, R49). Each of them, given
without the levels that lead to it, has idle counted from its moment (log 33), else the count of the levels goes on (R40).

R41's table at one part clock of the pair, heard on an empty queue (log 2) with no attempt in progress: a dominant level in
IDLE or HUNT begins a run, the link busy from its first (R40); a run is a break at 11 bit times and ends in HUNT before; a
break ends in DELIMIT, and the next dominant level begins the sync byte; 11 recessive bit times in HUNT or DELIMIT make the
link idle. In a frame the levels of a byte (R38), each for one bit time, are read as that byte (R43).

The two timers of LKC: the bad-frame window restarts each second with the count at 0 (R45); the cause of
DUPLICATE_ADDRESS ends after one second (R51). The clock stands at least at the moment the timer is due (log 1). -/
def Obligations.ReceiverAndLinkTimersFollowThePair : Prop :=
  (∀ s : State, s.phase = .run → s.lkc.enabled = true →
     (s.lkc.rx ≠ .frame →
       exec .linkIdle s =
           .next { s with lkc := { s.lkc with
             rx := .idle, linkIdle := true, ownAbort := false, ear := s.lkc.ear.taken } } ∧
         exec .breakDetected s =
           .next { s with lkc := { s.lkc with
             rx := .brk, linkIdle := false, ownAbort := false, ear := s.lkc.ear.taken } }) ∧
     (s.lkc.ownAbort = true →
       exec (.partialFrameDiscarded true) s =
         .next { s with lkc := { s.lkc with
           rx := .brk, linkIdle := false, ownAbort := false, ear := s.lkc.ear.taken } }) ∧
     (s.lkc.ear.heard = false → s.lkc.ear.taken.quiet = 0) ∧
     (s.lkc.ear.heard = true → s.lkc.ear.taken = { s.lkc.ear with heard := false })) ∧
  (∀ (s : State) (d : Bool) (rest : List Bool) (n : Nat), HearsNext n d rest s → s.lkc.attempt = none →
     ∃ t, step s = .next t ∧ t.pair = rest ∧ sameBut [.pending, .pair, .lkc] s t ∧ t.lkc.queue = s.lkc.queue ∧
       t.lkc.attempt = none ∧ t.lkc.badCount = s.lkc.badCount ∧
       (d = true → s.lkc.rx = .idle ∨ s.lkc.rx = .hunt →
         t.lkc.rx = .dominantRun ∧ t.lkc.linkIdle = false ∧ t.pending = []) ∧
       (d = false → s.lkc.rx = .dominantRun → t.lkc.rx = .hunt ∧ t.pending = []) ∧
       (d = true → s.lkc.rx = .dominantRun → s.lkc.ear.dominant = true →
         t.lkc.rx = .dominantRun ∧ t.pending = (if 11 * n ≤ s.lkc.ear.lasted + 1 then [.breakDetected] else [])) ∧
       (d = false → s.lkc.rx = .brk → t.lkc.rx = .delimit ∧ t.pending = []) ∧
       (d = true → s.lkc.rx = .delimit → t.lkc.rx = .sync ∧ t.pending = []) ∧
       (d = false → s.lkc.rx = .hunt ∨ s.lkc.rx = .delimit →
         t.lkc.rx = s.lkc.rx ∧ t.pending = (if 11 * n ≤ s.lkc.ear.quiet + 1 then [.linkIdle] else []))) ∧
  (∀ (l : Lkc) (n : Nat) (b : Byte), n = 40 ∨ n = 80 → l.rx = .frame → l.rxRun = 5 * n → l.ear.dominant = false →
     l.ear.clock = none →
     let heard := ((byteLevels b).flatMap (List.replicate n)).foldl (fun m d => (m.listen n d).1) l
     heard.rx = .frame ∧ heard.ear.bytes = l.ear.bytes ++ [b] ∧ heard.queue = l.queue ∧ heard.badCount = l.badCount) ∧
  (∀ (s : State) (start : Nat), s.phase = .run →
     (s.lkc.window = some start →
       exec .badFrameWindow s =
         .next { s with now := max s.now (start + 8000)
                        lkc := { s.lkc with badCount := 0, window := some (start + 8000) } }) ∧
     (s.lkc.dup = some start →
       exec .duplicateAddressTimer s =
         .next { s with now := max s.now (start + 8000), lkc := { s.lkc with dup := none } }))

/-- A transmission starts on an idle link (R46) with the head of the queue in the send order of R52: by class, then by kind
code, then oldest first. The copy of its bytes is the frame of R39: sync byte, class and own address, kind code, length,
payload, CRC; its levels on the pair are the break of 13 dominant bit times, one recessive, and each byte as a dominant start
bit, its bits with the most significant first, a 0 dominant, and a recessive stop bit (R38, R39). LDE is raised, and nothing
but LKC changes.

The transmitter at one part clock of the pair (log 2), where the pair reads as it drives: its break goes on to 13 bit times;
then it waits, driving nothing, while the pair reads dominant, and begins the delimiter at the first recessive clock (R47);
it sends bit by bit, and the own frame is seen at the end of the last stop bit, not before (R50). So a pair that carries at
each clock what the attempt sends takes it from break to stop bit: LTX follows the levels, and no other end of the attempt is
met. LDE stays raised while it drives (R46); that LDE stays raised too while the station waits, driving nothing, for the
pair to go recessive is the model's choice (log 41). -/
def Obligations.TransmissionTakesTheHead : Prop :=
  (∀ s : State, s.phase = .run → s.lkc.enabled = true → s.lkc.linkIdle = true → s.lkc.attempt = none →
    s.lkc.queue ≠ [] →
    ∃ (t : State) (before after : List TxEntry) (e : TxEntry), exec .transmitStart s = .next t ∧
      s.lkc.queue = before ++ e :: after ∧
      (∀ x ∈ before, e.frame.kind.cls < x.frame.kind.cls ∨
        e.frame.kind.cls = x.frame.kind.cls ∧ e.frame.kind.code < x.frame.kind.code) ∧
      (∀ x ∈ after, e.frame.kind.cls < x.frame.kind.cls ∨
        e.frame.kind.cls = x.frame.kind.cls ∧ e.frame.kind.code ≤ x.frame.kind.code) ∧
      t.lkc = { s.lkc with
        queue := before ++ { e with inAttempt := true } :: after
        attempt := some
          { frame := e.frame
            bytes := 0x0F#8 :: withCrc16 (BitVec.ofNat 8 (e.frame.kind.cls * 16 + s.addr.toNat) ::
              BitVec.ofNat 8 e.frame.kind.code :: BitVec.ofNat 8 e.frame.payload.length :: e.frame.payload)
            replaced := false
            place := .brk 0
            bad := 0 }
        lde := true, linkIdle := false, rx := .dominantRun } ∧
      (∀ a, t.lkc.attempt = some a →
        a.levels = List.replicate 13 true ++ [false] ++ a.bytes.flatMap fun b =>
          [ true, !b.getLsbD 7, !b.getLsbD 6, !b.getLsbD 5, !b.getLsbD 4, !b.getLsbD 3, !b.getLsbD 2, !b.getLsbD 1,
            !b.getLsbD 0, false ]) ∧
      sameBut [.lkc] s t) ∧
  (∀ (s : State) (a : Attempt) (d : Bool) (rest : List Bool) (n : Nat), HearsNext n d rest s → s.lkc.attempt = some a →
    ∃ t, step s = .next t ∧ sameBut [.pending, .pair, .lkc] s t ∧ t.lkc.queue = s.lkc.queue ∧ t.lkc.lde = s.lkc.lde ∧
      (∀ c, a.place = .brk c → s.lkc.ltx n = true ∧ (d = true → t.lkc.attempt =
        some { a with place := if c + 1 < 13 * n then .brk (c + 1) else .waiting })) ∧
      (a.place = .waiting → s.lkc.ltx n = false ∧
        t.lkc.attempt = some { a with place := if d then .waiting else .sending 1 }) ∧
      (∀ c, a.place = .sending c → s.lkc.ltx n = (a.levels.drop 13).getD (c / n) false ∧
        (d = (a.levels.drop 13).getD (c / n) false →
          t.lkc.attempt = some { a with place := .sending (c + 1) } ∧
            (c + 1 < n * (1 + 10 * a.bytes.length) → .ownFrameSeen ∉ t.pending) ∧
            (n * (1 + 10 * a.bytes.length) ≤ c + 1 → t.pending.head? = some .ownFrameSeen)))) ∧
  ∀ (l : Lkc) (a : Attempt) (n k : Nat) (line : List Bool), n = 40 ∨ n = 80 → l.attempt = some a → a.place = .brk 0 →
    line = a.levels.flatMap (List.replicate n) → k < line.length →
    let sent := (line.take k).foldl (fun m d => (m.talk n d).1) l
    sent.ltx n = line.getD k false ∧
      (sent.talk n (line.getD k false)).2 = (if k + 1 = line.length then some .ownFrameSeen else none)

/-- An alignment dropout (R47) and a lost arbitration (R48) end the attempt: LDE lowered, every frame still pending with its
retry count, none in an attempt. Bad frames met during the attempt are counted (R42, R45), at its end by the model's choice
(log 27).

A bit error aborts the attempt (R49): below 16 the retry count rises by 1 and the frame stays; at 16 it is removed and
LINK_TX_FAIL is held. An entry given a new frame meanwhile keeps it (R52). The frame that the station aborts itself is not
counted as bad (R41, R49); that the
attempt ends with the break, BIT_ERROR standing at its release, the receiver then in BREAK with `ownAbort` set, is the model's
choice (log 27); idle is counted from the break's end (R40).

Where the transmitter meets them, at the part clock in a bit's centre at which the pair differs from what it sends (log 2):
in the break, and wherever a dominant bit reads recessive, a bit error (R47 to R49); a recessive bit that reads dominant is
an alignment dropout at once in the delimiter and sync byte (bits 0 to 10, R47), in the identifier (bits 11 to 30) the
arbitration lost from the end of the bit (R48), from the length byte on a bit error (R49). After a bit error the bit is sent
to its end, then 13 dominant bit times are driven and the pair is released (R49). That the break, the delimiter and the sync
byte are compared at their bit centres too is the model's choice (log 41).

A CLAIM so discarded in JOINING is followed at once by a new one, where R105's conditions hold, with the session id and retry
count 0; where one fails none is submitted. That none is after a join path close is log 32. LINK_TX_FAIL as a trip class, not
held before, trips a station that can trip (R172, R174). -/
def Obligations.FailedAttemptsKeepOrDiscardTheFrame : Prop :=
  (∀ (s : State) (a : Attempt) (c : Instr), c = .alignmentDropout ∨ c = .arbitrationLost → s.phase = .run →
     s.lkc.enabled = true → s.lkc.attempt = some a →
     ∃ t, exec c s = .next t ∧ t.lkc.attempt = none ∧ t.lkc.lde = false ∧
       t.lkc.queue.map (fun e => (e.frame, e.retry)) = s.lkc.queue.map (fun e => (e.frame, e.retry)) ∧
       (∀ e ∈ t.lkc.queue, e.inAttempt = false) ∧ sameBut [.lkc, .pru] s t ∧
       (countsBad s = false ∨ a.bad = 0 → t.lkc.badCount = s.lkc.badCount ∧ t.pru = s.pru) ∧
       (countsBad s = true → 0 < a.bad → t.lkc.badCount = min 255 (s.lkc.badCount + a.bad) ∧
         (s.lkc.badCount < 16 → 16 ≤ s.lkc.badCount + a.bad → .linkNoisy ∈ t.pru.held) ∧
         (16 ≤ s.lkc.badCount ∨ s.lkc.badCount + a.bad < 16 → t.pru = s.pru))) ∧
  (∀ (s : State) (a : Attempt) (before after : List TxEntry) (e : TxEntry), s.phase = .run → s.lkc.enabled = true →
     s.lkc.attempt = some a → s.lkc.queue = before ++ e :: after → e.inAttempt = true →
     (∀ x ∈ before ++ after, x.inAttempt = false) →
     ∃ t, exec .bitError s = .next t ∧ t.lkc.attempt = none ∧ t.lkc.lde = false ∧
       (a.replaced = true ∨ e.retry < 15 → t.lkc.ear.quiet = 0 ∧ t.lkc.badCount = s.lkc.badCount) ∧
       (a.replaced = true →
         t.lkc.queue = before ++ { e with inAttempt := false } :: after ∧ t.lkc.ownAbort = true ∧ sameBut [.lkc] s t) ∧
       (a.replaced = false → e.retry < 15 →
         t.lkc.queue = before ++ { e with retry := e.retry + 1, inAttempt := false } :: after ∧
           t.lkc.ownAbort = true ∧ t.lkc.rx = .brk ∧ sameBut [.lkc] s t) ∧
       (a.replaced = false → 15 ≤ e.retry →
         .linkTxFail ∈ t.pru.held ∧
           (s.params.tripTx = true → canTrip s = true → .linkTxFail ∉ s.pru.held →
             t.ssc.station = .tripped ∧ t.mod.gate = .gatesOff ∧ t.syn.cmdClosed = false ∧
               ∃ following, t.pru.first =
                 some { cause := .linkTxFail, state := s.ssc.station, following := following }) ∧
           (s.params.tripTx = false ∨ canTrip s = false ∨ .linkTxFail ∈ s.pru.held →
             t.lkc.badCount = s.lkc.badCount ∧
               (s.ssc.station ≠ .joining ∨ s.btr.berthState ≠ .dead ∨ s.syn.settled = false ∨ s.syn.claimWait = true ∨
                   (∃ time, s.syn.claim = .own time) ∨ (∃ a time, s.syn.claim = .foreign a time) ∨
                   (∃ x ∈ before ++ after, x.frame.kind = .claim) ∨ s.syn.cmdClosed = true ∧ s.syn.joinClosed = true →
                 t.lkc.queue = before ++ after ∧ sameBut [.lkc, .pru] s t) ∧
               ∀ id, s.ssc.station = .joining → s.btr.berthState = .dead → s.syn.settled = true →
                 s.syn.claimWait = false → s.syn.claim = .free ∨ s.syn.claim = .expired →
                 (∀ x ∈ before ++ after, x.frame.kind ≠ .claim) → s.syn.cmdClosed = false ∨ s.syn.joinClosed = false →
                 s.lkc.queue.length ≤ 8 → sessionId s = some id →
                 sameBut [.lkc, .pru] s t ∧ t.lkc.queue = before ++ after ++
                   [{ frame := { kind := .claim, payload := beBytes 4 id.toNat }, retry := 0, inAttempt := false }]))) ∧
  ∀ (s : State) (a : Attempt) (d : Bool) (rest : List Bool) (n : Nat), HearsNext n d rest s → s.lkc.attempt = some a →
    ∃ t, step s = .next t ∧ sameBut [.pending, .pair, .lkc] s t ∧ t.lkc.queue = s.lkc.queue ∧ t.lkc.lde = s.lkc.lde ∧
      (∀ c, a.place = .brk c → c % n = n / 2 → d = false →
        t.lkc.attempt = some { a with place := .failing (n - 1 - n / 2) true }) ∧
      (∀ i, a.place = .sending (i * n + n / 2) → d ≠ (a.levels.drop 13).getD i false →
        (d = false → t.lkc.attempt = some { a with place := .failing (n - 1 - n / 2) true }) ∧
        (d = true → i ≤ 10 → t.pending.head? = some .alignmentDropout) ∧
        (d = true → 11 ≤ i → i ≤ 30 → t.lkc.attempt = some { a with place := .losing (n - 1 - n / 2) }) ∧
        (d = true → 31 ≤ i → t.lkc.attempt = some { a with place := .failing (n - 1 - n / 2) false })) ∧
      (∀ left, a.place = .losing left → s.lkc.ltx n = false ∧
        (1 < left → t.lkc.attempt = some { a with place := .losing (left - 1) } ∧ .arbitrationLost ∉ t.pending) ∧
        (left ≤ 1 → t.pending.head? = some .arbitrationLost)) ∧
      (∀ left level, a.place = .failing left level → s.lkc.ltx n = level ∧ t.lkc.attempt =
        some { a with place := if 1 < left then .failing (left - 1) level else .aborting 0 }) ∧
      (∀ c, a.place = .aborting c → s.lkc.ltx n = true ∧
        (c + 1 < 13 * n → t.lkc.attempt = some { a with place := .aborting (c + 1) } ∧ .bitError ∉ t.pending) ∧
        (13 * n ≤ c + 1 → t.pending.head? = some .bitError))

/-- The own frame seen (R50): its entry leaves the queue, and a status broadcast sent advances the own sequence modulo 256
(R61). An entry that was given a new frame meanwhile stays pending with it (R52), stamped with the sequence so advanced and
with retry count 0 (R61). Bad frames that the receiver met in the attempt are counted, since no bit error has ended it
(R45), at this moment by the model's choice (log 27). CLAIM has its own statement. -/
def Obligations.OwnFrameSeenLeavesTheQueue : Prop :=
  ∀ (s : State) (a : Attempt) (before after : List TxEntry) (e : TxEntry), s.phase = .run → s.lkc.enabled = true →
    s.lkc.attempt = some a → a.frame.kind ≠ .claim → s.lkc.queue = before ++ e :: after → e.inAttempt = true →
    (∀ x ∈ before ++ after, x.inAttempt = false) →
    ∃ t, exec .ownFrameSeen s = .next t ∧ t.lkc.attempt = none ∧ t.lkc.lde = false ∧
      t.pvw.seq = (if a.frame.isStatus then s.pvw.seq + 1 else s.pvw.seq) ∧
      (a.replaced = false → t.lkc.queue = before ++ after) ∧
      (a.replaced = true → t.lkc.queue.length = s.lkc.queue.length ∧
        t.lkc.queue.map (fun x => x.frame.kind) = s.lkc.queue.map (fun x => x.frame.kind)) ∧
      (a.replaced = true → a.frame.isStatus = true → (∀ x ∈ before ++ after, x.frame.isStatus = false) →
        (e.frame.kind = .status →
          t.lkc.queue = before ++
            { frame := { kind := .status, payload := e.frame.payload.set 13 (s.pvw.seq + 1) }, retry := 0
              inAttempt := false } :: after) ∧
        (e.frame.kind = .contStatus →
          t.lkc.queue = before ++
            { frame := { kind := .contStatus, payload := e.frame.payload.set 0 (s.pvw.seq + 1) }, retry := 0
              inAttempt := false } :: after)) ∧
      sameBut [.lkc, .pvw, .pru] s t ∧
      (countsBad s = false ∨ a.bad = 0 → t.lkc.badCount = s.lkc.badCount ∧ t.pru = s.pru) ∧
      (countsBad s = true → 0 < a.bad → t.lkc.badCount = min 255 (s.lkc.badCount + a.bad) ∧
        (s.lkc.badCount < 16 → 16 ≤ s.lkc.badCount + a.bad → .linkNoisy ∈ t.pru.held) ∧
        (16 ≤ s.lkc.badCount ∨ s.lkc.badCount + a.bad < 16 → t.pru = s.pru))

/-- A good frame that R44's table does not accept is dropped, whole and uncounted: an unknown kind, a class other than its
kind's, a REPLY, INTERVAL_REPORT or LOG_DATA, a sender from which the table does not accept the kind, a REQUEST without a
target or for another station, and, in listening mode, every kind but REQUEST (R54). Only the receive state moves.

Any good frame under the own address, of whatever kind and in whatever mode, raises DUPLICATE_ADDRESS, live for one
second from it (R51); it is trip class, so a station that can trip and did not hold it is tripped (R172, R174). The frame
does nothing else.

Both hold whichever command reports the frame: that the frame's contents decide, also under the name of another row, is the
model's choice (log 4). -/
def Obligations.FramesAreDroppedOrHeardAsDuplicates : Prop :=
  (∀ (s : State) (c : Instr) (f : Received), Reports c f → s.phase = .run → s.lkc.enabled = true → f.sender ≠ s.addr →
     f.sender ≠ 0 → f.sender ≠ 13 → ¬ HandedOn s f → exec c s = .next (onlyHeard s)) ∧
  (∀ (s : State) (c : Instr) (f : Received), Reports c f → s.phase = .run → s.lkc.enabled = true → f.sender = s.addr →
     isStation s.addr = true →
     ∃ t, exec c s = .next t ∧ .duplicateAddress ∈ t.pru.held ∧ t.lkc.dup = some s.now ∧
       causeLive t .duplicateAddress = true ∧
       (.duplicateAddress ∈ s.pru.held ∨ canTrip s = false →
         t.lkc = { (onlyHeard s).lkc with dup := some s.now } ∧ sameBut [.lkc, .pru] s t) ∧
       (.duplicateAddress ∉ s.pru.held → canTrip s = true →
         t.ssc.station = .tripped ∧ t.mod.gate = .gatesOff ∧ t.syn.cmdClosed = false))

/-! ### Chapter 4: broadcasts and the peer view -/

/-- A STATUS and a CONT_STATUS from a peer act on that peer's entry alone (R64, R65): a STATUS of a broadcasting state makes
the entry what it says, one of STANDBY removes it; a CONT_STATUS in sequence renews the loading and the age, any other ends
the continuation context. Every other entry stays. In the handover states HOC judges the view a STATUS has changed, which has
its own statement; elsewhere nothing else moves. That a CONT_STATUS is none of the changes of the view at which HOC judges (R135, R139), so that it does no more in the
handover states either, is the model's reading (log 30). -/
def Obligations.PeerBroadcastsSetTheirEntry : Prop :=
  ∀ (s : State) (sender : Addr) (p : List Byte), s.phase = .run → s.lkc.enabled = true → s.ssc.station.listening = false →
    isStation sender = true → sender ≠ s.addr →
    (p.length = 16 → (p.getD 6 0).toNat ≤ 3 →
      ∃ t, exec (.statusReceived sender p) s = .next t ∧
        (s.ssc.station ≠ .handoverIn → s.ssc.station ≠ .handoverOut →
          sameBut [.lkc, .pvw] s t ∧ t.lkc.queue = s.lkc.queue) ∧
        (∀ a, a ≠ sender → peerAt a t.pvw.peers = peerAt a s.pvw.peers) ∧
        ((p.getD 0 0).toNat = 3 → peerAt sender t.pvw.peers = none) ∧
        (∀ st : StationState, st.broadcasting = true → (p.getD 0 0).toNat = st.code →
          peerAt sender t.pvw.peers = some
            { addr := sender, state := st, contactor := (p.getD 1 0).getLsbD 0, ready := (p.getD 1 0).getLsbD 2
              aborted := (p.getD 1 0).getLsbD 4, session := BitVec.ofNat 32 (fieldNat p 2 4)
              rating := (p.getD 6 0).setWidth 2, p := beInt16 (field p 7 2), q := beInt16 (field p 9 2)
              lastSeq := p.getD 13 0, contOk := (p.getD 1 0).getLsbD 6, refreshed := s.now, stale := false }) ∧
        ((p.getD 0 0).toNat < 3 ∨ 12 < (p.getD 0 0).toNat → t.pvw = s.pvw)) ∧
    (p.length = 6 →
      ∃ t, exec (.contStatusReceived sender p) s = .next t ∧ sameBut [.lkc, .pvw] s t ∧ t.lkc.queue = s.lkc.queue ∧
        (∀ a, a ≠ sender → peerAt a t.pvw.peers = peerAt a s.pvw.peers) ∧
        (peerAt sender s.pvw.peers = none → t.pvw = s.pvw) ∧
        ∀ e, peerAt sender s.pvw.peers = some e →
          peerAt sender t.pvw.peers = some
            (if e.contOk = true ∧ p.getD 0 0 = e.lastSeq + 1 then
              { e with p := beInt16 (field p 1 2), q := beInt16 (field p 3 2), lastSeq := p.getD 0 0,
                       refreshed := s.now, stale := false }
            else { e with contOk := false }))

/-- A TRIP_NOTICE from a peer marks its entry TRIPPED with the contactor open and the continuation context invalid, its age
running on (R66), and ends the claim that peer holds (R108). A SHIP_STATUS of four bytes with a count up to 8 renews the
ship record (R68) and clears SHIP_STATUS_STALE (R69) and the stale timer (R133). Both hold in every state out of listening
mode; outside the states that judge them, nothing else changes. What HOC does in the handover states at a TRIP_NOTICE, and
SSC at a SHIP_STATUS, has its own statements. -/
def Obligations.NoticesAndShipStatusAreFiled : Prop :=
  ∀ (s : State) (p : List Byte), s.phase = .run → s.lkc.enabled = true → s.ssc.station.listening = false →
    (∀ sender : Addr, isStation sender = true → sender ≠ s.addr → p.length = 2 →
      ∃ t, exec (.tripNoticeReceived sender p) s = .next t ∧
        (s.ssc.station ∉ [StationState.joining, .handoverIn, .handoverOut] →
          sameBut [.lkc, .pvw, .syn] s t ∧ t.lkc.queue = s.lkc.queue) ∧
        (∀ a, a ≠ sender → peerAt a t.pvw.peers = peerAt a s.pvw.peers) ∧
        peerAt sender t.pvw.peers = (peerAt sender s.pvw.peers).map fun e =>
          { e with state := .tripped, contactor := false, contOk := false }) ∧
    (∀ (sender : Addr) (time : Nat), isStation sender = true → sender ≠ s.addr → p.length = 2 →
      s.syn.claim = .foreign sender time →
      ∃ t, exec (.tripNoticeReceived sender p) s = .next t ∧ t.syn.claim = .expired ∧
        (s.ssc.station ∉ [StationState.joining, .handoverIn] → t.syn = { s.syn with claim := .expired })) ∧
    (s.addr ≠ 14 → p.length = 4 → (p.getD 0 0).toNat ≤ 8 →
      ∃ t, exec (.shipStatusReceived p) s = .next t ∧
        t.pvw.ship = some { gensets := (p.getD 0 0).toNat, load := fieldNat p 1 2, refreshed := s.now, stale := false } ∧
        t.pvw.shipStale = false ∧ t.pvw.peers = s.pvw.peers ∧ t.hoc.stale = none ∧
        (s.ssc.station ∉ [StationState.handoverIn, .supplying] →
          t.pvw = { s.pvw with ship := t.pvw.ship, shipStale := false } ∧ t.hoc = { s.hoc with stale := none } ∧
            t.lkc.queue = s.lkc.queue ∧ sameBut [.lkc, .pvw, .hoc] s t))

/-- SSC acts on an accepted SHIP_STATUS (R94): no genset left takes HANDOVER_IN to SUPPLYING, with the handover term and the
targets gone (R134) and the restoration tick started (R79); a genset closed takes SUPPLYING to HANDOVER_OUT where return is
armed, with the own P‰ as target (R137), and leaves it where it is not. -/
def Obligations.ShipStatusTurnsTheHandover : Prop :=
  ∀ (s : State) (p : List Byte), s.phase = .run → s.lkc.enabled = true → s.addr ≠ 14 → p.length = 4 →
    (p.getD 0 0).toNat ≤ 8 →
    ∃ t, exec (.shipStatusReceived p) s = .next t ∧
      (s.ssc.station = .handoverIn → (p.getD 0 0).toNat = 0 →
        t.ssc.station = .supplying ∧ t.hoc.fHo = 0 ∧ t.hoc.pTarget = none ∧ t.hoc.pFinal = none ∧ t.hoc.timer = none ∧
          t.shc.rest = some s.now ∧ t.shc.fRest = s.shc.fRest ∧ t.shc.fShare = s.shc.fShare) ∧
      (s.ssc.station = .supplying → 1 ≤ (p.getD 0 0).toNat → s.hoc.returnArmed = true →
        t.ssc.station = .handoverOut ∧ t.hoc.pTarget = some (clamp 0 1000 s.msu.p * 1000) ∧ t.hoc.timer = some s.now ∧
          t.shc.rest = none ∧ t.shc.fRest = s.shc.fRest) ∧
      (s.ssc.station = .supplying → s.hoc.returnArmed = false → t.ssc = s.ssc ∧ t.shc = s.shc)

/-- The cadence (R56, R60): at each expiry in a broadcasting state the slot count advances, 4 followed by 0, the timer
restarts, and one broadcast is submitted: a STATUS at slot 0 or while a STATUS is pending, else a CONT_STATUS; none at the
slots 1 to 4 of TRIPPED and CLOSING.
The clock catches up with the moment the timer is due (log 1).

What they carry, each field as the station stands when the frame is built: a STATUS the fields of R58 with the continuation
flag of R60, a CONT_STATUS those of R59, by the layouts of 13.3 and the codes of 13.1, the held summary's marks as R178's
table gives them. -/
def Obligations.CadenceSubmitsOneBroadcast : Prop :=
  (∀ s : State, (statusFrame s).kind = .status ∧ StatusSays s (statusFrame s).payload ∧
    (contStatusFrame s).kind = .contStatus ∧ ContStatusSays s (contStatusFrame s).payload) ∧
  ∀ (s : State) (start : Nat), s.phase = .run → s.ssc.station.broadcasting = true → s.pvw.cadence = some start →
    ∃ t u : State, exec .cadenceExpiry s = .next t ∧ sameBut [.clock, .pvw, .lkc, .pru] s t ∧
      u = { s with
        now := max s.now (start + 160)
        pvw := { s.pvw with cadence := some (start + 160), slot := (s.pvw.slot + 1) % 5 } } ∧
      t.pvw = u.pvw ∧ t.now = u.now ∧
      ((s.pvw.slot + 1) % 5 = 0 → t.lkc = (submit (statusFrame u) u).lkc) ∧
      ((s.pvw.slot + 1) % 5 ≠ 0 → s.ssc.station = .tripped ∨ s.ssc.station = .closing → t.lkc = s.lkc) ∧
      ((s.pvw.slot + 1) % 5 ≠ 0 → s.ssc.station ≠ .tripped → s.ssc.station ≠ .closing →
        t.lkc =
          (if s.lkc.queue.any (fun e => e.frame.kind == .status) then submit (statusFrame u) u
           else submit (contStatusFrame u) u).lkc)

/-- Ageing (R67, R69): an entry past 60 ms is not fresh, one of 500 ms is removed, both without touching the others; a ship
record past 300 ms is not fresh, and sets SHIP_STATUS_STALE in the broadcasting states and, in HANDOVER_IN, the stale timer
(R133). In the handover states HOC judges the view an entry's age has changed, which has its own statement.
The clock catches up with the moment the timer is due (log 1). -/
def Obligations.EntriesAndShipRecordAge : Prop :=
  ∀ s : State, s.phase = .run →
    (∀ (a : Addr) (e : Peer), peerAt a s.pvw.peers = some e →
      (∃ t, exec (.peerEntryStale a) s = .next t ∧ t.now = max s.now (e.refreshed + 480) ∧
        (s.ssc.station ≠ .handoverIn → s.ssc.station ≠ .handoverOut → sameBut [.clock, .pvw] s t) ∧
        peerAt a t.pvw.peers = some { e with stale := true } ∧ Peer.fresh t.now { e with stale := true } = false ∧
        ∀ b, b ≠ a → peerAt b t.pvw.peers = peerAt b s.pvw.peers) ∧
      ∃ t, exec (.peerEntryRemoved a) s = .next t ∧ t.now = max s.now (e.refreshed + 4000) ∧
        (s.ssc.station ≠ .handoverIn → s.ssc.station ≠ .handoverOut → sameBut [.clock, .pvw] s t) ∧
        peerAt a t.pvw.peers = none ∧ ∀ b, b ≠ a → peerAt b t.pvw.peers = peerAt b s.pvw.peers) ∧
    ∀ r : ShipRecord, s.pvw.ship = some r →
      ∃ t, exec .shipRecordStale s = .next t ∧ sameBut [.clock, .pvw, .hoc] s t ∧ shipFresh t = false ∧
        t.pvw.ship = some { r with stale := true } ∧ t.pvw.shipStale = s.ssc.station.broadcasting ∧
        t.pvw.peers = s.pvw.peers ∧
        (s.ssc.station = .handoverIn → s.hoc.stale = none → t.hoc = { s.hoc with stale := some t.now }) ∧
        (s.ssc.station ≠ .handoverIn → t.hoc = s.hoc)

/-! ### Chapter 5: sharing and restoration -/

/-- A sharing tick (R73, R75 to R78): f_share takes its step in ONLINE, SHIP_SYNC and SUPPLYING with the contactor closed
and a peer among the participants, v_share with the contactor closed on the bus; each step is the gain times the weighted
imbalance divided by ΣR, rounded half away from zero, and the sum is clamped. Otherwise each is held. -/
def Obligations.SharingTickSteersTheTrims : Prop :=
  ∀ (s : State) (start : Nat), s.phase = .run → s.shc.tick = some start → start + 8 ≤ s.now →
    ∃ (t : State) (peers : List Peer), exec .sharingTick s = .next t ∧ sameBut [.shc] s t ∧
      peers = s.pvw.peers.filter (fun e => !e.stale && decide (s.now - e.refreshed ≤ 480) &&
        e.session != 0 && sessionId s == some e.session && e.contactor && e.state.onBus) ∧
      (let own := ratingKva s.rating
       let sumR := own + (peers.map fun e => ratingKva e.rating).sum
       let sumPR := s.msu.p * own + (peers.map fun e => e.p * ratingKva e.rating).sum
       let sumQR := s.msu.q * own + (peers.map fun e => e.q * ratingKva e.rating).sum
       t.shc.fShare =
          (if s.ccAux = true ∧ peers ≠ [] ∧
              (s.ssc.station = .online ∨ s.ssc.station = .shipSync ∨ s.ssc.station = .supplying) then
            clamp (-400000) 400000
              (s.shc.fShare + roundAway (s.params.ks * (sumPR - s.msu.p * sumR)) sumR)
          else s.shc.fShare) ∧
        t.shc.vShare =
          (if s.ccAux = true ∧ s.ssc.station.onBus = true then
            clamp (-50000) 50000 (s.shc.vShare + roundAway (s.params.kq * (sumQR - s.msu.q * sumR)) sumR)
          else s.shc.vShare)) ∧
      t.shc.fRest = s.shc.fRest ∧ t.shc.rest = s.shc.rest ∧ t.shc.tick = some (start + 8)

/-- A restoration expiry in SUPPLYING (R79, R80): the step Kr × (f_base ÷ 1000 − f_berth), the sum clamped to ±D × 1000; held
while the berth frequency is invalid. Outside SUPPLYING there is no step.
The clock catches up with the moment the step is due (log 1). -/
def Obligations.RestorationStepsInSupplying : Prop :=
  ∀ (s : State) (start : Nat), s.phase = .run → s.shc.rest = some start →
    (s.ssc.station = .supplying →
      ∃ t, exec .restorationTick s = .next t ∧ sameBut [.clock, .shc] s t ∧
        t.shc = { s.shc with fRest := t.shc.fRest, rest := some (start + 80) } ∧
        (∀ f, s.btr.berth.freq = some f →
          t.shc.fRest = clamp (-(s.params.droop * 1000)) (s.params.droop * 1000)
            (s.shc.fRest + s.params.kr * (fBase s / 1000 - f))) ∧
        (s.btr.berth.freq = none → t.shc.fRest = s.shc.fRest)) ∧
    (s.ssc.station ≠ .supplying → exec .restorationTick s = .next s)

/-! ### Chapter 6: requests -/

/-- An accepted PREPARE in STANDBY wakes the station (R89): PREPARED, the strobes running, the session context settled, the
REPLY with the session as it stands. With no context a new one is opened with its meter fields (R144); a retained one of the
same id, frequency and length is resumed, its voltage taken anew and PARTIAL set (R90, R156); one of another id is closed
as abandoned first (R91, R152). As the strobes start, no new sample exists that meets a check (R12). Stated with room in
both queues. -/
def Obligations.PrepareWakesTheStation : Prop :=
  ∀ (s : State) (target number : Byte) (ps : List Byte) (id : SessionId) (is60 : Bool) (v minutes : Nat),
    Named target s → s.ssc.station = .standby → (s.ssc.session.isSome = s.emt.isSome) → s.lkc.queue.length ≤ 6 →
    s.rwr.queue.length ≤ 13 → id ≠ 0 → v < 65536 → minutes ∈ [5, 10, 15, 30, 60] →
    ps = beBytes 4 id.toNat ++ BitVec.ofNat 8 (if is60 then 60 else 50) :: (beBytes 2 v ++ [BitVec.ofNat 8 minutes]) →
    (∀ c, s.ssc.session = some c → c.id = id → c.is60 = is60 ∧ c.minutes = minutes) →
    ∃ (t : State) (action : Nat) (old : SessionId), exec (.prepare target number ps) s = .next t ∧
      t.ssc.station = .prepared ∧ t.spt = { Spt.initial with strobes := true } ∧ t.pvw.cadence = some s.now ∧ t.pvw.slot = 0 ∧
      t.msu = { s.msu with ocLive := false, dcLive := false } ∧
      t.lkc.queue.getLast? = some (replyEntry number 1 0 0
        (beBytes 4 id.toNat ++ BitVec.ofNat 8 (if is60 then 60 else 50) :: (beBytes 2 (clamp 950 1050 v).toNat ++
          BitVec.ofNat 8 minutes :: BitVec.ofNat 8 action :: beBytes 4 old.toNat))) ∧
      (s.ssc.session = none →
        action = 1 ∧ old = 0 ∧
        t.ssc.session = some { id := id, is60 := is60, voltage := clamp 950 1050 v, minutes := minutes, opened := true } ∧
        t.emt = some (Meter.opening s.now) ∧
        (t.rwr.queue.drop s.rwr.queue.length).map (fun r => (r.record.kind, r.session)) = [(.sessionOpen, some id)]) ∧
      (∀ c, s.ssc.session = some c → c.id = id →
        action = 2 ∧ old = 0 ∧ t.ssc.session = some { c with voltage := clamp 950 1050 v } ∧
        t.emt = s.emt.map (fun m => { m with flags := { m.flags with partialIvl := true } }) ∧
        (t.rwr.queue.drop s.rwr.queue.length).map (fun r => (r.record.kind, r.session)) = [(.sessionOpen, some id)]) ∧
      (∀ c, s.ssc.session = some c → c.id ≠ id →
        action = 1 ∧ old = c.id ∧
        t.ssc.session = some { id := id, is60 := is60, voltage := clamp 950 1050 v, minutes := minutes, opened := true } ∧
        t.emt = some (Meter.opening s.now) ∧
        (t.rwr.queue.drop s.rwr.queue.length).map (fun r => (r.record.kind, r.session)) =
          [(.interval, some c.id), (.sessionClose, some c.id), (.sessionOpen, some id)]) ∧
      t.rwr.queue.take s.rwr.queue.length = s.rwr.queue ∧
      sameBut [.spt, .msu, .btr, .lkc, .pvw, .ssc, .syn, .emt, .rwr, .pru] s t

/-- SHIP_SYNC in ONLINE with the ship bus LIVE starts ship synchronising (R93, R117), with the sync time limit and the
frequency term of R118; in SHIP_SYNC it changes nothing but the REPLY (R100). RETURN in SUPPLYING sets return armed (R136);
PREPARE in PREPARED, JOINING and ONLINE with the id held is answered with the session as it stands and the action
"unchanged", whatever its other parameters, and DISCONNECT in CLOSING is answered; both change nothing (R100). -/
def Obligations.ShipSyncAndReturnAreTaken : Prop :=
  ∀ (s : State) (target number : Byte), Named target s →
    (s.ssc.station = .online → s.btr.shipState = .live →
      ∃ t, exec (.shipSync target number []) s = .next t ∧ t.ssc = { s.ssc with station := .shipSync } ∧
        t.syn.syncLimit = some s.now ∧ t.syn.ready = false ∧
        (∀ f, s.btr.ship.freq = some f →
          t.syn.fSync = clamp (-3000000) 3000000 ((f + s.params.slipTarget - fBase s / 1000) * 1000)) ∧
        t.syn.vSync = clamp (-100) 100 (s.msu.vS - vBase s) ∧ t.syn.cmdClosed = s.syn.cmdClosed ∧
        (s.lkc.queue.length ≤ 6 → t.lkc.queue.getLast? = some (replyEntry number 2 0 0 [])) ∧
        sameBut [.btr, .lkc, .pvw, .ssc, .syn, .pru] s t) ∧
    (s.ssc.station = .shipSync → s.lkc.queue.length < 8 →
      exec (.shipSync target number []) s = .next (onlyReplied number 2 0 0 [] s)) ∧
    (s.ssc.station = .supplying →
      ∃ t, exec (.returnLoad target number []) s = .next t ∧ t.hoc = { s.hoc with returnArmed := true } ∧
        (s.lkc.queue.length ≤ 6 → t.lkc.queue.getLast? = some (replyEntry number 3 0 0 [])) ∧
        sameBut [.lkc, .pvw, .hoc, .pru] s t) ∧
    (∀ (ps : List Byte) (c : Session), s.ssc.station = .prepared ∨ s.ssc.station = .joining ∨ s.ssc.station = .online →
      s.lkc.queue.length < 8 → ps.length = 8 → s.ssc.session = some c → BitVec.ofNat 32 (fieldNat ps 0 4) = c.id →
      exec (.prepare target number ps) s =
        .next (onlyReplied number 1 0 0
          (beBytes 4 c.id.toNat ++ BitVec.ofNat 8 (if c.is60 then 60 else 50) :: (beBytes 2 c.voltage.toNat ++
            [BitVec.ofNat 8 c.minutes, 3, 0, 0, 0, 0])) s)) ∧
    (s.ssc.station = .closing → s.lkc.queue.length < 8 →
      exec (.disconnect target number []) s = .next (onlyReplied number 4 0 0 [] s))

/-- An accepted DISCONNECT closes the session and takes the station to CLOSING (R95, R152): the final interval closed with
FINAL, the SESSION_CLOSE behind it, the tick stopped, the context CLOSED, the gates off with the reference kept (R36), the
contactor commanded open. -/
def Obligations.DisconnectClosesTheSession : Prop :=
  ∀ (s : State) (target number : Byte) (c : Session) (m : Meter), Named target s → s.ssc.session = some c →
    s.emt = some m → s.ssc.station = .prepared ∨ s.ssc.station = .joining ∨ s.ssc.station = .online →
    s.rwr.queue.length ≤ 14 → s.lkc.queue.length ≤ 5 →
    ∃ t, exec (.disconnect target number []) s = .next t ∧ t.ssc.station = .closing ∧
      t.ssc.session = some { c with opened := false } ∧ t.mod.gate = .gatesOff ∧ t.syn.cmdClosed = false ∧
      t.rfg.fRef = s.rfg.fRef ∧ t.rfg.theta = s.rfg.theta ∧ t.rfg.m = (if s.mod.gate = .gatesOff then s.rfg.m else 0) ∧
      t.emt = some { m with
        flags := { m.flags with final := true }
        closedFwd := m.closedFwd + m.intervalFwd / 28800000, intervalFwd := m.intervalFwd % 28800000
        closedRev := m.closedRev + m.intervalRev / 28800000, intervalRev := m.intervalRev % 28800000
        closedCount := min 65535 (m.closedCount + 1), tick := none } ∧
      t.rwr.queue.take s.rwr.queue.length = s.rwr.queue ∧
      (t.rwr.queue.drop s.rwr.queue.length).map (fun r => (r.record.kind, r.session)) =
        [(.interval, some c.id), (.sessionClose, some c.id)] ∧
      t.lkc.queue.getLast? = some (replyEntry number 4 0 0 []) ∧
      sameBut [.btr, .rfg, .mod, .lkc, .pvw, .shc, .ssc, .syn, .hoc, .emt, .rwr, .pru] s t

/-- CLOSING ends in STANDBY with the session cleared as soon as the record queue holds none of its records, or the writer is
FAULTED (R96); before that it stays. The STANDBY entry takes every block to its STANDBY values (6.7, R18); whether the latest
new sample met each check is none of those and stands (R12, log 37). First, where the queue has room, one STATUS is submitted
that announces STANDBY with the flags and values of that moment (R62; that it is built with the session cleared and before
the blocks take their STANDBY values is log 9). -/
def Obligations.ClosingEndsWhenItsRecordsAreWritten : Prop :=
  ∀ (s : State) (c : Session), s.phase = .run → s.ssc.station = .closing → s.ssc.session = some c → c.opened = false →
    ((∀ r ∈ s.rwr.queue, r.session ≠ some c.id) ∨ s.rwr.writer = .faulted →
      ∃ t, exec .closingEnd s = .next t ∧ t.ssc = { station := .standby, session := none } ∧ t.emt = none ∧
        t.spt = .initial ∧ t.msu = { Msu.initial with ocLive := s.msu.ocLive, dcLive := s.msu.dcLive } ∧
        t.btr = .initial ∧ t.rfg = .initial ∧ t.mod = .off ∧ t.hoc = .initial ∧
        t.shc = { Shc.initial with tick := s.shc.tick } ∧ t.pvw = { Pvw.initial with seq := s.pvw.seq } ∧
        t.syn.claim = .free ∧ t.syn.cmdClosed = false ∧
        (s.lkc.enabled = true → s.lkc.queue.length < 8 → (∀ e ∈ s.lkc.queue, e.frame.isStatus = false) →
          ∃ p, StatusSays { s with ssc := { station := .standby, session := none } } p ∧
            t.lkc.queue.getLast? = some { frame := { kind := .status, payload := p }, retry := 0, inAttempt := false }) ∧
        sameBut [.spt, .msu, .btr, .rfg, .mod, .lkc, .pvw, .shc, .ssc, .syn, .hoc, .emt, .pru] s t) ∧
    ((∃ r ∈ s.rwr.queue, r.session = some c.id) → s.rwr.writer ≠ .faulted → exec .closingEnd s = .next s)

/-- The three cases of a MARK (R101, R148 to R150), by its number against the open interval's: equal closes the interval
with its flags, below changes no meter field and makes MARK_LATE held, above closes it with GAP; a close carries whole Wh,
keeps the fraction, and opens the next interval with the mark's tariff (R147). -/
def Obligations.MarkClosesSkipsOrDeclines : Prop :=
  ∀ (s : State) (target number : Byte) (n : Nat) (tariff : Byte) (c : Session) (m : Meter), Named target s →
    s.ssc.station ≠ .starting → s.ssc.session = some c → c.opened = true → s.emt = some m → 0 < n → n < 65536 →
    s.rwr.queue.length ≤ 15 → s.lkc.queue.length ≤ 6 →
    ∃ t, exec (.mark target number (beBytes 2 n ++ [tariff])) s = .next t ∧ sameBut [.lkc, .emt, .rwr, .pru] s t ∧
      (n < m.number →
        t.emt = some m ∧ .markLate ∈ t.pru.held ∧
          t.lkc.queue = s.lkc.queue ++ [replyEntry number 5 0 0 (satBytes 2 m.number ++ [0])] ∧
          (t.rwr.queue.drop s.rwr.queue.length).map (fun r => r.record) =
            [eventRecord 7 (beBytes 2 n ++ satBytes 2 m.number)]) ∧
      (m.number ≤ n →
        t.pru = s.pru ∧
        t.emt = some { m with
          closedFwd := m.closedFwd + m.intervalFwd / 28800000, intervalFwd := m.intervalFwd % 28800000
          closedRev := m.closedRev + m.intervalRev / 28800000, intervalRev := m.intervalRev % 28800000
          number := min 65535 (n + 1), tariff := tariff, flags := .clear, elapsed := 0, tick := some s.now
          closedCount := min 65535 (m.closedCount + 1) } ∧
        t.lkc.queue.getLast? = some (replyEntry number 5 0 0 (satBytes 2 (min 65535 (n + 1)) ++ [1])) ∧
        (t.rwr.queue.drop s.rwr.queue.length).map (fun r => r.record) =
          [intervalRecord c.id { m with flags := if m.number < n then { m.flags with gap := true } else m.flags }
            (m.intervalFwd / 28800000) (m.intervalRev / 28800000)])

/-- READ_METER (R155): four values from the fields as they stand, the Wh rounded down; no field changes. By the law of R147
the session values are the session's energy in whole Wh. -/
def Obligations.ReadMeterReportsWholeWattHours : Prop :=
  ∀ (s : State) (target number : Byte) (c : Session) (m : Meter), Named target s → s.ssc.station ≠ .starting →
    s.ssc.session = some c → c.opened = true → s.emt = some m → s.lkc.queue.length < 8 →
    exec (.readMeter target number []) s =
        .next (onlyReplied number 7 0 0
          (satBytes 4 (m.closedFwd + m.intervalFwd / 28800000) ++ satBytes 4 (m.closedRev + m.intervalRev / 28800000) ++
            satBytes 2 m.number ++ satBytes 4 (m.intervalFwd / 28800000)) s) ∧
      (MeterLaw s →
        m.closedFwd + m.intervalFwd / 28800000 = m.sessionFwd / 28800000 ∧
          m.closedRev + m.intervalRev / 28800000 = m.sessionRev / 28800000)

/-- CLEAR (R98, R102, R175, R177): the conditions whose causes are not live leave the held set. A station in TRIPPED that
then holds no trip-class condition enters STANDBY with its session and meter as they stood and the first-cause record
absent; one that still holds one stays, its record unchanged. A FAULTED writer whose fault was removed resumes (R164). The
REPLY carries the held set and the held summary as the clearing leaves them (R102) and the first-cause record as it stood
before it (R175), zeros where it was absent.

The cause of each condition is live as R177's table says, condition by condition; which conditions are trip class is R172's
table; held set, held summary (R178) and codes stand as 13.1 lays them out. Without a session context the band of
BUS_FREQUENCY is that of 50 Hz, the model's choice (log 12). -/
def Obligations.ClearRemovesWhatIsOver : Prop :=
  (∀ (s : State) (x : Condition), (causeLive s x = true ↔ CauseTable s x) ∧ (tripClass s.params x = true ↔ TripClassTable s.params x)) ∧
  ∀ (s : State) (target number : Byte), Named target s → s.ssc.station ≠ .starting → s.lkc.queue.length ≤ 6 →
    ∃ t, exec (.clear target number []) s = .next t ∧ t.pru.held = s.pru.held.filter (causeLive s) ∧
      (∀ x, x ∈ t.pru.held ↔ x ∈ s.pru.held ∧ CauseTable s x) ∧
      (s.ssc.station ≠ .tripped → .recordStoreFault ∉ s.pru.held →
        sameBut [.lkc, .pru] s t ∧ t.pru.first = s.pru.first) ∧
      (s.ssc.station = .tripped → (∀ c ∈ s.pru.held, causeLive s c = true → tripClass s.params c = false) →
        t.ssc.station = .standby ∧ t.pru.first = none ∧ (sessionOpen s = true → t.ssc.session = s.ssc.session ∧ t.emt = s.emt) ∧
          t.mod = .off ∧ t.rfg = .initial ∧ t.spt = .initial ∧ t.syn.cmdClosed = false) ∧
      (s.ssc.station = .tripped → (∃ c ∈ s.pru.held, causeLive s c = true ∧ tripClass s.params c = true) →
        t.ssc = s.ssc ∧ t.pru.first = s.pru.first ∧ t.emt = s.emt) ∧
      (s.rwr.writer = .faulted → .recordStoreFault ∈ s.pru.held → s.rwr.faultBusy = false → t.rwr.writer ≠ .faulted) ∧
      ∃ set summary first : List Byte, HeldSetSays t.pru.held set ∧ summary.length = 2 ∧
        SummarySays s.params t.pru.held summary 0 ∧
        (s.pru.first = none → first = [0, 0, 0, 0, 0, 0]) ∧
        (∀ r, s.pru.first = some r →
          first = BitVec.ofNat 8 (conditionsByCode.idxOf r.cause + 1) :: BitVec.ofNat 8 (statesByCode.idxOf r.state + 1) ::
            (List.range 4).map fun i =>
              (r.following.map fun x => BitVec.ofNat 8 (conditionsByCode.idxOf x + 1)).getD i 0) ∧
        t.lkc.queue.getLast? = some (replyEntry number 6 0 0 (set ++ summary ++ first))

/-- READ_LOG starts a readout (R103, R168) and CONFIG_STORE hands a configuration write to the writer (R103, R159), the
configuration in force unchanged; each answers ACCEPTED and changes nothing else. A REQUEST of an unknown kind, or too short
to have one, is refused with RANGE, in STARTING with STARTING (R99, R181). -/
def Obligations.StoreRequestsAreTaken : Prop :=
  ∀ (s : State) (target number : Byte), Named target s → s.lkc.queue.length < 8 →
    (∀ sector offset len : Nat, s.ssc.station ≠ .starting → sector < 512 → 0 < len → offset + len ≤ 4096 →
      s.fpt.readout = none →
      exec (.readLog target number (beBytes 2 sector ++ beBytes 2 offset ++ beBytes 2 len)) s =
        .next { onlyReplied number 8 0 0 (beBytes 2 sector ++ beBytes 2 offset ++ beBytes 2 len) s with
          fpt := { s.fpt with
            readout := some { sector := sector, next := offset, remaining := len, ended := false } } }) ∧
    (∀ block : List Byte, block.length = 28 → s.ssc.station = .standby → s.rwr.config = none →
      exec (.configStore target number block) s =
        .next { onlyReplied number 9 0 0 [] s with rwr := { s.rwr with config := some block } }) ∧
    (∀ (kind : Byte) (ps : List Byte), kind.toNat = 0 ∨ 9 < kind.toNat →
      exec (.malformedRequest (target :: number :: kind :: ps)) s =
        .next (onlyReplied number kind.toNat 1 (if s.ssc.station = .starting then 6 else 3) [] s)) ∧
    exec (.malformedRequest [target]) s =
      .next (onlyReplied 0 0 1 (if s.ssc.station = .starting then 6 else 3) [] s)

/-- The first three cases of R99 in their order, for each kind of request with its parameter length: STARTING; a length that
does not match the kind; TRIPPED, but for CLEAR, READ_METER, READ_LOG and MARK. A refused request changes nothing but its
REPLY.

The later cases of R99: a kind not accepted in the state (R100; SHIP_SYNC in all but ONLINE with the ship bus LIVE and
SHIP_SYNC, RETURN in all but SUPPLYING, DISCONNECT in all but PREPARED, JOINING, ONLINE and CLOSING, PREPARE in all but
STANDBY, and PREPARED, JOINING and ONLINE with the id held, CONFIG_STORE in all but STANDBY), a parameter out of range (R100, R101, R103: a PREPARE of
session id 0, of a frequency other than 50 and 60 or of an interval length other than 5, 10, 15, 30 and 60; MARK 0; a READ_LOG
of a sector above 511, of length 0 or above 4,096, or past the end of its sector), a PREPARE of the id held with another
frequency or length (R90), no OPEN session for MARK and READ_METER (R101), a resource in use (R103). Those of MARK, READ_METER
and READ_LOG hold in TRIPPED as well. Each changes nothing but the REPLY. -/
def Obligations.RefusedRequestsChangeNothing : Prop :=
  (∀ (s : State) (target number : Byte) (ps : List Byte) (kind len : Nat) (c : Instr),
     (kind, len, c) ∈
       [ (1, 8, .prepare target number ps), (2, 0, .shipSync target number ps), (3, 0, .returnLoad target number ps),
         (4, 0, .disconnect target number ps), (5, 3, .mark target number ps), (6, 0, .clear target number ps),
         (7, 0, .readMeter target number ps), (8, 6, .readLog target number ps), (9, 28, .configStore target number ps) ] →
     Named target s → s.lkc.queue.length < 8 →
     (s.ssc.station = .starting → exec c s = .next (onlyReplied number kind 1 6 [] s)) ∧
     (s.ssc.station ≠ .starting → ps.length ≠ len → exec c s = .next (onlyReplied number kind 1 3 [] s)) ∧
     (s.ssc.station = .tripped → ps.length = len → kind ∉ [5, 6, 7, 8] →
       exec c s = .next (onlyReplied number kind 1 4 [] s))) ∧
  (∀ (s : State) (target number : Byte), Named target s → s.lkc.queue.length < 8 → s.ssc.station ≠ .starting →
     (sessionOpen s = false → ∀ (n : Nat) (tariff : Byte), 0 < n → n < 65536 →
       exec (.mark target number (beBytes 2 n ++ [tariff])) s = .next (onlyReplied number 5 1 2 [] s)) ∧
     (∀ tariff : Byte, exec (.mark target number [0, 0, tariff]) s = .next (onlyReplied number 5 1 3 [] s)) ∧
     (sessionOpen s = false → exec (.readMeter target number []) s = .next (onlyReplied number 7 1 2 [] s)) ∧
     (∀ sector offset len : Nat, sector < 65536 → offset < 65536 → len < 65536 →
       511 < sector ∨ len = 0 ∨ 4096 < len ∨ 4096 < offset + len →
       exec (.readLog target number (beBytes 2 sector ++ beBytes 2 offset ++ beBytes 2 len)) s =
         .next (onlyReplied number 8 1 3 [] s)) ∧
     (s.fpt.readout.isSome = true → ∀ sector offset len : Nat, sector < 512 → 0 < len → offset + len ≤ 4096 →
       exec (.readLog target number (beBytes 2 sector ++ beBytes 2 offset ++ beBytes 2 len)) s =
         .next (onlyReplied number 8 1 5 [] s))) ∧
  (∀ (s : State) (target number : Byte), Named target s → s.lkc.queue.length < 8 → s.ssc.station ≠ .starting →
     s.ssc.station ≠ .tripped →
     (s.ssc.station ≠ .shipSync → s.ssc.station ≠ .online ∨ s.btr.shipState ≠ .live →
       exec (.shipSync target number []) s = .next (onlyReplied number 2 1 1 [] s)) ∧
     (s.ssc.station ≠ .supplying → exec (.returnLoad target number []) s = .next (onlyReplied number 3 1 1 [] s)) ∧
     (s.ssc.station ∉ [StationState.prepared, .joining, .online, .closing] →
       exec (.disconnect target number []) s = .next (onlyReplied number 4 1 1 [] s)) ∧
     (∀ ps : List Byte, ps.length = 8 → s.ssc.station ≠ .standby →
       s.ssc.station ∉ [StationState.prepared, .joining, .online] ∨
         sessionId s ≠ some (BitVec.ofNat 32 (fieldNat ps 0 4)) →
       exec (.prepare target number ps) s = .next (onlyReplied number 1 1 1 [] s)) ∧
     (∀ ps : List Byte, ps.length = 8 → s.ssc.station = .standby → fieldNat ps 0 4 = 0 →
       exec (.prepare target number ps) s = .next (onlyReplied number 1 1 3 [] s)) ∧
     (∀ ps : List Byte, ps.length = 8 → s.ssc.station = .standby →
       (ps.getD 4 0).toNat ∉ [50, 60] ∨ (ps.getD 7 0).toNat ∉ [5, 10, 15, 30, 60] →
       exec (.prepare target number ps) s = .next (onlyReplied number 1 1 3 [] s)) ∧
     (∀ (ps : List Byte) (c : Session), ps.length = 8 → s.ssc.station = .standby → s.ssc.session = some c → c.id ≠ 0 →
       fieldNat ps 0 4 = c.id.toNat → (ps.getD 4 0).toNat ∈ [50, 60] → (ps.getD 7 0).toNat ∈ [5, 10, 15, 30, 60] →
       (ps.getD 4 0).toNat ≠ (if c.is60 then 60 else 50) ∨ (ps.getD 7 0).toNat ≠ c.minutes →
       exec (.prepare target number ps) s = .next (onlyReplied number 1 1 2 [] s)) ∧
     (∀ block : List Byte, block.length = 28 → s.ssc.station ≠ .standby →
       exec (.configStore target number block) s = .next (onlyReplied number 9 1 1 [] s)) ∧
     ∀ block : List Byte, block.length = 28 → s.ssc.station = .standby → s.rwr.config.isSome = true →
       exec (.configStore target number block) s = .next (onlyReplied number 9 1 5 [] s))

/-! ### Chapter 10: metering -/

/-- The interval tick (R146): one second on, the tick restarted; while the session is not OPEN there is none.

The meter's own close (R151): at the interval length plus 60 s the open interval closes with SELF_CLOSED, the next takes
the number one above and keeps the tariff; before that nothing happens. -/
def Obligations.IntervalTickAndOwnClose : Prop :=
  (∀ (s : State) (c : Session) (m : Meter) (start : Nat), s.phase = .run → s.ssc.session = some c → s.emt = some m →
     (c.opened = true → m.tick = some start → start + 8000 ≤ s.now →
       exec .intervalTick s = .next { s with
         emt := some { m with elapsed := m.elapsed + 1, tick := some (start + 8000) } }) ∧
     (c.opened = false → exec .intervalTick s = .next s)) ∧
  (∀ (s : State) (c : Session) (m : Meter), s.phase = .run → s.ssc.session = some c → c.opened = true → s.emt = some m →
     s.rwr.queue.length ≤ 15 → s.lkc.queue.length ≤ 7 →
     (c.minutes * 60 + 60 ≤ m.elapsed →
       ∃ t, exec .intervalSelfClose s = .next t ∧ sameBut [.lkc, .emt, .rwr] s t ∧
         t.emt = some { m with
           closedFwd := m.closedFwd + m.intervalFwd / 28800000, intervalFwd := m.intervalFwd % 28800000
           closedRev := m.closedRev + m.intervalRev / 28800000, intervalRev := m.intervalRev % 28800000
           number := min 65535 (m.number + 1), flags := .clear, elapsed := 0, tick := some s.now
           closedCount := min 65535 (m.closedCount + 1) } ∧
         (t.rwr.queue.drop s.rwr.queue.length).map (fun r => r.record) =
           [intervalRecord c.id { m with flags := { m.flags with selfClosed := true } }
             (m.intervalFwd / 28800000) (m.intervalRev / 28800000)]) ∧
     (m.elapsed < c.minutes * 60 + 60 → exec .intervalSelfClose s = .next s))

/-! ### Chapter 7: claims, joining, the contactor -/

/-- R113's law: a step that commands the contactor closed finds the station in JOINING, and either the berth bus LIVE or the
bus DEAD and the claim context becoming OWN from NONE or EXPIRED at that step. -/
def Obligations.ContactorClosesOnALiveBusOrAnOwnClaim : Prop :=
  ∀ s t : State, step s = .next t → s.syn.cmdClosed = false → t.syn.cmdClosed = true →
    s.ssc.station = .joining ∧
      (t.btr.berthState = .live ∨
        s.btr.berthState = .dead ∧ (s.syn.claim = .free ∨ s.syn.claim = .expired) ∧ ∃ time, t.syn.claim = .own time)

/-- CLAIMs seen (R106, R107). A foreign one on a DEAD bus is recorded where no claim is held, changes nothing where a foreign
one is, and makes this station yield its own: contactor commanded open, energise timer ended. That one recorded where no claim
is held ends the wait of a CLAIM discarded on a full queue is the model's choice (log 29). On a bus not DEAD, or of
another length, it is set aside. The own CLAIM seen in JOINING on a DEAD bus makes the context OWN and commands the contactor
closed, its energise timer started (R108). That this holds with the contactor commanded closed already by the join path, the
close then counting as the claim path's, and that a timer still running starts anew, are the model's choices (log 32,
log 39). Bad frames met in that CLAIM's attempt are counted (R45), at this moment by the model's choice (log 27). -/
def Obligations.FirstClaimCounts : Prop :=
  ∀ s : State, s.phase = .run → s.lkc.enabled = true → s.ssc.station.broadcasting = true →
    (∀ (sender : Addr) (p : List Byte), isStation sender = true → sender ≠ s.addr →
      ∃ t, exec (.claimReceived sender p) s = .next t ∧ sameBut [.lkc, .pvw, .syn, .pru] s t ∧
        (s.btr.berthState ≠ .dead ∨ p.length ≠ 4 ∨ (∃ a time, s.syn.claim = .foreign a time) →
          t.syn = s.syn ∧ t.lkc.queue = s.lkc.queue) ∧
        (s.btr.berthState = .dead → p.length = 4 → s.syn.claim = .free ∨ s.syn.claim = .expired →
          t.syn = { s.syn with claim := .foreign sender s.now, claimWait := false } ∧
            t.lkc.queue = s.lkc.queue.filter fun e => !(e.frame.kind == .claim && !e.inAttempt)) ∧
        (s.btr.berthState = .dead → p.length = 4 → (∃ time, s.syn.claim = .own time) →
          t.syn.claim = .foreign sender s.now ∧ t.syn.cmdClosed = false ∧ t.syn.energise = none ∧
            (s.syn.cmdClosed = true → t.syn.window = some s.now))) ∧
    ∀ (a : Attempt) (before after : List TxEntry) (e : TxEntry), s.lkc.attempt = some a → a.frame.kind = .claim →
      a.replaced = false → s.lkc.queue = before ++ e :: after → e.inAttempt = true →
      (∀ x ∈ before ++ after, x.inAttempt = false) →
      ∃ t, exec .ownFrameSeen s = .next t ∧ sameBut [.lkc, .pvw, .syn, .pru] s t ∧ t.lkc.attempt = none ∧
        (countsBad s = false ∨ a.bad = 0 → t.lkc.badCount = s.lkc.badCount) ∧
        (countsBad s = true → 0 < a.bad → t.lkc.badCount = min 255 (s.lkc.badCount + a.bad)) ∧
        (s.ssc.station = .joining → s.btr.berthState = .dead → s.syn.claim = .free ∨ s.syn.claim = .expired →
          t.syn.claim = .own s.now ∧ t.syn.energise = some s.now ∧ t.syn.cmdClosed = true ∧ t.syn.joinClosed = false ∧
            (s.syn.cmdClosed = false → t.syn.window = some s.now ∧ t.syn.confirmed = s.ccAux)) ∧
        (s.ssc.station ≠ .joining → t.syn = s.syn ∧ t.lkc.queue = before ++ after)

/-- The timers of a claim. The settle timer at 200 ms, and free entries after a discarded CLAIM, submit a CLAIM with the
session id (R105), with the contactor commanded closed by an own claim too. After a join path close they submit none: the
station waits (R109, taken over R105; that it waits so after the join time limit as well is the model's choice, log 32, and
so is that such a rise of the free entries ends the wait for it, log 29). A claim 3 s old becomes EXPIRED, and a station in JOINING that has settled submits its CLAIM at once, but for that wait (R108; an own claim given up
also triggers a STATUS, R57); the energise timer at 3 s commands the contactor open, makes ENERGISE_FAILED held, submits its
EVENT and expires an OWN context (R108).
The clock catches up with the moment the timer is due (log 1). -/
def Obligations.ClaimTimersAct : Prop :=
  ∀ (s : State) (start : Nat) (id : SessionId), s.phase = .run → sessionId s = some id →
    (s.ssc.station = .joining → s.btr.berthState = .dead → s.syn.claim = .free ∨ s.syn.claim = .expired →
      claimPending s = false → s.lkc.enabled = true → s.lkc.queue.length < 8 →
      s.syn.cmdClosed = false ∨ s.syn.joinClosed = false →
      (s.syn.settle = some start → s.syn.settled = false → s.syn.claimWait = false →
        exec .settleTimerExpiry s = .next { s with
          now := max s.now (start + 1600), syn := { s.syn with settled := true }
          lkc := { s.lkc with queue := s.lkc.queue ++
            [{ frame := { kind := .claim, payload := beBytes 4 id.toNat }, retry := 0, inAttempt := false }] } }) ∧
      (s.syn.claimWait = true → s.syn.settled = true →
        exec .claimResubmit s = .next { s with
          syn := { s.syn with claimWait := false }
          lkc := { s.lkc with queue := s.lkc.queue ++
            [{ frame := { kind := .claim, payload := beBytes 4 id.toNat }, retry := 0, inAttempt := false }] } })) ∧
    (s.ssc.station = .joining → s.syn.cmdClosed = true → s.syn.joinClosed = true →
      (s.syn.settle = some start → s.syn.settled = false →
        exec .settleTimerExpiry s =
          .next { s with now := max s.now (start + 1600), syn := { s.syn with settled := true } }) ∧
      (s.syn.claimWait = true → 1 ≤ s.lkc.free →
        exec .claimResubmit s = .next { s with syn := { s.syn with claimWait := false } })) ∧
    (s.ssc.station ≠ .joining → (s.syn.claim = .own start ∨ ∃ a, s.syn.claim = .foreign a start) →
      ∃ t, exec .claimExpiry s = .next t ∧ sameBut [.clock, .lkc, .pvw, .syn, .pru] s t ∧
        t.now = max s.now (start + 24000) ∧ t.syn = { s.syn with claim := .expired }) ∧
    (s.ssc.station = .joining → (s.syn.claim = .own start ∨ ∃ a, s.syn.claim = .foreign a start) →
      ∃ t, exec .claimExpiry s = .next t ∧ sameBut [.clock, .lkc, .pvw, .syn, .pru] s t ∧
        t.now = max s.now (start + 24000) ∧ t.syn.claim = .expired ∧
        (s.btr.berthState = .dead → s.syn.settled = true → s.syn.claimWait = false → claimPending s = false →
          s.lkc.enabled = true → s.lkc.queue.length < 8 → s.syn.cmdClosed = false ∨ s.syn.joinClosed = false →
          t.syn = { s.syn with claim := .expired } ∧
            t.lkc.queue.filter (fun e => e.frame.kind == .claim) =
              [{ frame := { kind := .claim, payload := beBytes 4 id.toNat }, retry := 0, inAttempt := false }] ∧
            ((∃ a, s.syn.claim = .foreign a start) → t.lkc.queue.take s.lkc.queue.length = s.lkc.queue)) ∧
        (s.btr.berthState ≠ .dead ∨ s.syn.settled = false ∨ s.syn.claimWait = true ∨ claimPending s = true ∨
            s.syn.cmdClosed = true ∧ s.syn.joinClosed = true →
          t.syn = { s.syn with claim := .expired } ∧
            t.lkc.queue.filter (fun e => e.frame.kind == .claim) = s.lkc.queue.filter (fun e => e.frame.kind == .claim) ∧
            ((∃ a, s.syn.claim = .foreign a start) → t.lkc = s.lkc))) ∧
    (s.syn.energise = some start →
      ∃ t, exec .energiseTimerExpiry s = .next t ∧ sameBut [.clock, .lkc, .pvw, .syn, .emt, .rwr, .pru] s t ∧
        t.syn.cmdClosed = false ∧ t.syn.energise = none ∧ .energiseFailed ∈ t.pru.held ∧
        (∀ time, t.syn.claim ≠ .own time) ∧
        (s.rwr.queue.length < 16 → (t.rwr.queue.drop s.rwr.queue.length).map (fun r => (r.record, r.session)) =
          [(eventRecord 8 (BitVec.ofNat 8 s.btr.berthState.code :: beBytes 2 s.msu.vB.toNat), some id)]))

/-- The join dwell complete commands the contactor closed, a join path close (R109), with its confirmation window started
(R111, R113, R114); the join time limit makes SYNC_TIMEOUT held once, the station staying in JOINING (R112).
The clock catches up with the moment the timer is due (log 1).

The ship dwell complete sets ready and releases the permit (R121, R122). The sync time limit takes SHIP_SYNC back to
ONLINE with SYNC_TIMEOUT held, the context at its starting values and the permit low while the contactor is closed (R123,
R124).
The clock catches up with the moment the timer is due (log 1). -/
def Obligations.SynchronisingTimersAct : Prop :=
  (∀ (s : State) (start : Nat), s.phase = .run → s.ssc.station = .joining →
     (s.syn.joinDwell = some start → s.btr.berthState = .live → s.syn.cmdClosed = false → s.ccAux = false →
       ∃ t, exec .joinDwellComplete s = .next t ∧ sameBut [.clock, .lkc, .pvw, .syn, .pru] s t ∧
         t.now = max s.now (start + ms s.params.joinDwell) ∧ t.syn.cmdClosed = true ∧ t.syn.window = some t.now ∧
         t.syn.confirmed = false ∧ t.syn.joinDwell = none ∧ t.syn.joinClosed = true ∧ t.syn.permit = false) ∧
     (s.syn.joinLimit = some start →
       exec .joinTimeLimitExpiry s = .next (hold .syncTimeout { s with
         now := max s.now (start + sec s.params.syncLimit), syn := { s.syn with joinLimit := none } }))) ∧
  (∀ (s : State) (start : Nat), s.phase = .run → s.ssc.station = .shipSync →
     (s.syn.shipDwell = some start → s.syn.ready = false →
       ∃ t, exec .shipDwellComplete s = .next t ∧ sameBut [.clock, .lkc, .pvw, .syn, .pru] s t ∧
         t.now = max s.now (start + ms s.params.shipDwell) ∧ t.syn = { s.syn with ready := true, permit := true }) ∧
     (s.syn.syncLimit = some start →
       ∃ t, exec .syncTimeLimitExpiry s = .next t ∧ sameBut [.clock, .btr, .lkc, .pvw, .ssc, .syn, .pru] s t ∧
         t.ssc = { s.ssc with station := .online } ∧ .syncTimeout ∈ t.pru.held ∧
         t.syn = { s.syn with
           fSync := 0, vSync := 0, syncLimit := none, advance := none, predicted := none, slipOk := false
           phaseOk := false, voltOk := false, busOk := false, shipDwell := none, ready := false
           permit := !s.syn.cmdClosed && !s.ccAux }))

/-- The end of a confirmation window (R114): where CC_AUX reports the commanded position only the window ends; where it does
not, CONTACTOR_FAIL is held, and a station that can trip and did not hold it trips. The window runs through a warm reset
(R115).
The clock catches up with the moment the timer is due (log 1).

A change of CC_AUX (R114, R115). Inside a window, or to the commanded position, it raises nothing; leaving the commanded
position outside one makes CONTACTOR_FAIL held and trips a station that can trip. In JOINING it confirms the close and, on a
LIVE berth bus, takes the station to ONLINE (R109), or into HANDOVER_IN where the ship breaker is closed (R93). In a
broadcasting state a STATUS is triggered and the cadence restarts (R57). The permit drive follows (R122). -/
def Obligations.ContactorIsWatched : Prop :=
  (∀ (s : State) (start : Nat), s.phase ≠ .rstLow → s.syn.window = some start →
     (s.ccAux = s.syn.cmdClosed →
       exec .confirmationWindowEnd s =
         .next { s with now := max s.now (start + 1200), syn := { s.syn with window := none } }) ∧
     (s.ccAux ≠ s.syn.cmdClosed →
       ∃ t, exec .confirmationWindowEnd s = .next t ∧ .contactorFail ∈ t.pru.held ∧
         (canTrip s = false → sameBut [.clock, .syn, .pru] s t ∧ t.syn = { s.syn with window := none }) ∧
         (canTrip s = true → .contactorFail ∉ s.pru.held →
           t.ssc.station = .tripped ∧ t.mod.gate = .gatesOff ∧ t.syn.cmdClosed = false ∧
             ∃ following, t.pru.first = some
               { cause := .contactorFail, state := s.ssc.station, following := following }))) ∧
  (∀ (s : State) (closed : Bool), s.phase = .run → s.ccAux ≠ closed →
     ∃ t, exec (.ccAuxChange closed) s = .next t ∧ t.ccAux = closed ∧ t.syn.permit = permitRule t ∧
       (s.ssc.station.broadcasting = true → t.pvw.slot = 0 ∧ t.pvw.cadence = some s.now) ∧
       (s.syn.window.isSome = true ∨ closed = s.syn.cmdClosed → (.contactorFail ∈ t.pru.held ↔ .contactorFail ∈ s.pru.held)) ∧
       (s.syn.window = none → closed ≠ s.syn.cmdClosed →
         .contactorFail ∈ t.pru.held ∧
           (canTrip s = true → .contactorFail ∉ s.pru.held →
             t.ssc.station = .tripped ∧ t.mod.gate = .gatesOff ∧ t.syn.cmdClosed = false)) ∧
       (s.ssc.station = .joining → closed = true → s.syn.cmdClosed = true → s.syn.window.isSome = true →
         s.btr.berthState = .live →
         t.ssc.station = (if s.sbAux then .handoverIn else .online) ∧ t.syn.fSync = 0 ∧ t.syn.cmdClosed = true) ∧
       (s.ssc.station ≠ .joining → s.syn.window.isSome = true ∨ closed = s.syn.cmdClosed →
         sameBut [.ccAux, .lkc, .pvw, .syn, .pru] s t))

/-! ### Chapter 8: ship synchronising -/

/-- A sample handed on, new or repeated (R4), is judged by SYN with the values its closes and crossings publish (log 7).

In SHIP_SYNC it judges where it closes the cycle of the berth or the ship tracker (R118 to R122), and leaves SYN alone where it
closes neither. The terms f_sync and v_sync follow a LIVE ship bus, and are 0 otherwise (R118). Advance and predicted phase
are computed from the slip and Δφ_ship (R119). The four windows of R120: both buses LIVE; the slip within its window of the
target; the predicted phase within its window; the two voltages within theirs. Where they are met together the dwell starts,
or runs on; a judgement that loses one clears ready, returns the dwell to zero (R121), and withdraws the permit of a station
whose contactor is commanded or reported closed (R122).

In JOINING it judges where it closes the cycle of the berth or the module tracker (R110, R111), and leaves SYN alone where it
closes neither, but for the energise timer, which a LIVE bus ends. While the berth bus is LIVE f_sync draws the module to the
bus's frequency and phase, without the phase while Δφ_join is invalid, and v_sync to its voltage; else both are 0 and no dwell
runs. With the contactor commanded open the three windows of R111 are judged, and the dwell starts, or runs on, while all are
met, and returns to zero when one is not. A station whose closing is confirmed on a LIVE bus leaves JOINING with both terms 0
(R93, R109, R110). -/
def Obligations.LosingAWindowWithdrawsThePermit : Prop :=
  ∀ (s : State) (c : Instr) (x : Sample) (k : Nat), s.phase = .run → unsettled s = true → s.spt.index = some k →
    ((∃ r : List Byte, r.length = 25 ∧ r.head? = some 0xA6#8 ∧ crc8 (r.take 24) = r.getD 24 0 ∧
        (s.spt.expected = none ∨ s.spt.expected = some (r.getD 1 0)) ∧ x = sampleOf r ∧ overcurrentMet x = false ∧
        dcFaultMet x = false ∧ c = .recordComplete r) ∨
      ∃ b : Byte, b ≠ 0xFF#8 ∧ b ≠ 0xA6#8 ∧ c = .startMarkerWrong b ∧ s.spt.lastGood = some x ∧ s.spt.runCount ≠ 2) →
    ((s.ssc.station = .shipSync →
     ∃ t, exec c s = .next t ∧ t.ssc = s.ssc ∧ sameBut [.spt, .msu, .btr, .lkc, .pvw, .syn, .emt, .pru] s t ∧
      (let closes := (s.btr.berth.crossing x.vbAb.toInt k).isSome = true ∨ 319 ≤ s.msu.sumB.n ∨
         (s.btr.ship.crossing x.vsAb.toInt k).isSome = true ∨ 319 ≤ s.msu.sumS.n
       let bus := t.btr.shipState = .live ∧ t.btr.berthState = .live
       let slip := ∃ d, t.btr.slip = some d ∧ d - s.params.slipTarget ≤ s.params.shipSlip ∧
         s.params.slipTarget - d ≤ s.params.shipSlip
       let phase := ∃ d, t.syn.predicted = some d ∧ d ≤ s.params.shipPhase ∧ -d ≤ s.params.shipPhase
       let volt := t.msu.vB - t.msu.vS ≤ s.params.shipVolt ∧ t.msu.vS - t.msu.vB ≤ s.params.shipVolt
       (closes →
         (t.syn.busOk = true ↔ bus) ∧ (t.syn.slipOk = true ↔ slip) ∧ (t.syn.phaseOk = true ↔ phase) ∧
           (t.syn.voltOk = true ↔ volt) ∧
           (bus ∧ slip ∧ phase ∧ volt →
             t.syn.ready = s.syn.ready ∧ t.syn.shipDwell = some (s.syn.shipDwell.getD s.now)) ∧
           (¬ (bus ∧ slip ∧ phase ∧ volt) →
             t.syn.ready = false ∧ t.syn.shipDwell = none ∧
               (s.syn.cmdClosed = true ∨ s.ccAux = true → t.syn.permit = false)) ∧
           (∀ d e, t.btr.slip = some d → t.btr.dphiShip = some e →
             t.syn.advance = some (roundAway (d * s.params.closeTime * 65536) 1000000) ∧
               ∃ y, t.syn.predicted = some y ∧ -32768 ≤ y ∧ y ≤ 32767 ∧
                 (y - (e + roundAway (d * s.params.closeTime * 65536) 1000000)) % 65536 = 0) ∧
           (t.btr.slip = none ∨ t.btr.dphiShip = none → t.syn.advance = none ∧ t.syn.predicted = none) ∧
           (t.btr.shipState ≠ .live → t.syn.fSync = 0 ∧ t.syn.vSync = 0) ∧
           ∀ n f, t.btr.shipState = .live → s.ssc.session = some n → t.btr.ship.freq = some f →
             t.syn.fSync = clamp (-3000000) 3000000
                 ((f + s.params.slipTarget - (if n.is60 then 60000 else 50000)) * 1000) ∧
               t.syn.vSync = clamp (-100) 100 (t.msu.vS - n.voltage)) ∧
       (¬ closes → s.syn.energise = none → t.syn = s.syn))) ∧
    (s.ssc.station = .joining →
     ∃ t, exec c s = .next t ∧
      (let closes := (s.btr.berth.crossing x.vbAb.toInt k).isSome = true ∨ 319 ≤ s.msu.sumB.n ∨
         (s.btr.module.crossing x.vmAb.toInt k).isSome = true ∨ 319 ≤ s.msu.sumM.n
       let confirmed := s.syn.cmdClosed = true ∧ s.syn.confirmed = true ∧ t.btr.berthState = .live
       let frequency := ∃ f g, t.btr.module.freq = some f ∧ t.btr.berth.freq = some g ∧ f - g ≤ s.params.joinFreq ∧
         g - f ≤ s.params.joinFreq
       let phase := ∃ d, t.btr.dphiJoin = some d ∧ d ≤ s.params.joinPhase ∧ -d ≤ s.params.joinPhase
       let volt := t.msu.vM - t.msu.vB ≤ s.params.joinVolt ∧ t.msu.vB - t.msu.vM ≤ s.params.joinVolt
       (confirmed →
         t.ssc.station = (if s.sbAux then .handoverIn else .online) ∧ t.syn.fSync = 0 ∧ t.syn.vSync = 0) ∧
       (¬ confirmed →
         t.ssc = s.ssc ∧ sameBut [.spt, .msu, .btr, .lkc, .pvw, .syn, .emt, .pru] s t ∧
         (closes → t.btr.berthState ≠ .live → t.syn.fSync = 0 ∧ t.syn.vSync = 0 ∧ t.syn.joinDwell = none) ∧
         (closes → t.btr.berthState = .live →
           (∀ n f, s.ssc.session = some n → t.btr.berth.freq = some f →
             t.syn.vSync = clamp (-100) 100 (t.msu.vB - n.voltage) ∧
               (t.btr.dphiJoin = none →
                 t.syn.fSync = clamp (-3000000) 3000000 ((f - (if n.is60 then 60000 else 50000)) * 1000)) ∧
               ∀ d, t.btr.dphiJoin = some d →
                 t.syn.fSync = clamp (-3000000) 3000000
                   ((f - (if n.is60 then 60000 else 50000)) * 1000 + s.params.kphi * -d)) ∧
           (s.syn.cmdClosed = false →
             (t.syn.joinFreqOk = true ↔ frequency) ∧ (t.syn.joinPhaseOk = true ↔ phase) ∧
               (t.syn.joinVoltOk = true ↔ volt) ∧
               (frequency ∧ phase ∧ volt → t.syn.joinDwell = some (s.syn.joinDwell.getD s.now)) ∧
               (¬ (frequency ∧ phase ∧ volt) → t.syn.joinDwell = none))) ∧
         (¬ closes → t.syn = { s.syn with energise := t.syn.energise } ∧
           (s.btr.berthState ≠ .live → t.syn.energise = s.syn.energise))))))

/-- The ship breaker closes (R93, R125, R129): SHIP_BREAKER_FAIL is held where the own permit drive was low and raised
nowhere else; ONLINE and SHIP_SYNC enter HANDOVER_IN with the own P‰ as target and the timers started; no other state
moves.

The ship breaker opens (R94, R126, R142): a ship-connected station enters ONLINE, parted where it was in HANDOVER_OUT
with ready-to-part, else ship lost, with the EVENT that says so; f_rest is zeroed (R81), HOC is at its starting values and
SBT released; the session stands. No other state moves. -/
def Obligations.ShipBreakerMovesTheStation : Prop :=
  (∀ s : State, s.phase = .run → s.sbAux = false →
     ∃ t, exec .sbAuxClose s = .next t ∧ t.sbAux = true ∧
       (s.syn.permit = false → .shipBreakerFail ∈ t.pru.held) ∧
       (s.syn.permit = true → (.shipBreakerFail ∈ t.pru.held ↔ .shipBreakerFail ∈ s.pru.held)) ∧
       (s.ssc.station = .online ∨ s.ssc.station = .shipSync →
         t.ssc.station = .handoverIn ∧ t.ssc.session = s.ssc.session ∧
           t.hoc.pTarget = some (clamp 0 1000 s.msu.p * 1000) ∧ t.hoc.fHo = 0 ∧ t.hoc.timer = some s.now ∧
           t.hoc.tick = some s.now ∧ t.hoc.stale = (if shipFresh s then none else some s.now) ∧
           t.syn.cmdClosed = s.syn.cmdClosed ∧ (s.ssc.station = .shipSync → t.syn.fSync = 0 ∧ t.syn.ready = false)) ∧
       (s.ssc.station ≠ .online → s.ssc.station ≠ .shipSync → t.ssc = s.ssc ∧ sameBut [.sbAux, .lkc, .pvw, .pru] s t) ∧
       sameBut [.sbAux, .btr, .lkc, .pvw, .shc, .ssc, .syn, .hoc, .emt, .rwr, .pru] s t) ∧
  (∀ s : State, s.phase = .run → s.sbAux = true →
     ∃ t, exec .sbAuxOpen s = .next t ∧ t.sbAux = false ∧
       (s.ssc.station.shipConnected = true →
         t.ssc = { s.ssc with station := .online } ∧ t.hoc = .initial ∧ t.shc.fRest = 0 ∧
           t.shc.fShare = s.shc.fShare ∧ t.syn.cmdClosed = s.syn.cmdClosed ∧
           (s.rwr.queue.length < 16 → (t.rwr.queue.drop s.rwr.queue.length).map (fun r => r.record) =
             [if s.ssc.station = .handoverOut ∧ s.hoc.ready = true then
                 eventRecord 4 (satBytes 2 (secondsSince s.hoc.entered s) ++ sBytes s.msu.p)
               else eventRecord 5 (BitVec.ofNat 8 s.ssc.station.code :: sBytes s.msu.p)])) ∧
       (s.ssc.station.shipConnected = false → t = { s with sbAux := false }) ∧
       sameBut [.sbAux, .btr, .lkc, .pvw, .shc, .ssc, .syn, .hoc, .emt, .rwr, .pru] s t)

/-! ### Chapter 9: handover -/

/-- A handover tick (R128, R130 to R133, R137): in HANDOVER_IN with the ship record fresh P_final is the ship load over the
participants' ratings, rounded and limited to 1000, and P_target moves toward it by at most the ramp; with the record stale
or absent both are frozen; in HANDOVER_OUT the target moves toward 0. The power loop then steps f_ho toward the target. -/
def Obligations.HandoverTickRampsAndSteers : Prop :=
  ∀ (s : State) (start : Nat) (target : Int), s.phase = .run →
    s.ssc.station = .handoverIn ∨ s.ssc.station = .handoverOut → s.hoc.tick = some start → start + 8 ≤ s.now →
    s.hoc.pTarget = some target →
    ∃ (t : State) (new : Int), exec .handoverTick s = .next t ∧ sameBut [.hoc] s t ∧ t.hoc.pTarget = some new ∧
      (∀ r goal, s.ssc.station = .handoverIn → 0 ≤ s.params.ramp → s.pvw.ship = some r → shipFresh s = true →
        goal = min 1000 (roundAway ((r.load : Int) * 10 * 1000) (sumR s)) →
        t.hoc.pFinal = some goal ∧
          new = (if target + s.params.ramp < goal * 1000 then target + s.params.ramp
            else if goal * 1000 < target - s.params.ramp then target - s.params.ramp else goal * 1000)) ∧
      (s.ssc.station = .handoverIn → shipFresh s = false → new = target ∧ t.hoc.pFinal = s.hoc.pFinal) ∧
      (s.ssc.station = .handoverOut → 0 ≤ s.params.ramp → t.hoc.pFinal = s.hoc.pFinal ∧
          new = (if target + s.params.ramp < 0 then target + s.params.ramp
            else if 0 < target - s.params.ramp then target - s.params.ramp else 0)) ∧
      t.hoc = { s.hoc with
        pFinal := t.hoc.pFinal, pTarget := some new, tick := some (start + 8)
        fHo := clamp (-2000000) 2000000 (s.hoc.fHo + roundAway (s.params.kh * (new - 1000 * s.msu.p)) 1000) }

/-- The three causes of an abort of the handover in (R133, R135): the stale timer at 2 s, the handover timer, and a peer of
the own session shown in HANDOVER_OUT with aborted set by a STATUS that creates its entry or changes the entry's state or
flags. A STATUS that changes neither, and a CONT_STATUS, touch the view alone: that R139's list of the changes of the view
is whole, and the list that R135 means, is log 30. Each cause takes the station to HANDOVER_OUT with aborted set,
HANDOVER_ABORTED held, the own P‰ as target and a fresh handover timer (R137), and hands the meter the seconds spent
(R154).
The clock catches up with the moment the timer is due (log 1).

At each change of the view, a STATUS, a TRIP_NOTICE, an entry gone stale or removed, HOC judges the view as the change leaves
it. In HANDOVER_IN the handover is aborted exactly where a fresh entry of the own session shows an abort (R135). In
HANDOVER_OUT SBT is driven low, and the trip timer started, exactly where the own ready-to-part is set, every fresh
ship-connected participant shows its own, and SBT is not low already; a drive that is low stays low (R139).

The timers of HANDOVER_OUT. The part timer at 1 s stops and sets ready-to-part; where that changes the flag, SBT is driven low
if every fresh ship-connected participant shows it too, and where it does not, nothing more happens (R138, R139); the trip timer at 500 ms makes SHIP_BREAKER_FAIL held where the breaker still reports
closed, once (R140); the handover timer makes HANDOVER_ABORTED held and drives SBT low whatever the flags show (R141).
The clock catches up with the moment the timer is due (log 1). -/
def Obligations.HandoverTimersAbortAndPart : Prop :=
  (∀ (s : State) (c : Instr) (length cause : Nat), s.phase = .run → s.ssc.station = .handoverIn →
     (∃ start, c = .staleTimerExpiry ∧ s.hoc.stale = some start ∧ length = start + 16000 ∧ cause = 2) ∨
       (∃ start, c = .handoverTimerExpiryIn ∧ s.hoc.timer = some start ∧
         length = start + sec s.params.handoverLimit ∧ cause = 1) ∨
       (∃ (sender : Addr) (p : List Byte) (id : SessionId), c = .statusReceived sender p ∧ s.lkc.enabled = true ∧
         isStation sender = true ∧ sender ≠ s.addr ∧ p.length = 16 ∧ (p.getD 6 0).toNat ≤ 3 ∧ (p.getD 0 0).toNat = 10 ∧
         (∀ e, peerAt sender s.pvw.peers = some e →
           e.state ≠ .handoverOut ∨ e.contactor ≠ (p.getD 1 0).getLsbD 0 ∨ e.ready ≠ (p.getD 1 0).getLsbD 2 ∨
             e.aborted = false) ∧
         (p.getD 1 0).getLsbD 4 = true ∧ sessionId s = some id ∧ id ≠ 0 ∧ BitVec.ofNat 32 (fieldNat p 2 4) = id ∧
         length = s.now ∧ cause = 3) →
     ∃ t, exec c s = .next t ∧ t.now = max s.now length ∧ HandoverAborted cause s t) ∧
  (∀ (s : State) (c : Instr) (a : Addr) (now : Nat), s.phase = .run → ChangesView s c a now →
     (s.ssc.station = .handoverIn →
       ∃ t, exec c s = .next t ∧ t.now = now ∧ (PeerShowsAbort t → HandoverAborted 3 s t) ∧
         (¬ PeerShowsAbort t → t.hoc = s.hoc ∧ sameBut [.clock, .lkc, .pvw, .syn] s t)) ∧
     (s.ssc.station = .handoverOut →
       ∃ t, exec c s = .next t ∧ t.now = now ∧ sameBut [.clock, .lkc, .pvw, .syn, .hoc] s t ∧
         (s.hoc.ready = true → s.hoc.sbtLow = false → PeersShowReady t →
           t.hoc = { s.hoc with sbtLow := true, trip := some now, tripDone := false }) ∧
         (s.hoc.ready = false ∨ s.hoc.sbtLow = true ∨ ¬ PeersShowReady t → t.hoc = s.hoc))) ∧
  (∀ (s : State) (sender : Addr) (p : List Byte) (e : Peer), s.phase = .run → s.lkc.enabled = true →
     isStation sender = true → sender ≠ s.addr → peerAt sender s.pvw.peers = some e →
     s.ssc.station = .handoverIn ∨ s.ssc.station = .handoverOut →
     (p.length = 16 → (p.getD 0 0).toNat = e.state.code → e.state.broadcasting = true →
       e.contactor = (p.getD 1 0).getLsbD 0 → e.ready = (p.getD 1 0).getLsbD 2 → e.aborted = (p.getD 1 0).getLsbD 4 →
       ∃ t, exec (.statusReceived sender p) s = .next t ∧ sameBut [.lkc, .pvw] s t) ∧
     (p.length = 6 → ∃ t, exec (.contStatusReceived sender p) s = .next t ∧ sameBut [.lkc, .pvw] s t)) ∧
  (∀ (s : State) (start : Nat), s.phase = .run → s.ssc.station = .handoverOut →
     (s.hoc.part = some start → s.hoc.ready = false →
       ∃ t u : State, exec .partTimerExpiry s = .next t ∧ u = { s with now := max s.now (start + 8000) } ∧
         t.now = u.now ∧ sameBut [.clock, .lkc, .pvw, .hoc, .pru] s t ∧
         (s.hoc.sbtLow = false → PeersShowReady u → t.hoc =
           { s.hoc with ready := true, part := none, sbtLow := true, trip := some u.now, tripDone := false }) ∧
         (s.hoc.sbtLow = true ∨ ¬ PeersShowReady u → t.hoc = { s.hoc with ready := true, part := none })) ∧
     (s.hoc.part = some start → s.hoc.ready = true →
       exec .partTimerExpiry s =
         .next { s with now := max s.now (start + 8000), hoc := { s.hoc with part := none } }) ∧
     (s.hoc.trip = some start →
       ∃ t, exec .tripTimerExpiry s = .next t ∧ sameBut [.clock, .hoc, .pru] s t ∧
         t.hoc = { s.hoc with trip := none, tripDone := true } ∧
         (s.sbAux = true → .shipBreakerFail ∈ t.pru.held) ∧ (s.sbAux = false → t.pru = s.pru)) ∧
     (s.hoc.timer = some start →
       ∃ t, exec .handoverTimerExpiryOut s = .next t ∧ sameBut [.clock, .emt, .hoc, .rwr, .pru] s t ∧
         .handoverAborted ∈ t.pru.held ∧ t.now = max s.now (start + sec s.params.handoverLimit) ∧
         t.hoc = (if s.hoc.sbtLow then { s.hoc with timer := none }
           else { s.hoc with timer := none, sbtLow := true, trip := some t.now, tripDone := false })))

/-! ### Chapter 11: the record store -/

/-- The IDLE writer takes work (R159, R162, R163): a pending configuration write before the record at the head of the queue;
a record that fits the page at the write position goes there, one that does not at the start of the next page, and where
there is no page left the next sector of the ring is erased. Each operation is a continuous-read exit, a write enable, then
the operation, on the free port, with its busy timeout running; that a free port is granted at once is the model's choice
(log 15). Where the port was not free, a grant gives it to a waiting writer before a chunk (R170); that a chunk then needs 3
free entries again (`chunkWaits`) is the model's choice (log 40). -/
def Obligations.WriterTakesWork : Prop :=
  (∀ s : State, s.phase = .run → s.rwr.writer = .idle → s.rwr.start = .none → s.rwr.recovered = true →
    s.rwr.settling = false → s.fpt.port = none →
    ∃ t, exec .writerTakeWork s = .next t ∧ sameBut [.rwr, .fpt, .mem] s t ∧ t.rwr.queue = s.rwr.queue ∧
      t.rwr.config = s.rwr.config ∧ t.mem.cells = s.mem.cells ∧
      (s.rwr.config ≠ none ∨ s.rwr.queue ≠ [] →
        t.rwr.busy = some s.now ∧ t.fpt.port = some .writer ∧ t.mem.latch = true ∧ t.mem.cont = false ∧
          t.fpt.contRead = false) ∧
      (s.rwr.config ≠ none → t.rwr.writer = .erasing ∧ t.mem.op = some (.erase 0)) ∧
      (∀ r rest, s.rwr.config = none → s.rwr.queue = r :: rest →
        (s.rwr.offset < 4096 → s.rwr.offset % 256 + r.record.size ≤ 256 →
          t.rwr.writer = .programming ∧ t.rwr.op = some (.record s.rwr.sector s.rwr.offset) ∧
            t.mem.op = some (.program (s.rwr.sector * 4096 + s.rwr.offset) (r.record.bytes (r.stamp.getD 0)))) ∧
        (s.rwr.offset < 3840 → 256 < s.rwr.offset % 256 + r.record.size →
          t.rwr.writer = .programming ∧
            t.rwr.op = some (.record s.rwr.sector ((s.rwr.offset / 256 + 1) * 256)) ∧
            t.mem.op = some (.program (s.rwr.sector * 4096 + (s.rwr.offset / 256 + 1) * 256)
              (r.record.bytes (r.stamp.getD 0)))) ∧
        (3840 ≤ s.rwr.offset → 256 < s.rwr.offset % 256 + r.record.size ∨ 4096 ≤ s.rwr.offset →
          t.rwr.writer = .erasing ∧
            t.mem.op = some (.erase (if 511 ≤ s.rwr.sector then 1 else s.rwr.sector + 1)))) ∧
      (s.rwr.config = none → s.rwr.queue = [] → t.rwr.writer = .idle ∧ t.fpt = s.fpt ∧ t.mem = s.mem)) ∧
  ∀ s : State, s.phase = .run → s.fpt.port = none →
    (∀ op, writerWaits s = true → s.rwr.op = some op →
      ∃ t, exec .memoryPortGrant s = .next t ∧ sameBut [.rwr, .fpt, .mem] s t ∧ t.fpt.port = some .writer ∧
        t.rwr.busy = some s.now ∧ t.mem.op = some (op.memOp s) ∧ t.mem.latch = true ∧ t.mem.cells = s.mem.cells) ∧
    (writerWaits s = false → chunkWaits s = true →
      exec .memoryPortGrant s = .next { s with fpt := { s.fpt with port := some .chunk } })

/-- The memory's operations end with busy (R157, R163). A program within a page clears the bits that are 0 in its data and
leaves every other byte; a record written leaves the queue with the write position after it; a SECTOR_HEAD written moves the
write position into its sector and programs the record behind it. An erase sets its sector to 0xFF and leaves every other
byte; after a log sector's erase the sector sequence counter is advanced and its SECTOR_HEAD programmed (R162), after sector
0's the configuration record. An exit that waits for the port is made when the operation gives it back (R169, R170); that it
comes before the writer's next operation is the model's choice (log 34). -/
def Obligations.ProgramAndEraseComplete : Prop :=
  ∀ (s : State) (start : Nat) (op : WriterOp), s.phase = .run → s.mem.wf → s.rwr.busy = some start → s.rwr.op = some op →
    s.fpt.port = some .writer →
    (∀ (addr : Nat) (data : List Byte), s.rwr.writer = .programming → s.mem.op = some (.program addr data) →
      addr % 256 + data.length ≤ 256 → op ≠ .formatHead →
      ∃ t, exec .programComplete s = .next t ∧ sameBut [.rwr, .fpt, .mem] s t ∧
        (∀ i, i < data.length → t.mem.get (addr + i) = s.mem.get (addr + i) &&& data.getD i 0) ∧
        (∀ a, a < addr ∨ addr + data.length ≤ a → t.mem.get a = s.mem.get a) ∧
        (∀ sector offset r rest, op = .record sector offset → s.rwr.queue = r :: rest →
          t.rwr.queue = rest ∧ t.rwr.sector = sector ∧ t.rwr.offset = offset + r.record.size ∧
            (rest = [] → s.rwr.config = none →
              t.rwr.writer = .idle ∧ t.fpt.port = none ∧ t.mem.op = none ∧ t.mem.latch = false)) ∧
        (∀ sector seq r rest, op = .head sector seq → s.rwr.queue = r :: rest →
          t.rwr.sector = sector ∧ t.rwr.offset = 16 ∧ t.rwr.secSeq = s.rwr.secSeq ∧ t.rwr.queue = s.rwr.queue ∧
            t.mem.op = some (.program (sector * 4096 + 16) (r.record.bytes (r.stamp.getD 0)))) ∧
        (op = .configProgram → t.rwr.config = none) ∧ t.fpt.exitWaits = false ∧
        (s.fpt.exitWaits = true → t.fpt.contRead = false ∧ t.mem.cont = false ∧
          ∀ r, t.fpt.readout = some r → r.ended = false)) ∧
    (∀ sector : Nat, s.rwr.writer = .erasing → s.mem.op = some (.erase sector) →
      ∃ t, exec .eraseComplete s = .next t ∧ sameBut [.rwr, .fpt, .mem] s t ∧
        (∀ a, a / 4096 = sector → t.mem.get a = 0xFF#8) ∧ (∀ a, a / 4096 ≠ sector → t.mem.get a = s.mem.get a) ∧
        t.rwr.queue = s.rwr.queue ∧ t.fpt.exitWaits = false ∧
        (∀ seq r rest, op = .logErase sector seq → s.rwr.queue = r :: rest →
          t.rwr.writer = .programming ∧ t.rwr.secSeq = seq ∧
            t.mem.op = some (.program (sector * 4096) (sectorHeadBytes s seq (r.stamp.getD 0)))) ∧
        (∀ block, op = .configErase → s.rwr.config = some block →
          t.rwr.writer = .programming ∧ t.mem.op = some (.program 0 (configRecordBytes block))))

/-- A busy timeout makes the writer FAULTED with its failed position and RECORD_STORE_FAULT held, its cause live (R163,
R164), the records kept, an exit that waits for the port made; the 100 ms status read follows the memory, and one that finds
it not busy ends the cause. The 500 ms busy wait after a warm reset faults the writer with what was in flight (R167); that in
STARTING the start work then ends as well, its load not made, is the model's choice (log 45).
RECORD_STORE_FAULT as an alarm changes nothing else; as a trip class it trips as well a station that can trip and did not
hold it (R164, R172, R174): TRIPPED, gates off, contactor commanded open, the first-cause record set (R175).
The clock catches up with the moment the timer is due (log 1).

What was in flight at a warm reset is settled once the memory is not busy (R167), the exit at the end of the reset made:
nothing needs nothing; a record whose bytes the memory holds has been written, any other is placed from the next page start;
a head or an erase is made again from the erase of that sector, a configuration write from the erase of sector 0; a FAULTED
writer stays so. In STARTING the start work goes on to its configuration load, which is not made before. -/
def Obligations.StoreFaultsAndSettles : Prop :=
  (∀ (s : State) (start : Nat) (op : WriterOp), s.phase = .run →
     (s.rwr.busy = some start → s.rwr.op = some op → s.rwr.writer = .programming ∨ s.rwr.writer = .erasing →
       s.rwr.start ≠ .format →
       ∃ t, exec .busyTimeout s = .next t ∧
         t.now = max s.now (start + (if s.rwr.writer = .erasing then 4000 else 40)) ∧ t.rwr.writer = .faulted ∧
         t.rwr.op = some op ∧ t.rwr.faultBusy = true ∧ t.rwr.statusTick = some t.now ∧ t.rwr.busy = none ∧
         t.rwr.queue.take s.rwr.queue.length = s.rwr.queue ∧
         t.fpt.port ≠ some .writer ∧ .recordStoreFault ∈ t.pru.held ∧ causeLive t .recordStoreFault = true ∧
         t.mem.cells = s.mem.cells ∧ t.mem.op = s.mem.op ∧
         (s.fpt.port = some .writer → s.fpt.exitWaits = true → t.mem.cont = false ∧ t.fpt.exitWaits = false) ∧
         (s.params.tripStore = false ∨ canTrip s = false ∨ .recordStoreFault ∈ s.pru.held →
           sameBut [.clock, .rwr, .fpt, .mem, .pru] s t ∧
             t.rwr = { s.rwr with
               writer := .faulted, busy := none, faultBusy := true, statusTick := some t.now } ∧
             (s.fpt.exitWaits = false → t.mem = s.mem)) ∧
         (s.params.tripStore = true → canTrip s = true → .recordStoreFault ∉ s.pru.held →
           t.ssc.station = .tripped ∧ t.mod.gate = .gatesOff ∧ t.syn.cmdClosed = false ∧
             ∃ following, t.pru.first = some
               { cause := .recordStoreFault, state := s.ssc.station, following := following })) ∧
     (s.rwr.writer = .faulted → s.fpt.port ≠ some .chunk → s.rwr.statusTick = some start →
       ∀ busy, ∃ t, exec (.faultedStatusRead busy) s = .next t ∧ sameBut [.clock, .rwr, .mem] s t ∧
         t.rwr = { s.rwr with faultBusy := busy && s.mem.op.isSome, statusTick := some (start + 800) } ∧
         (busy = true → t.mem = s.mem) ∧ (busy = false → t.mem.op = none ∧ causeLive t .recordStoreFault = false)) ∧
     (s.rwr.settling = true → s.mem.op.isSome = true → s.rwr.startTimer = some start →
       ∃ t, exec .warmResetBusyTimeout s = .next t ∧
         t.now = max s.now (start + 4000) ∧ t.rwr.writer = .faulted ∧ t.rwr.settling = false ∧
         t.rwr.op = (if s.rwr.writer = .faulted then s.rwr.op else s.rwr.inFlight) ∧
         t.rwr.queue.take s.rwr.queue.length = s.rwr.queue ∧ .recordStoreFault ∈ t.pru.held ∧
         (s.rwr.start ≠ .configLoad →
           s.params.tripStore = false ∨ canTrip s = false ∨ .recordStoreFault ∈ s.pru.held →
           sameBut [.clock, .rwr, .pru] s t ∧ t.rwr.queue = s.rwr.queue) ∧
         (s.rwr.start = .configLoad → s.ssc.station = .starting →
           t.rwr.start = .none ∧ t.rwr.recovered = s.rwr.recovered ∧ t.params = s.params ∧
             (s.params.tripStore = false → tripHeld s = false → s.pru.waiting.any (tripClass s.params) = false →
               t.ssc.station = .standby) ∧
             (s.params.tripStore = true → .recordStoreFault ∉ s.pru.held → t.ssc.station = .tripped)) ∧
         (s.params.tripStore = true → canTrip s = true → .recordStoreFault ∉ s.pru.held →
           t.ssc.station = .tripped ∧ t.mod.gate = .gatesOff ∧ t.syn.cmdClosed = false ∧
             ∃ following, t.pru.first = some
               { cause := .recordStoreFault, state := s.ssc.station, following := following }))) ∧
  (∀ s : State, s.phase = .run → s.rwr.settling = true → s.fpt.port = none → s.fpt.exitWaits = false →
     ∃ t, exec .warmResetSettle s = .next t ∧ sameBut [.rwr, .fpt, .mem] s t ∧ t.rwr.settling = false ∧
       t.mem.cells = s.mem.finish.cells ∧
       (s.rwr.writer = .faulted → t.rwr.writer = .faulted ∧ t.rwr.op = s.rwr.op ∧ t.rwr.queue = s.rwr.queue) ∧
       (s.rwr.writer = .idle → s.rwr.inFlight = none ∨ s.rwr.start = .configLoad →
         t.rwr = { s.rwr with settling := false, startTimer := none, inFlight := none } ∧
           t.mem = s.mem.finish ∧ t.fpt = s.fpt) ∧
       (∀ sector seq, s.rwr.writer = .idle → s.rwr.start ≠ .configLoad →
         s.rwr.inFlight = some (.logErase sector seq) ∨ s.rwr.inFlight = some (.head sector seq) →
         t.rwr.op = some (.logErase sector seq) ∧ t.mem.op = some (.erase sector) ∧ t.rwr.queue = s.rwr.queue) ∧
       (s.rwr.writer = .idle → s.rwr.start ≠ .configLoad → s.rwr.inFlight = some .configErase ∨ s.rwr.inFlight = some .configProgram →
         t.mem.op = some (.erase 0) ∧ t.rwr.config = s.rwr.config ∧ t.rwr.queue = s.rwr.queue) ∧
       (∀ sector offset r rest, s.rwr.writer = .idle → s.rwr.start ≠ .configLoad →
         s.rwr.inFlight = some (.record sector offset) → s.rwr.queue = r :: rest →
         (memBytes s.mem.finish (sector * 4096 + offset) (r.record.bytes (r.stamp.getD 0)).length =
             r.record.bytes (r.stamp.getD 0) →
           t.rwr.queue = rest ∧ t.rwr.sector = sector ∧ t.rwr.offset = offset + r.record.size) ∧
         (memBytes s.mem.finish (sector * 4096 + offset) (r.record.bytes (r.stamp.getD 0)).length ≠
             r.record.bytes (r.stamp.getD 0) →
           t.rwr.queue = s.rwr.queue ∧ t.rwr.offset = min 4096 ((offset / 256 + 1) * 256)))) ∧
  (∀ (s : State) (busy : Bool), s.phase = .run → s.rwr.settling = true → exec (.configLoadComplete busy) s = .next s)

/-- The start work. The configuration load, which after a warm reset waits for the end of its status wait (R167), finds a record good with kind 0x0C, length 2 and a good CRC (R182), and takes each
parameter from its offset of the block, times its unit (13.4), clamped to its range; of any other record every default.
CONFIG_ADJUSTED is held where the record is not good and where a good one needed a clamp, and a good one that needed none
changes no condition (R158); the recovery follows. With the operation of a configuration write still in the memory, of one
that a cold reset cut off, no good record is found, whatever a read of the busy memory gives (R159, log 38).

The recovery begins with a continuous-read exit, made at once on the free port (R165, R169). A memory still busy 500 ms into
it faults the writer and ends the start work (R165), the clock catching up with the moment the timer is due (log 1). The
recovery takes the head of the greatest sector sequence, of equals the lowest sector, and walks its sector to the write
position; the record sequence counter becomes one more than the last valid record's stamp, or the head's next record sequence
where the sector holds none, and goes past the records that waited unstamped and take their stamps from it (R161, R166; that
it does not wrap at 32 bits in State is log 18).
Where there is no head it erases sector 1 and programs a SECTOR_HEAD of sequences 1 and 1; the write position is then 1 / 16
and both counters start at 1 (R165). A start work that ends with no trip-class condition held enters STANDBY, else TRIPPED
(R85). -/
def Obligations.StartWorkLoadsAndRecovers : Prop :=
  ∀ s : State, s.phase = .run → s.ssc.station = .starting →
    (s.rwr.start = .configLoad → s.rwr.settling = false → s.mem.writesConfig = true →
      ∀ busy, ∃ t, exec (.configLoadComplete busy) s = .next t ∧ t.params = Params.default ∧ .configAdjusted ∈ t.pru.held ∧
        t.rwr.start = .recovery ∧ sameBut [.freeCount, .rwr, .fpt, .mem, .params, .pru] s t) ∧
    (∀ bytes, s.rwr.start = .configLoad → s.rwr.settling = false → s.mem.writesConfig = false → bytes = memBytes s.mem.finish 0 32 →
      ∃ t, exec (.configLoadComplete false) s = .next t ∧ sameBut [.rwr, .fpt, .mem, .params, .pru] s t ∧
        (s.fpt.port = none → t.mem.cont = false ∧ t.fpt.contRead = false) ∧
        (s.fpt.port ≠ none → t.fpt.exitWaits = true) ∧ t.mem.cells = s.mem.finish.cells ∧
        t.rwr.start = .recovery ∧ t.rwr.startTimer = some s.now ∧ t.rwr.queue = s.rwr.queue ∧
        (let block := (bytes.drop 2).take 28
         let good := bytes.getD 0 0 = 0x0C#8 ∧ bytes.getD 1 0 = 0x02#8 ∧ bytes = withCrc16 (bytes.take 30)
         (good →
           (∀ w ∈ paramRows, w.value t.params = clamp w.low w.high (w.stored block)) ∧ t.params.InRange ∧
             t.params.quiet = (block.getD 27 0).getLsbD 0 ∧ t.params.tripBus = (block.getD 27 0).getLsbD 1 ∧
             t.params.tripTx = (block.getD 27 0).getLsbD 2 ∧ t.params.tripStore = (block.getD 27 0).getLsbD 3 ∧
             ((∃ w ∈ paramRows, w.stored block < w.low ∨ w.high < w.stored block) → .configAdjusted ∈ t.pru.held) ∧
             ((∀ w ∈ paramRows, w.low ≤ w.stored block ∧ w.stored block ≤ w.high) → t.pru = s.pru)) ∧
         (¬ good →
           t.params = Params.default ∧ (∀ w ∈ paramRows, w.value t.params = w.preset) ∧ t.params.quiet = false ∧
             t.params.tripBus = true ∧ t.params.tripTx = false ∧ t.params.tripStore = false ∧
             .configAdjusted ∈ t.pru.held))) ∧
    (∀ start, s.rwr.start = .recovery → s.mem.op.isSome = true → s.rwr.startTimer = some start →
      ∃ t, exec .recoveryBusyTimeout s = .next t ∧ t.now = max s.now (start + 4000) ∧ t.rwr.writer = .faulted ∧
        t.rwr.start = .none ∧ t.rwr.recovered = s.rwr.recovered ∧ .recordStoreFault ∈ t.pru.held ∧
        (s.params.tripStore = false → tripHeld s = false → s.pru.waiting.any (tripClass s.params) = false →
          t.ssc.station = .standby)) ∧
    (s.rwr.start = .recovery → s.fpt.exitWaits = false →
      ∃ t, exec .logRecoveryComplete s = .next t ∧
        ((∀ n seq next, 1 ≤ n → n ≤ 511 → ¬ HeadAt s.mem.finish n seq next) → s.fpt.port = none →
          t.rwr.start = .format ∧ t.rwr.writer = .erasing ∧ t.mem.op = some (.erase 1) ∧ t.ssc = s.ssc) ∧
        ∀ n seq next, 1 ≤ n → n ≤ 511 → HeadAt s.mem.finish n seq next →
          (∀ m seq' next', 1 ≤ m → m ≤ 511 → HeadAt s.mem.finish m seq' next' → seq' < seq ∨ seq' = seq ∧ n ≤ m) →
          t.rwr.sector = n ∧ t.rwr.secSeq = seq ∧
            ∃ last, Walks s.mem.finish n 16 none t.rwr.offset last ∧ RecoveryEnds ((last.map (· + 1)).getD next) s t) ∧
    (s.rwr.start = .format → s.fpt.port = some .writer → s.rwr.busy.isSome = true →
      (s.rwr.writer = .erasing → s.rwr.op = some .formatErase →
        ∃ t, exec .eraseComplete s = .next t ∧ sameBut [.rwr, .fpt, .mem] s t ∧ t.rwr.writer = .programming ∧
          t.rwr.start = .format ∧
          t.mem.op = some (.program 4096 (withCrc16 ([0x01#8, 0x01#8] ++ beBytes 4 1 ++ beBytes 4 1 ++
            [BitVec.ofNat 8 s.addr.toNat, BitVec.ofNat 8 s.rating.toNat, 0, 0])))) ∧
      (s.rwr.writer = .programming → s.rwr.op = some .formatHead →
        ∃ t, exec .programComplete s = .next t ∧ t.rwr.sector = 1 ∧ t.rwr.offset = 16 ∧ t.rwr.secSeq = 1 ∧
          RecoveryEnds 1 s t))

/-- A readout (R168, R169): a chunk of at most 24 bytes is read from the memory and submitted as LOG_DATA; accepted, the
context advances by as many, refused for want of 3 free entries it stands; the port is free again and the memory in
continuous-read mode, unless an exit has waited for the port: then it is made (R169, R170); that it comes then, before a
writer's operation that waits, is the model's choice (log 34). When nothing remains, a LOG_DATA
without data is sent, then the continuous-read exit is made and the readout ends: at once on the free port, else when the
port comes free, the readout active until then. -/
def Obligations.ReadoutSendsChunks : Prop :=
  ∀ (s : State) (r : Readout), s.phase = .run → s.lkc.enabled = true → s.fpt.readout = some r → r.ended = false →
    (0 < r.remaining → s.mem.op = none → s.fpt.port = some .chunk →
      ∃ t, exec .readoutChunk s = .next t ∧ sameBut [.lkc, .fpt, .mem] s t ∧
        t.mem = { s.mem with cont := !s.fpt.exitWaits } ∧ t.fpt.port = none ∧ t.fpt.contRead = !s.fpt.exitWaits ∧
        t.fpt.exitWaits = false ∧
        (s.lkc.queue.length ≤ 5 →
          t.fpt.readout = some { r with
            next := r.next + min 24 r.remaining, remaining := r.remaining - min 24 r.remaining } ∧
          t.lkc = { s.lkc with queue := s.lkc.queue ++
            [{ frame := { kind := .logData
                          payload := beBytes 2 r.sector ++ beBytes 2 r.next ++
                            memBytes s.mem (r.sector * 4096 + r.next) (min 24 r.remaining) }
               retry := 0
               inAttempt := false }] }) ∧
        (5 < s.lkc.queue.length → t.fpt.readout = some r ∧ t.lkc = s.lkc)) ∧
    (r.remaining = 0 → s.lkc.queue.length ≤ 5 →
      ∃ t, exec .readoutEndFrame s = .next t ∧ sameBut [.lkc, .fpt, .mem] s t ∧
        t.lkc = { s.lkc with queue := s.lkc.queue ++
          [{ frame := { kind := .logData, payload := beBytes 2 r.sector ++ beBytes 2 r.next }
             retry := 0, inAttempt := false }] } ∧
        (s.fpt.port = none →
          t.mem = { s.mem with cont := false } ∧
            t.fpt = { s.fpt with readout := none, contRead := false, exitWaits := false }) ∧
        (s.fpt.port ≠ none →
          t.mem = s.mem ∧ t.fpt = { s.fpt with readout := some { r with ended := true }, exitWaits := true }))

/-! ### Resets and trips -/

/-- RST_N. Its assertion puts every output at rest and every block at its cold-reset value, the record memory kept (a power
loss ends what ran in it, log 11); of a configuration write that it cuts off no good record is left, neither then nor when
the memory has ended the operation, and the log's sectors stay as they were (R159; that an operation already issued counts
as cut off is log 38); while it is low no command but COLD_RESET acts (log 25). Its end samples the straps (R85,
R86): a valid address enters STARTING with LKC enabled and the configuration load begun, its continuous-read exit made
(R158), an invalid one INVALID with LKC not enabled; the parameters are the defaults until the load (for all but the trip
mask that is log 23), the writer's place and counters are not set before the recovery (log 16), TRIP_IN standing asserted is
held (R173), and the permit follows CC_AUX (R122). Where R55 gives IDLE only once the link is idle, the receiver stands in
HUNT under the reset and at its end, with a measured sync run of 0 (log 33). -/
def Obligations.ColdReset : Prop :=
  (∀ (s : State) (powerLost : Bool), ∃ t, exec (.rstNAsserted powerLost) s = .next t ∧ t.phase = .rstLow ∧ AtRest t ∧
    t.syn.permit = true ∧ t.hoc.sbtLow = false ∧ t.lkc = .disabled ∧ t.pru = .initial ∧ t.ssc.session = none ∧ t.emt = none ∧
    t.rwr = .initial ∧ t.fpt = .initial ∧ t.params = .default ∧ t.now = s.now ∧ t.pending = s.pending ∧
    t.spt = .initial ∧ t.msu = .initial ∧ t.btr = .initial ∧ t.rfg = .initial ∧ t.mod = .off ∧ t.pvw = .initial ∧
    t.shc = .initial ∧ t.syn = .initial ∧ t.hoc = .initial ∧ t.pair = s.pair ∧
    (powerLost = false → s.mem.writesConfig = false → t.mem = s.mem) ∧
    (s.mem.writesConfig = true → configGood (memBytes t.mem.finish 0 32) = false) ∧
    (powerLost = false → ∀ a, 4096 ≤ a → t.mem.get a = s.mem.get a) ∧ (powerLost = true → t.mem.op = none ∧ t.mem.latch = false)) ∧
  (∀ (s : State) (c : Instr), s.phase = .rstLow → (∀ a r l x y z, c ≠ .coldReset a r l x y z) →
    (∀ p, c ≠ .rstNAsserted p) → exec c s = .next s) ∧
  ∀ (s : State) (addr : Addr) (rating : BitVec 2) (linkRate ccAux sbAux tripIn : Bool),
    ∃ t, exec (.coldReset addr rating linkRate ccAux sbAux tripIn) s = .next t ∧ t.phase = .run ∧ t.addr = addr ∧
      t.rating = rating ∧ t.linkRate = linkRate ∧ t.ccAux = ccAux ∧ t.sbAux = sbAux ∧ t.tripIn = tripIn ∧ AtRest t ∧
      t.syn = { Syn.initial with window := some s.now, confirmed := !ccAux, permit := !ccAux } ∧
      t.hoc = .initial ∧ t.params = .default ∧ t.ssc.session = none ∧
      t.emt = none ∧ t.spt = .initial ∧ t.msu = .initial ∧ t.btr = .initial ∧ t.rfg = .initial ∧ t.mod = .off ∧
      t.pvw = .initial ∧ t.shc = { Shc.initial with tick := some s.now } ∧ t.fpt = .initial ∧
      t.pru.held = (if tripIn then [.tripInput] else []) ∧ t.pru.first = none ∧ t.now = s.now ∧ t.pending = s.pending ∧
      t.pair = s.pair ∧
      (1 ≤ addr.toNat ∧ addr.toNat ≤ 12 →
        t.ssc.station = .starting ∧ t.lkc = { Lkc.disabled with enabled := true, window := some s.now } ∧
          t.rwr = { Rwr.initial with start := .configLoad } ∧
          (s.mem.writesConfig = false → t.mem = { s.mem with cont := false })) ∧
      (addr.toNat = 0 ∨ 12 < addr.toNat →
        t.ssc.station = .invalid ∧ t.lkc = .disabled ∧ t.rwr = .initial ∧
          (s.mem.writesConfig = false → t.mem = s.mem)) ∧
      (s.mem.writesConfig = true → configGood (memBytes t.mem.finish 0 32) = false)

/-- RESTART_N (R87, R179). Its assertion takes the gates off, commands the contactor open, stops the strobes, disables LKC
and releases SBT, in every state but INVALID; held conditions, parameters, session, records and memory are kept. Its end
makes RESTARTED held and enables LKC: STANDBY where no trip-class condition is held, an OPEN session retained with PARTIAL
set and a CLOSED one cleared; TRIPPED where one is, an earlier trip resumed with its first cause; STARTING begins its start
work again. In every state the status wait of up to 500 ms begins (R167), in STARTING before the configuration load. The assertion ends the readout and its exit (R171), the end issues the continuous-read exit of R167 and
R169. The station field keeps its value from the assertion to the end (log 17). LKC disabled, its receiver stands in HUNT
with a measured sync run of 0, where R55 gives IDLE only once the link is idle (log 33). The end submits an EVENT of subkind
restart with the state at the assertion (R179, 13.4; under the session id of the context as it stood, log 28), and outside
STARTING one STATUS announcing the state entered (R62). MSU takes its starting values (R18), the outcome of the two checks
at the latest new sample standing (R12; log 37). -/
def Obligations.WarmReset : Prop :=
  (∀ s : State, s.phase = .run →
    (s.ssc.station = .invalid → exec .warmReset s = .next s) ∧
    (s.ssc.station ≠ .invalid →
      ∃ t, exec .warmReset s = .next t ∧ t.phase = .restartLow ∧ AtRest t ∧ t.spt = .initial ∧ t.lkc = .disabled ∧
        t.hoc = .initial ∧ t.syn.window = some s.now ∧ t.syn.permit = !s.ccAux ∧ t.pru.held = s.pru.held ∧
        t.pru.first = s.pru.first ∧ t.rwr.queue = s.rwr.queue ∧ t.rwr.config = s.rwr.config ∧
        t.fpt = .initial ∧ t.msu = { Msu.initial with ocLive := s.msu.ocLive, dcLive := s.msu.dcLive } ∧
        sameBut [.phase, .spt, .msu, .btr, .rfg, .mod, .lkc, .pvw, .shc, .syn, .hoc, .emt, .rwr, .fpt, .pru] s t)) ∧
  ∀ s : State, s.phase = .restartLow →
    ∃ t, exec .warmResetEnd s = .next t ∧ t.phase = .run ∧ .restarted ∈ t.pru.held ∧
      (∀ x ∈ s.pru.held, x ∈ t.pru.held) ∧ t.lkc.enabled = true ∧ t.params = s.params ∧
      { t.mem with cont := s.mem.cont } = s.mem ∧ (s.fpt.port = none → t.mem.cont = false ∧ t.fpt.contRead = false) ∧
      (s.rwr.queue.length < 16 →
        (t.rwr.queue[s.rwr.queue.length]?).map (fun r => (r.record, r.session)) =
          some ({ kind := .event
                  body := [6, BitVec.ofNat 8 (statesByCode.idxOf s.ssc.station + 1), 0, 0, 0, 0, 0, 0] }, sessionId s)) ∧
      (s.ssc.station ≠ .starting → tripHeld s = false →
        ∃ p, StatusSays { t with syn := { t.syn with permit := s.syn.permit } } p ∧
          t.lkc.queue = [{ frame := { kind := .status, payload := p }, retry := 0, inAttempt := false }]) ∧
      (s.ssc.station ≠ .starting → tripHeld s = true → s.pru.first ≠ none ∨ s.ssc.station ≠ .tripped →
        ∃ p, StatusSays t p ∧
          { frame := { kind := .status, payload := p }, retry := 0, inAttempt := false } ∈ t.lkc.queue) ∧
      (s.ssc.station = .starting → t.ssc = s.ssc ∧ t.rwr.start = .configLoad) ∧
      t.rwr.settling = true ∧ t.rwr.startTimer = some s.now ∧
      (s.ssc.station ≠ .starting → tripHeld s = false → t.ssc.station = .standby) ∧
      (s.ssc.station ≠ .starting → tripHeld s = true → t.ssc.station = .tripped) ∧
      (∀ r, s.ssc.station ≠ .starting → tripHeld s = true → s.pru.first = some r →
        ∃ following, t.pru.first = some { r with following := following }) ∧
      (∀ c, s.ssc.station ≠ .starting → s.ssc.session = some c → c.opened = true → t.ssc.session = some c) ∧
      (∀ c, s.ssc.station ≠ .starting → s.ssc.session = some c → c.opened = false →
        t.ssc.session = none ∧ t.emt = none) ∧
      (∀ c m, s.ssc.station ≠ .starting → tripHeld s = false → s.rwr.queue.length < 16 → s.ssc.session = some c →
        c.opened = true → s.emt = some m →
        t.emt = some { m with flags := { m.flags with partialIvl := true }, tick := some s.now })

/-- A held condition stays held (R172, R177): through every command that carries no request, and through any command but a
cold reset while its cause is live. -/
def Obligations.HeldConditionsStay : Prop :=
  ∀ (s t : State) (c : Instr) (x : Condition), exec c s = .next t → x ∈ s.pru.held →
    (∀ a r l p q z, c ≠ .coldReset a r l p q z) → (∀ p, c ≠ .rstNAsserted p) →
    ((∀ a n p, c ≠ .clear a n p) → (∀ p, c ≠ .malformedRequest p) → (∀ b, c ≠ .badFrame b) →
      (∀ k a f p, c ≠ .frameDropped k a f p) → x ∈ t.pru.held) ∧
    (isStation s.addr = true → causeLive s x = true → x ∈ t.pru.held)
end

