-- ==== Sys2Proof/Laws/State.lean ====
section
/-! SUPPORT. What each shared operation leaves alone, field by field: every one true by definition, so that no later proof
unfolds a record update. -/

namespace Sys2Proof.Machine

/-! ### catchUp -/

@[simp] theorem catchUp_pending (start length : Nat) (s : State) : (catchUp start length s).pending = s.pending := rfl
@[simp] theorem catchUp_pair (start length : Nat) (s : State) : (catchUp start length s).pair = s.pair := rfl
@[simp] theorem catchUp_freeCount (start length : Nat) (s : State) : (catchUp start length s).freeCount = s.freeCount := rfl
@[simp] theorem catchUp_phase (start length : Nat) (s : State) : (catchUp start length s).phase = s.phase := rfl
@[simp] theorem catchUp_addr (start length : Nat) (s : State) : (catchUp start length s).addr = s.addr := rfl
@[simp] theorem catchUp_rating (start length : Nat) (s : State) : (catchUp start length s).rating = s.rating := rfl
@[simp] theorem catchUp_linkRate (start length : Nat) (s : State) : (catchUp start length s).linkRate = s.linkRate := rfl
@[simp] theorem catchUp_ccAux (start length : Nat) (s : State) : (catchUp start length s).ccAux = s.ccAux := rfl
@[simp] theorem catchUp_sbAux (start length : Nat) (s : State) : (catchUp start length s).sbAux = s.sbAux := rfl
@[simp] theorem catchUp_tripIn (start length : Nat) (s : State) : (catchUp start length s).tripIn = s.tripIn := rfl
@[simp] theorem catchUp_spt (start length : Nat) (s : State) : (catchUp start length s).spt = s.spt := rfl
@[simp] theorem catchUp_msu (start length : Nat) (s : State) : (catchUp start length s).msu = s.msu := rfl
@[simp] theorem catchUp_btr (start length : Nat) (s : State) : (catchUp start length s).btr = s.btr := rfl
@[simp] theorem catchUp_rfg (start length : Nat) (s : State) : (catchUp start length s).rfg = s.rfg := rfl
@[simp] theorem catchUp_mod (start length : Nat) (s : State) : (catchUp start length s).mod = s.mod := rfl
@[simp] theorem catchUp_lkc (start length : Nat) (s : State) : (catchUp start length s).lkc = s.lkc := rfl
@[simp] theorem catchUp_pvw (start length : Nat) (s : State) : (catchUp start length s).pvw = s.pvw := rfl
@[simp] theorem catchUp_shc (start length : Nat) (s : State) : (catchUp start length s).shc = s.shc := rfl
@[simp] theorem catchUp_ssc (start length : Nat) (s : State) : (catchUp start length s).ssc = s.ssc := rfl
@[simp] theorem catchUp_syn (start length : Nat) (s : State) : (catchUp start length s).syn = s.syn := rfl
@[simp] theorem catchUp_hoc (start length : Nat) (s : State) : (catchUp start length s).hoc = s.hoc := rfl
@[simp] theorem catchUp_emt (start length : Nat) (s : State) : (catchUp start length s).emt = s.emt := rfl
@[simp] theorem catchUp_rwr (start length : Nat) (s : State) : (catchUp start length s).rwr = s.rwr := rfl
@[simp] theorem catchUp_fpt (start length : Nat) (s : State) : (catchUp start length s).fpt = s.fpt := rfl
@[simp] theorem catchUp_mem (start length : Nat) (s : State) : (catchUp start length s).mem = s.mem := rfl
@[simp] theorem catchUp_params (start length : Nat) (s : State) : (catchUp start length s).params = s.params := rfl
@[simp] theorem catchUp_pru (start length : Nat) (s : State) : (catchUp start length s).pru = s.pru := rfl

/-! ### hold -/

@[simp] theorem hold_pending (c : Condition) (s : State) : (hold c s).pending = s.pending := rfl
@[simp] theorem hold_pair (c : Condition) (s : State) : (hold c s).pair = s.pair := rfl
@[simp] theorem hold_now (c : Condition) (s : State) : (hold c s).now = s.now := rfl
@[simp] theorem hold_freeCount (c : Condition) (s : State) : (hold c s).freeCount = s.freeCount := rfl
@[simp] theorem hold_phase (c : Condition) (s : State) : (hold c s).phase = s.phase := rfl
@[simp] theorem hold_addr (c : Condition) (s : State) : (hold c s).addr = s.addr := rfl
@[simp] theorem hold_rating (c : Condition) (s : State) : (hold c s).rating = s.rating := rfl
@[simp] theorem hold_linkRate (c : Condition) (s : State) : (hold c s).linkRate = s.linkRate := rfl
@[simp] theorem hold_ccAux (c : Condition) (s : State) : (hold c s).ccAux = s.ccAux := rfl
@[simp] theorem hold_sbAux (c : Condition) (s : State) : (hold c s).sbAux = s.sbAux := rfl
@[simp] theorem hold_tripIn (c : Condition) (s : State) : (hold c s).tripIn = s.tripIn := rfl
@[simp] theorem hold_spt (c : Condition) (s : State) : (hold c s).spt = s.spt := rfl
@[simp] theorem hold_msu (c : Condition) (s : State) : (hold c s).msu = s.msu := rfl
@[simp] theorem hold_btr (c : Condition) (s : State) : (hold c s).btr = s.btr := rfl
@[simp] theorem hold_rfg (c : Condition) (s : State) : (hold c s).rfg = s.rfg := rfl
@[simp] theorem hold_mod (c : Condition) (s : State) : (hold c s).mod = s.mod := rfl
@[simp] theorem hold_lkc (c : Condition) (s : State) : (hold c s).lkc = s.lkc := rfl
@[simp] theorem hold_pvw (c : Condition) (s : State) : (hold c s).pvw = s.pvw := rfl
@[simp] theorem hold_shc (c : Condition) (s : State) : (hold c s).shc = s.shc := rfl
@[simp] theorem hold_ssc (c : Condition) (s : State) : (hold c s).ssc = s.ssc := rfl
@[simp] theorem hold_syn (c : Condition) (s : State) : (hold c s).syn = s.syn := rfl
@[simp] theorem hold_hoc (c : Condition) (s : State) : (hold c s).hoc = s.hoc := rfl
@[simp] theorem hold_emt (c : Condition) (s : State) : (hold c s).emt = s.emt := rfl
@[simp] theorem hold_rwr (c : Condition) (s : State) : (hold c s).rwr = s.rwr := rfl
@[simp] theorem hold_fpt (c : Condition) (s : State) : (hold c s).fpt = s.fpt := rfl
@[simp] theorem hold_mem (c : Condition) (s : State) : (hold c s).mem = s.mem := rfl
@[simp] theorem hold_params (c : Condition) (s : State) : (hold c s).params = s.params := rfl

/-! ### submit -/

@[simp] theorem submit_pending (f : Frame) (s : State) : (submit f s).pending = s.pending := rfl
@[simp] theorem submit_pair (f : Frame) (s : State) : (submit f s).pair = s.pair := rfl
@[simp] theorem submit_now (f : Frame) (s : State) : (submit f s).now = s.now := rfl
@[simp] theorem submit_freeCount (f : Frame) (s : State) : (submit f s).freeCount = s.freeCount := rfl
@[simp] theorem submit_phase (f : Frame) (s : State) : (submit f s).phase = s.phase := rfl
@[simp] theorem submit_addr (f : Frame) (s : State) : (submit f s).addr = s.addr := rfl
@[simp] theorem submit_rating (f : Frame) (s : State) : (submit f s).rating = s.rating := rfl
@[simp] theorem submit_linkRate (f : Frame) (s : State) : (submit f s).linkRate = s.linkRate := rfl
@[simp] theorem submit_ccAux (f : Frame) (s : State) : (submit f s).ccAux = s.ccAux := rfl
@[simp] theorem submit_sbAux (f : Frame) (s : State) : (submit f s).sbAux = s.sbAux := rfl
@[simp] theorem submit_tripIn (f : Frame) (s : State) : (submit f s).tripIn = s.tripIn := rfl
@[simp] theorem submit_spt (f : Frame) (s : State) : (submit f s).spt = s.spt := rfl
@[simp] theorem submit_msu (f : Frame) (s : State) : (submit f s).msu = s.msu := rfl
@[simp] theorem submit_btr (f : Frame) (s : State) : (submit f s).btr = s.btr := rfl
@[simp] theorem submit_rfg (f : Frame) (s : State) : (submit f s).rfg = s.rfg := rfl
@[simp] theorem submit_mod (f : Frame) (s : State) : (submit f s).mod = s.mod := rfl
@[simp] theorem submit_pvw (f : Frame) (s : State) : (submit f s).pvw = s.pvw := rfl
@[simp] theorem submit_shc (f : Frame) (s : State) : (submit f s).shc = s.shc := rfl
@[simp] theorem submit_ssc (f : Frame) (s : State) : (submit f s).ssc = s.ssc := rfl
@[simp] theorem submit_syn (f : Frame) (s : State) : (submit f s).syn = s.syn := rfl
@[simp] theorem submit_hoc (f : Frame) (s : State) : (submit f s).hoc = s.hoc := rfl
@[simp] theorem submit_emt (f : Frame) (s : State) : (submit f s).emt = s.emt := rfl
@[simp] theorem submit_rwr (f : Frame) (s : State) : (submit f s).rwr = s.rwr := rfl
@[simp] theorem submit_fpt (f : Frame) (s : State) : (submit f s).fpt = s.fpt := rfl
@[simp] theorem submit_mem (f : Frame) (s : State) : (submit f s).mem = s.mem := rfl
@[simp] theorem submit_params (f : Frame) (s : State) : (submit f s).params = s.params := rfl

/-! ### triggerStatus -/

@[simp] theorem triggerStatus_pending (s : State) : (triggerStatus s).pending = s.pending := rfl
@[simp] theorem triggerStatus_pair (s : State) : (triggerStatus s).pair = s.pair := rfl
@[simp] theorem triggerStatus_now (s : State) : (triggerStatus s).now = s.now := rfl
@[simp] theorem triggerStatus_freeCount (s : State) : (triggerStatus s).freeCount = s.freeCount := rfl
@[simp] theorem triggerStatus_phase (s : State) : (triggerStatus s).phase = s.phase := rfl
@[simp] theorem triggerStatus_addr (s : State) : (triggerStatus s).addr = s.addr := rfl
@[simp] theorem triggerStatus_rating (s : State) : (triggerStatus s).rating = s.rating := rfl
@[simp] theorem triggerStatus_linkRate (s : State) : (triggerStatus s).linkRate = s.linkRate := rfl
@[simp] theorem triggerStatus_ccAux (s : State) : (triggerStatus s).ccAux = s.ccAux := rfl
@[simp] theorem triggerStatus_sbAux (s : State) : (triggerStatus s).sbAux = s.sbAux := rfl
@[simp] theorem triggerStatus_tripIn (s : State) : (triggerStatus s).tripIn = s.tripIn := rfl
@[simp] theorem triggerStatus_spt (s : State) : (triggerStatus s).spt = s.spt := rfl
@[simp] theorem triggerStatus_msu (s : State) : (triggerStatus s).msu = s.msu := rfl
@[simp] theorem triggerStatus_btr (s : State) : (triggerStatus s).btr = s.btr := rfl
@[simp] theorem triggerStatus_rfg (s : State) : (triggerStatus s).rfg = s.rfg := rfl
@[simp] theorem triggerStatus_mod (s : State) : (triggerStatus s).mod = s.mod := rfl
@[simp] theorem triggerStatus_shc (s : State) : (triggerStatus s).shc = s.shc := rfl
@[simp] theorem triggerStatus_ssc (s : State) : (triggerStatus s).ssc = s.ssc := rfl
@[simp] theorem triggerStatus_syn (s : State) : (triggerStatus s).syn = s.syn := rfl
@[simp] theorem triggerStatus_hoc (s : State) : (triggerStatus s).hoc = s.hoc := rfl
@[simp] theorem triggerStatus_emt (s : State) : (triggerStatus s).emt = s.emt := rfl
@[simp] theorem triggerStatus_rwr (s : State) : (triggerStatus s).rwr = s.rwr := rfl
@[simp] theorem triggerStatus_fpt (s : State) : (triggerStatus s).fpt = s.fpt := rfl
@[simp] theorem triggerStatus_mem (s : State) : (triggerStatus s).mem = s.mem := rfl
@[simp] theorem triggerStatus_params (s : State) : (triggerStatus s).params = s.params := rfl

/-! ### announce -/

@[simp] theorem announce_pending (before after : State) : (announce before after).pending = after.pending := rfl
@[simp] theorem announce_pair (before after : State) : (announce before after).pair = after.pair := rfl
@[simp] theorem announce_now (before after : State) : (announce before after).now = after.now := rfl
@[simp] theorem announce_freeCount (before after : State) : (announce before after).freeCount = after.freeCount := rfl
@[simp] theorem announce_phase (before after : State) : (announce before after).phase = after.phase := rfl
@[simp] theorem announce_addr (before after : State) : (announce before after).addr = after.addr := rfl
@[simp] theorem announce_rating (before after : State) : (announce before after).rating = after.rating := rfl
@[simp] theorem announce_linkRate (before after : State) : (announce before after).linkRate = after.linkRate := rfl
@[simp] theorem announce_ccAux (before after : State) : (announce before after).ccAux = after.ccAux := rfl
@[simp] theorem announce_sbAux (before after : State) : (announce before after).sbAux = after.sbAux := rfl
@[simp] theorem announce_tripIn (before after : State) : (announce before after).tripIn = after.tripIn := rfl
@[simp] theorem announce_spt (before after : State) : (announce before after).spt = after.spt := rfl
@[simp] theorem announce_msu (before after : State) : (announce before after).msu = after.msu := rfl
@[simp] theorem announce_btr (before after : State) : (announce before after).btr = after.btr := rfl
@[simp] theorem announce_rfg (before after : State) : (announce before after).rfg = after.rfg := rfl
@[simp] theorem announce_mod (before after : State) : (announce before after).mod = after.mod := rfl
@[simp] theorem announce_shc (before after : State) : (announce before after).shc = after.shc := rfl
@[simp] theorem announce_ssc (before after : State) : (announce before after).ssc = after.ssc := rfl
@[simp] theorem announce_syn (before after : State) : (announce before after).syn = after.syn := rfl
@[simp] theorem announce_hoc (before after : State) : (announce before after).hoc = after.hoc := rfl
@[simp] theorem announce_emt (before after : State) : (announce before after).emt = after.emt := rfl
@[simp] theorem announce_rwr (before after : State) : (announce before after).rwr = after.rwr := rfl
@[simp] theorem announce_fpt (before after : State) : (announce before after).fpt = after.fpt := rfl
@[simp] theorem announce_mem (before after : State) : (announce before after).mem = after.mem := rfl
@[simp] theorem announce_params (before after : State) : (announce before after).params = after.params := rfl

/-! ### submitRecord -/

@[simp] theorem submitRecord_pending (r : LogRecord) (id : Option SessionId) (s : State) : (submitRecord r id s).pending = s.pending := rfl
@[simp] theorem submitRecord_pair (r : LogRecord) (id : Option SessionId) (s : State) : (submitRecord r id s).pair = s.pair := rfl
@[simp] theorem submitRecord_now (r : LogRecord) (id : Option SessionId) (s : State) : (submitRecord r id s).now = s.now := rfl
@[simp] theorem submitRecord_freeCount (r : LogRecord) (id : Option SessionId) (s : State) : (submitRecord r id s).freeCount = s.freeCount := rfl
@[simp] theorem submitRecord_phase (r : LogRecord) (id : Option SessionId) (s : State) : (submitRecord r id s).phase = s.phase := rfl
@[simp] theorem submitRecord_addr (r : LogRecord) (id : Option SessionId) (s : State) : (submitRecord r id s).addr = s.addr := rfl
@[simp] theorem submitRecord_rating (r : LogRecord) (id : Option SessionId) (s : State) : (submitRecord r id s).rating = s.rating := rfl
@[simp] theorem submitRecord_linkRate (r : LogRecord) (id : Option SessionId) (s : State) : (submitRecord r id s).linkRate = s.linkRate := rfl
@[simp] theorem submitRecord_ccAux (r : LogRecord) (id : Option SessionId) (s : State) : (submitRecord r id s).ccAux = s.ccAux := rfl
@[simp] theorem submitRecord_sbAux (r : LogRecord) (id : Option SessionId) (s : State) : (submitRecord r id s).sbAux = s.sbAux := rfl
@[simp] theorem submitRecord_tripIn (r : LogRecord) (id : Option SessionId) (s : State) : (submitRecord r id s).tripIn = s.tripIn := rfl
@[simp] theorem submitRecord_spt (r : LogRecord) (id : Option SessionId) (s : State) : (submitRecord r id s).spt = s.spt := rfl
@[simp] theorem submitRecord_msu (r : LogRecord) (id : Option SessionId) (s : State) : (submitRecord r id s).msu = s.msu := rfl
@[simp] theorem submitRecord_btr (r : LogRecord) (id : Option SessionId) (s : State) : (submitRecord r id s).btr = s.btr := rfl
@[simp] theorem submitRecord_rfg (r : LogRecord) (id : Option SessionId) (s : State) : (submitRecord r id s).rfg = s.rfg := rfl
@[simp] theorem submitRecord_mod (r : LogRecord) (id : Option SessionId) (s : State) : (submitRecord r id s).mod = s.mod := rfl
@[simp] theorem submitRecord_lkc (r : LogRecord) (id : Option SessionId) (s : State) : (submitRecord r id s).lkc = s.lkc := rfl
@[simp] theorem submitRecord_pvw (r : LogRecord) (id : Option SessionId) (s : State) : (submitRecord r id s).pvw = s.pvw := rfl
@[simp] theorem submitRecord_shc (r : LogRecord) (id : Option SessionId) (s : State) : (submitRecord r id s).shc = s.shc := rfl
@[simp] theorem submitRecord_ssc (r : LogRecord) (id : Option SessionId) (s : State) : (submitRecord r id s).ssc = s.ssc := rfl
@[simp] theorem submitRecord_syn (r : LogRecord) (id : Option SessionId) (s : State) : (submitRecord r id s).syn = s.syn := rfl
@[simp] theorem submitRecord_hoc (r : LogRecord) (id : Option SessionId) (s : State) : (submitRecord r id s).hoc = s.hoc := rfl
@[simp] theorem submitRecord_fpt (r : LogRecord) (id : Option SessionId) (s : State) : (submitRecord r id s).fpt = s.fpt := rfl
@[simp] theorem submitRecord_mem (r : LogRecord) (id : Option SessionId) (s : State) : (submitRecord r id s).mem = s.mem := rfl
@[simp] theorem submitRecord_params (r : LogRecord) (id : Option SessionId) (s : State) : (submitRecord r id s).params = s.params := rfl
@[simp] theorem submitRecord_pru (r : LogRecord) (id : Option SessionId) (s : State) : (submitRecord r id s).pru = s.pru := rfl

/-! ### submitEvent -/

@[simp] theorem submitEvent_pending (k : Byte) (d : List Byte) (s : State) : (submitEvent k d s).pending = s.pending := rfl
@[simp] theorem submitEvent_pair (k : Byte) (d : List Byte) (s : State) : (submitEvent k d s).pair = s.pair := rfl
@[simp] theorem submitEvent_now (k : Byte) (d : List Byte) (s : State) : (submitEvent k d s).now = s.now := rfl
@[simp] theorem submitEvent_freeCount (k : Byte) (d : List Byte) (s : State) : (submitEvent k d s).freeCount = s.freeCount := rfl
@[simp] theorem submitEvent_phase (k : Byte) (d : List Byte) (s : State) : (submitEvent k d s).phase = s.phase := rfl
@[simp] theorem submitEvent_addr (k : Byte) (d : List Byte) (s : State) : (submitEvent k d s).addr = s.addr := rfl
@[simp] theorem submitEvent_rating (k : Byte) (d : List Byte) (s : State) : (submitEvent k d s).rating = s.rating := rfl
@[simp] theorem submitEvent_linkRate (k : Byte) (d : List Byte) (s : State) : (submitEvent k d s).linkRate = s.linkRate := rfl
@[simp] theorem submitEvent_ccAux (k : Byte) (d : List Byte) (s : State) : (submitEvent k d s).ccAux = s.ccAux := rfl
@[simp] theorem submitEvent_sbAux (k : Byte) (d : List Byte) (s : State) : (submitEvent k d s).sbAux = s.sbAux := rfl
@[simp] theorem submitEvent_tripIn (k : Byte) (d : List Byte) (s : State) : (submitEvent k d s).tripIn = s.tripIn := rfl
@[simp] theorem submitEvent_spt (k : Byte) (d : List Byte) (s : State) : (submitEvent k d s).spt = s.spt := rfl
@[simp] theorem submitEvent_msu (k : Byte) (d : List Byte) (s : State) : (submitEvent k d s).msu = s.msu := rfl
@[simp] theorem submitEvent_btr (k : Byte) (d : List Byte) (s : State) : (submitEvent k d s).btr = s.btr := rfl
@[simp] theorem submitEvent_rfg (k : Byte) (d : List Byte) (s : State) : (submitEvent k d s).rfg = s.rfg := rfl
@[simp] theorem submitEvent_mod (k : Byte) (d : List Byte) (s : State) : (submitEvent k d s).mod = s.mod := rfl
@[simp] theorem submitEvent_lkc (k : Byte) (d : List Byte) (s : State) : (submitEvent k d s).lkc = s.lkc := rfl
@[simp] theorem submitEvent_pvw (k : Byte) (d : List Byte) (s : State) : (submitEvent k d s).pvw = s.pvw := rfl
@[simp] theorem submitEvent_shc (k : Byte) (d : List Byte) (s : State) : (submitEvent k d s).shc = s.shc := rfl
@[simp] theorem submitEvent_ssc (k : Byte) (d : List Byte) (s : State) : (submitEvent k d s).ssc = s.ssc := rfl
@[simp] theorem submitEvent_syn (k : Byte) (d : List Byte) (s : State) : (submitEvent k d s).syn = s.syn := rfl
@[simp] theorem submitEvent_hoc (k : Byte) (d : List Byte) (s : State) : (submitEvent k d s).hoc = s.hoc := rfl
@[simp] theorem submitEvent_fpt (k : Byte) (d : List Byte) (s : State) : (submitEvent k d s).fpt = s.fpt := rfl
@[simp] theorem submitEvent_mem (k : Byte) (d : List Byte) (s : State) : (submitEvent k d s).mem = s.mem := rfl
@[simp] theorem submitEvent_params (k : Byte) (d : List Byte) (s : State) : (submitEvent k d s).params = s.params := rfl
@[simp] theorem submitEvent_pru (k : Byte) (d : List Byte) (s : State) : (submitEvent k d s).pru = s.pru := rfl

/-! ### commandContactor -/

@[simp] theorem commandContactor_pending (closed : Bool) (s : State) : (commandContactor closed s).pending = s.pending := rfl
@[simp] theorem commandContactor_pair (closed : Bool) (s : State) : (commandContactor closed s).pair = s.pair := rfl
@[simp] theorem commandContactor_now (closed : Bool) (s : State) : (commandContactor closed s).now = s.now := rfl
@[simp] theorem commandContactor_freeCount (closed : Bool) (s : State) : (commandContactor closed s).freeCount = s.freeCount := rfl
@[simp] theorem commandContactor_phase (closed : Bool) (s : State) : (commandContactor closed s).phase = s.phase := rfl
@[simp] theorem commandContactor_addr (closed : Bool) (s : State) : (commandContactor closed s).addr = s.addr := rfl
@[simp] theorem commandContactor_rating (closed : Bool) (s : State) : (commandContactor closed s).rating = s.rating := rfl
@[simp] theorem commandContactor_linkRate (closed : Bool) (s : State) : (commandContactor closed s).linkRate = s.linkRate := rfl
@[simp] theorem commandContactor_ccAux (closed : Bool) (s : State) : (commandContactor closed s).ccAux = s.ccAux := rfl
@[simp] theorem commandContactor_sbAux (closed : Bool) (s : State) : (commandContactor closed s).sbAux = s.sbAux := rfl
@[simp] theorem commandContactor_tripIn (closed : Bool) (s : State) : (commandContactor closed s).tripIn = s.tripIn := rfl
@[simp] theorem commandContactor_spt (closed : Bool) (s : State) : (commandContactor closed s).spt = s.spt := rfl
@[simp] theorem commandContactor_msu (closed : Bool) (s : State) : (commandContactor closed s).msu = s.msu := rfl
@[simp] theorem commandContactor_btr (closed : Bool) (s : State) : (commandContactor closed s).btr = s.btr := rfl
@[simp] theorem commandContactor_rfg (closed : Bool) (s : State) : (commandContactor closed s).rfg = s.rfg := rfl
@[simp] theorem commandContactor_mod (closed : Bool) (s : State) : (commandContactor closed s).mod = s.mod := rfl
@[simp] theorem commandContactor_lkc (closed : Bool) (s : State) : (commandContactor closed s).lkc = s.lkc := rfl
@[simp] theorem commandContactor_pvw (closed : Bool) (s : State) : (commandContactor closed s).pvw = s.pvw := rfl
@[simp] theorem commandContactor_shc (closed : Bool) (s : State) : (commandContactor closed s).shc = s.shc := rfl
@[simp] theorem commandContactor_ssc (closed : Bool) (s : State) : (commandContactor closed s).ssc = s.ssc := rfl
@[simp] theorem commandContactor_hoc (closed : Bool) (s : State) : (commandContactor closed s).hoc = s.hoc := rfl
@[simp] theorem commandContactor_emt (closed : Bool) (s : State) : (commandContactor closed s).emt = s.emt := rfl
@[simp] theorem commandContactor_rwr (closed : Bool) (s : State) : (commandContactor closed s).rwr = s.rwr := rfl
@[simp] theorem commandContactor_fpt (closed : Bool) (s : State) : (commandContactor closed s).fpt = s.fpt := rfl
@[simp] theorem commandContactor_mem (closed : Bool) (s : State) : (commandContactor closed s).mem = s.mem := rfl
@[simp] theorem commandContactor_params (closed : Bool) (s : State) : (commandContactor closed s).params = s.params := rfl
@[simp] theorem commandContactor_pru (closed : Bool) (s : State) : (commandContactor closed s).pru = s.pru := rfl

/-! ### setPermit -/

@[simp] theorem setPermit_pending (s : State) : (setPermit s).pending = s.pending := rfl
@[simp] theorem setPermit_pair (s : State) : (setPermit s).pair = s.pair := rfl
@[simp] theorem setPermit_now (s : State) : (setPermit s).now = s.now := rfl
@[simp] theorem setPermit_freeCount (s : State) : (setPermit s).freeCount = s.freeCount := rfl
@[simp] theorem setPermit_phase (s : State) : (setPermit s).phase = s.phase := rfl
@[simp] theorem setPermit_addr (s : State) : (setPermit s).addr = s.addr := rfl
@[simp] theorem setPermit_rating (s : State) : (setPermit s).rating = s.rating := rfl
@[simp] theorem setPermit_linkRate (s : State) : (setPermit s).linkRate = s.linkRate := rfl
@[simp] theorem setPermit_ccAux (s : State) : (setPermit s).ccAux = s.ccAux := rfl
@[simp] theorem setPermit_sbAux (s : State) : (setPermit s).sbAux = s.sbAux := rfl
@[simp] theorem setPermit_tripIn (s : State) : (setPermit s).tripIn = s.tripIn := rfl
@[simp] theorem setPermit_spt (s : State) : (setPermit s).spt = s.spt := rfl
@[simp] theorem setPermit_msu (s : State) : (setPermit s).msu = s.msu := rfl
@[simp] theorem setPermit_btr (s : State) : (setPermit s).btr = s.btr := rfl
@[simp] theorem setPermit_rfg (s : State) : (setPermit s).rfg = s.rfg := rfl
@[simp] theorem setPermit_mod (s : State) : (setPermit s).mod = s.mod := rfl
@[simp] theorem setPermit_lkc (s : State) : (setPermit s).lkc = s.lkc := rfl
@[simp] theorem setPermit_pvw (s : State) : (setPermit s).pvw = s.pvw := rfl
@[simp] theorem setPermit_shc (s : State) : (setPermit s).shc = s.shc := rfl
@[simp] theorem setPermit_ssc (s : State) : (setPermit s).ssc = s.ssc := rfl
@[simp] theorem setPermit_hoc (s : State) : (setPermit s).hoc = s.hoc := rfl
@[simp] theorem setPermit_emt (s : State) : (setPermit s).emt = s.emt := rfl
@[simp] theorem setPermit_rwr (s : State) : (setPermit s).rwr = s.rwr := rfl
@[simp] theorem setPermit_fpt (s : State) : (setPermit s).fpt = s.fpt := rfl
@[simp] theorem setPermit_mem (s : State) : (setPermit s).mem = s.mem := rfl
@[simp] theorem setPermit_params (s : State) : (setPermit s).params = s.params := rfl
@[simp] theorem setPermit_pru (s : State) : (setPermit s).pru = s.pru := rfl

/-! ### gatesOff -/

@[simp] theorem gatesOff_pending (s : State) : (gatesOff s).pending = s.pending := rfl
@[simp] theorem gatesOff_pair (s : State) : (gatesOff s).pair = s.pair := rfl
@[simp] theorem gatesOff_now (s : State) : (gatesOff s).now = s.now := rfl
@[simp] theorem gatesOff_freeCount (s : State) : (gatesOff s).freeCount = s.freeCount := rfl
@[simp] theorem gatesOff_phase (s : State) : (gatesOff s).phase = s.phase := rfl
@[simp] theorem gatesOff_addr (s : State) : (gatesOff s).addr = s.addr := rfl
@[simp] theorem gatesOff_rating (s : State) : (gatesOff s).rating = s.rating := rfl
@[simp] theorem gatesOff_linkRate (s : State) : (gatesOff s).linkRate = s.linkRate := rfl
@[simp] theorem gatesOff_ccAux (s : State) : (gatesOff s).ccAux = s.ccAux := rfl
@[simp] theorem gatesOff_sbAux (s : State) : (gatesOff s).sbAux = s.sbAux := rfl
@[simp] theorem gatesOff_tripIn (s : State) : (gatesOff s).tripIn = s.tripIn := rfl
@[simp] theorem gatesOff_spt (s : State) : (gatesOff s).spt = s.spt := rfl
@[simp] theorem gatesOff_msu (s : State) : (gatesOff s).msu = s.msu := rfl
@[simp] theorem gatesOff_btr (s : State) : (gatesOff s).btr = s.btr := rfl
@[simp] theorem gatesOff_lkc (s : State) : (gatesOff s).lkc = s.lkc := rfl
@[simp] theorem gatesOff_pvw (s : State) : (gatesOff s).pvw = s.pvw := rfl
@[simp] theorem gatesOff_shc (s : State) : (gatesOff s).shc = s.shc := rfl
@[simp] theorem gatesOff_ssc (s : State) : (gatesOff s).ssc = s.ssc := rfl
@[simp] theorem gatesOff_syn (s : State) : (gatesOff s).syn = s.syn := rfl
@[simp] theorem gatesOff_hoc (s : State) : (gatesOff s).hoc = s.hoc := rfl
@[simp] theorem gatesOff_emt (s : State) : (gatesOff s).emt = s.emt := rfl
@[simp] theorem gatesOff_rwr (s : State) : (gatesOff s).rwr = s.rwr := rfl
@[simp] theorem gatesOff_fpt (s : State) : (gatesOff s).fpt = s.fpt := rfl
@[simp] theorem gatesOff_mem (s : State) : (gatesOff s).mem = s.mem := rfl
@[simp] theorem gatesOff_params (s : State) : (gatesOff s).params = s.params := rfl
@[simp] theorem gatesOff_pru (s : State) : (gatesOff s).pru = s.pru := rfl

/-! ### judgeBand -/

@[simp] theorem judgeBand_pending (s : State) : (judgeBand s).pending = s.pending := rfl
@[simp] theorem judgeBand_pair (s : State) : (judgeBand s).pair = s.pair := rfl
@[simp] theorem judgeBand_now (s : State) : (judgeBand s).now = s.now := rfl
@[simp] theorem judgeBand_freeCount (s : State) : (judgeBand s).freeCount = s.freeCount := rfl
@[simp] theorem judgeBand_phase (s : State) : (judgeBand s).phase = s.phase := rfl
@[simp] theorem judgeBand_addr (s : State) : (judgeBand s).addr = s.addr := rfl
@[simp] theorem judgeBand_rating (s : State) : (judgeBand s).rating = s.rating := rfl
@[simp] theorem judgeBand_linkRate (s : State) : (judgeBand s).linkRate = s.linkRate := rfl
@[simp] theorem judgeBand_ccAux (s : State) : (judgeBand s).ccAux = s.ccAux := rfl
@[simp] theorem judgeBand_sbAux (s : State) : (judgeBand s).sbAux = s.sbAux := rfl
@[simp] theorem judgeBand_tripIn (s : State) : (judgeBand s).tripIn = s.tripIn := rfl
@[simp] theorem judgeBand_spt (s : State) : (judgeBand s).spt = s.spt := rfl
@[simp] theorem judgeBand_msu (s : State) : (judgeBand s).msu = s.msu := rfl
@[simp] theorem judgeBand_rfg (s : State) : (judgeBand s).rfg = s.rfg := rfl
@[simp] theorem judgeBand_mod (s : State) : (judgeBand s).mod = s.mod := rfl
@[simp] theorem judgeBand_lkc (s : State) : (judgeBand s).lkc = s.lkc := rfl
@[simp] theorem judgeBand_pvw (s : State) : (judgeBand s).pvw = s.pvw := rfl
@[simp] theorem judgeBand_shc (s : State) : (judgeBand s).shc = s.shc := rfl
@[simp] theorem judgeBand_ssc (s : State) : (judgeBand s).ssc = s.ssc := rfl
@[simp] theorem judgeBand_syn (s : State) : (judgeBand s).syn = s.syn := rfl
@[simp] theorem judgeBand_hoc (s : State) : (judgeBand s).hoc = s.hoc := rfl
@[simp] theorem judgeBand_emt (s : State) : (judgeBand s).emt = s.emt := rfl
@[simp] theorem judgeBand_rwr (s : State) : (judgeBand s).rwr = s.rwr := rfl
@[simp] theorem judgeBand_fpt (s : State) : (judgeBand s).fpt = s.fpt := rfl
@[simp] theorem judgeBand_mem (s : State) : (judgeBand s).mem = s.mem := rfl
@[simp] theorem judgeBand_params (s : State) : (judgeBand s).params = s.params := rfl
@[simp] theorem judgeBand_pru (s : State) : (judgeBand s).pru = s.pru := rfl

/-! ### periodWork -/

@[simp] theorem periodWork_pending (s : State) : (periodWork s).pending = s.pending := rfl
@[simp] theorem periodWork_pair (s : State) : (periodWork s).pair = s.pair := rfl
@[simp] theorem periodWork_now (s : State) : (periodWork s).now = s.now := rfl
@[simp] theorem periodWork_freeCount (s : State) : (periodWork s).freeCount = s.freeCount := rfl
@[simp] theorem periodWork_phase (s : State) : (periodWork s).phase = s.phase := rfl
@[simp] theorem periodWork_addr (s : State) : (periodWork s).addr = s.addr := rfl
@[simp] theorem periodWork_rating (s : State) : (periodWork s).rating = s.rating := rfl
@[simp] theorem periodWork_linkRate (s : State) : (periodWork s).linkRate = s.linkRate := rfl
@[simp] theorem periodWork_ccAux (s : State) : (periodWork s).ccAux = s.ccAux := rfl
@[simp] theorem periodWork_sbAux (s : State) : (periodWork s).sbAux = s.sbAux := rfl
@[simp] theorem periodWork_tripIn (s : State) : (periodWork s).tripIn = s.tripIn := rfl
@[simp] theorem periodWork_spt (s : State) : (periodWork s).spt = s.spt := rfl
@[simp] theorem periodWork_msu (s : State) : (periodWork s).msu = s.msu := rfl
@[simp] theorem periodWork_btr (s : State) : (periodWork s).btr = s.btr := rfl
@[simp] theorem periodWork_lkc (s : State) : (periodWork s).lkc = s.lkc := rfl
@[simp] theorem periodWork_pvw (s : State) : (periodWork s).pvw = s.pvw := rfl
@[simp] theorem periodWork_shc (s : State) : (periodWork s).shc = s.shc := rfl
@[simp] theorem periodWork_ssc (s : State) : (periodWork s).ssc = s.ssc := rfl
@[simp] theorem periodWork_syn (s : State) : (periodWork s).syn = s.syn := rfl
@[simp] theorem periodWork_hoc (s : State) : (periodWork s).hoc = s.hoc := rfl
@[simp] theorem periodWork_emt (s : State) : (periodWork s).emt = s.emt := rfl
@[simp] theorem periodWork_rwr (s : State) : (periodWork s).rwr = s.rwr := rfl
@[simp] theorem periodWork_fpt (s : State) : (periodWork s).fpt = s.fpt := rfl
@[simp] theorem periodWork_mem (s : State) : (periodWork s).mem = s.mem := rfl
@[simp] theorem periodWork_params (s : State) : (periodWork s).params = s.params := rfl
@[simp] theorem periodWork_pru (s : State) : (periodWork s).pru = s.pru := rfl

/-! ### moveTo -/

@[simp] theorem moveTo_pending (new : StationState) (s : State) : (moveTo new s).pending = s.pending := rfl
@[simp] theorem moveTo_pair (new : StationState) (s : State) : (moveTo new s).pair = s.pair := rfl
@[simp] theorem moveTo_now (new : StationState) (s : State) : (moveTo new s).now = s.now := rfl
@[simp] theorem moveTo_freeCount (new : StationState) (s : State) : (moveTo new s).freeCount = s.freeCount := rfl
@[simp] theorem moveTo_phase (new : StationState) (s : State) : (moveTo new s).phase = s.phase := rfl
@[simp] theorem moveTo_addr (new : StationState) (s : State) : (moveTo new s).addr = s.addr := rfl
@[simp] theorem moveTo_rating (new : StationState) (s : State) : (moveTo new s).rating = s.rating := rfl
@[simp] theorem moveTo_linkRate (new : StationState) (s : State) : (moveTo new s).linkRate = s.linkRate := rfl
@[simp] theorem moveTo_ccAux (new : StationState) (s : State) : (moveTo new s).ccAux = s.ccAux := rfl
@[simp] theorem moveTo_sbAux (new : StationState) (s : State) : (moveTo new s).sbAux = s.sbAux := rfl
@[simp] theorem moveTo_tripIn (new : StationState) (s : State) : (moveTo new s).tripIn = s.tripIn := rfl
@[simp] theorem moveTo_spt (new : StationState) (s : State) : (moveTo new s).spt = s.spt := rfl
@[simp] theorem moveTo_msu (new : StationState) (s : State) : (moveTo new s).msu = s.msu := rfl
@[simp] theorem moveTo_btr (new : StationState) (s : State) : (moveTo new s).btr = s.btr := rfl
@[simp] theorem moveTo_rfg (new : StationState) (s : State) : (moveTo new s).rfg = s.rfg := rfl
@[simp] theorem moveTo_mod (new : StationState) (s : State) : (moveTo new s).mod = s.mod := rfl
@[simp] theorem moveTo_emt (new : StationState) (s : State) : (moveTo new s).emt = s.emt := rfl
@[simp] theorem moveTo_rwr (new : StationState) (s : State) : (moveTo new s).rwr = s.rwr := rfl
@[simp] theorem moveTo_fpt (new : StationState) (s : State) : (moveTo new s).fpt = s.fpt := rfl
@[simp] theorem moveTo_mem (new : StationState) (s : State) : (moveTo new s).mem = s.mem := rfl
@[simp] theorem moveTo_params (new : StationState) (s : State) : (moveTo new s).params = s.params := rfl
@[simp] theorem moveTo_pru (new : StationState) (s : State) : (moveTo new s).pru = s.pru := rfl

/-! ### settled -/

@[simp] theorem settled_pending (s : State) : (settled s).pending = s.pending := rfl
@[simp] theorem settled_pair (s : State) : (settled s).pair = s.pair := rfl
@[simp] theorem settled_now (s : State) : (settled s).now = s.now := rfl
@[simp] theorem settled_freeCount (s : State) : (settled s).freeCount = s.freeCount := rfl
@[simp] theorem settled_phase (s : State) : (settled s).phase = s.phase := rfl
@[simp] theorem settled_addr (s : State) : (settled s).addr = s.addr := rfl
@[simp] theorem settled_rating (s : State) : (settled s).rating = s.rating := rfl
@[simp] theorem settled_linkRate (s : State) : (settled s).linkRate = s.linkRate := rfl
@[simp] theorem settled_ccAux (s : State) : (settled s).ccAux = s.ccAux := rfl
@[simp] theorem settled_sbAux (s : State) : (settled s).sbAux = s.sbAux := rfl
@[simp] theorem settled_tripIn (s : State) : (settled s).tripIn = s.tripIn := rfl
@[simp] theorem settled_spt (s : State) : (settled s).spt = s.spt := rfl
@[simp] theorem settled_msu (s : State) : (settled s).msu = s.msu := rfl
@[simp] theorem settled_rfg (s : State) : (settled s).rfg = s.rfg := rfl
@[simp] theorem settled_mod (s : State) : (settled s).mod = s.mod := rfl
@[simp] theorem settled_lkc (s : State) : (settled s).lkc = s.lkc := rfl
@[simp] theorem settled_pvw (s : State) : (settled s).pvw = s.pvw := rfl
@[simp] theorem settled_shc (s : State) : (settled s).shc = s.shc := rfl
@[simp] theorem settled_ssc (s : State) : (settled s).ssc = s.ssc := rfl
@[simp] theorem settled_hoc (s : State) : (settled s).hoc = s.hoc := rfl
@[simp] theorem settled_emt (s : State) : (settled s).emt = s.emt := rfl
@[simp] theorem settled_rwr (s : State) : (settled s).rwr = s.rwr := rfl
@[simp] theorem settled_fpt (s : State) : (settled s).fpt = s.fpt := rfl
@[simp] theorem settled_mem (s : State) : (settled s).mem = s.mem := rfl
@[simp] theorem settled_params (s : State) : (settled s).params = s.params := rfl
@[simp] theorem settled_pru (s : State) : (settled s).pru = s.pru := rfl

/-! ### orderContactor -/

@[simp] theorem orderContactor_pending (closed : Bool) (s : State) : (orderContactor closed s).pending = s.pending := rfl
@[simp] theorem orderContactor_pair (closed : Bool) (s : State) : (orderContactor closed s).pair = s.pair := rfl
@[simp] theorem orderContactor_now (closed : Bool) (s : State) : (orderContactor closed s).now = s.now := rfl
@[simp] theorem orderContactor_freeCount (closed : Bool) (s : State) : (orderContactor closed s).freeCount = s.freeCount := rfl
@[simp] theorem orderContactor_phase (closed : Bool) (s : State) : (orderContactor closed s).phase = s.phase := rfl
@[simp] theorem orderContactor_addr (closed : Bool) (s : State) : (orderContactor closed s).addr = s.addr := rfl
@[simp] theorem orderContactor_rating (closed : Bool) (s : State) : (orderContactor closed s).rating = s.rating := rfl
@[simp] theorem orderContactor_linkRate (closed : Bool) (s : State) : (orderContactor closed s).linkRate = s.linkRate := rfl
@[simp] theorem orderContactor_ccAux (closed : Bool) (s : State) : (orderContactor closed s).ccAux = s.ccAux := rfl
@[simp] theorem orderContactor_sbAux (closed : Bool) (s : State) : (orderContactor closed s).sbAux = s.sbAux := rfl
@[simp] theorem orderContactor_tripIn (closed : Bool) (s : State) : (orderContactor closed s).tripIn = s.tripIn := rfl
@[simp] theorem orderContactor_spt (closed : Bool) (s : State) : (orderContactor closed s).spt = s.spt := rfl
@[simp] theorem orderContactor_msu (closed : Bool) (s : State) : (orderContactor closed s).msu = s.msu := rfl
@[simp] theorem orderContactor_btr (closed : Bool) (s : State) : (orderContactor closed s).btr = s.btr := rfl
@[simp] theorem orderContactor_rfg (closed : Bool) (s : State) : (orderContactor closed s).rfg = s.rfg := rfl
@[simp] theorem orderContactor_mod (closed : Bool) (s : State) : (orderContactor closed s).mod = s.mod := rfl
@[simp] theorem orderContactor_lkc (closed : Bool) (s : State) : (orderContactor closed s).lkc = s.lkc := rfl
@[simp] theorem orderContactor_pvw (closed : Bool) (s : State) : (orderContactor closed s).pvw = s.pvw := rfl
@[simp] theorem orderContactor_shc (closed : Bool) (s : State) : (orderContactor closed s).shc = s.shc := rfl
@[simp] theorem orderContactor_ssc (closed : Bool) (s : State) : (orderContactor closed s).ssc = s.ssc := rfl
@[simp] theorem orderContactor_hoc (closed : Bool) (s : State) : (orderContactor closed s).hoc = s.hoc := rfl
@[simp] theorem orderContactor_emt (closed : Bool) (s : State) : (orderContactor closed s).emt = s.emt := rfl
@[simp] theorem orderContactor_rwr (closed : Bool) (s : State) : (orderContactor closed s).rwr = s.rwr := rfl
@[simp] theorem orderContactor_fpt (closed : Bool) (s : State) : (orderContactor closed s).fpt = s.fpt := rfl
@[simp] theorem orderContactor_mem (closed : Bool) (s : State) : (orderContactor closed s).mem = s.mem := rfl
@[simp] theorem orderContactor_params (closed : Bool) (s : State) : (orderContactor closed s).params = s.params := rfl
@[simp] theorem orderContactor_pru (closed : Bool) (s : State) : (orderContactor closed s).pru = s.pru := rfl

/-! ### clearClosed -/

@[simp] theorem clearClosed_pending (s : State) : (clearClosed s).pending = s.pending := rfl
@[simp] theorem clearClosed_pair (s : State) : (clearClosed s).pair = s.pair := rfl
@[simp] theorem clearClosed_now (s : State) : (clearClosed s).now = s.now := rfl
@[simp] theorem clearClosed_freeCount (s : State) : (clearClosed s).freeCount = s.freeCount := rfl
@[simp] theorem clearClosed_phase (s : State) : (clearClosed s).phase = s.phase := rfl
@[simp] theorem clearClosed_addr (s : State) : (clearClosed s).addr = s.addr := rfl
@[simp] theorem clearClosed_rating (s : State) : (clearClosed s).rating = s.rating := rfl
@[simp] theorem clearClosed_linkRate (s : State) : (clearClosed s).linkRate = s.linkRate := rfl
@[simp] theorem clearClosed_ccAux (s : State) : (clearClosed s).ccAux = s.ccAux := rfl
@[simp] theorem clearClosed_sbAux (s : State) : (clearClosed s).sbAux = s.sbAux := rfl
@[simp] theorem clearClosed_tripIn (s : State) : (clearClosed s).tripIn = s.tripIn := rfl
@[simp] theorem clearClosed_spt (s : State) : (clearClosed s).spt = s.spt := rfl
@[simp] theorem clearClosed_msu (s : State) : (clearClosed s).msu = s.msu := rfl
@[simp] theorem clearClosed_btr (s : State) : (clearClosed s).btr = s.btr := rfl
@[simp] theorem clearClosed_rfg (s : State) : (clearClosed s).rfg = s.rfg := rfl
@[simp] theorem clearClosed_mod (s : State) : (clearClosed s).mod = s.mod := rfl
@[simp] theorem clearClosed_lkc (s : State) : (clearClosed s).lkc = s.lkc := rfl
@[simp] theorem clearClosed_pvw (s : State) : (clearClosed s).pvw = s.pvw := rfl
@[simp] theorem clearClosed_shc (s : State) : (clearClosed s).shc = s.shc := rfl
@[simp] theorem clearClosed_syn (s : State) : (clearClosed s).syn = s.syn := rfl
@[simp] theorem clearClosed_hoc (s : State) : (clearClosed s).hoc = s.hoc := rfl
@[simp] theorem clearClosed_rwr (s : State) : (clearClosed s).rwr = s.rwr := rfl
@[simp] theorem clearClosed_fpt (s : State) : (clearClosed s).fpt = s.fpt := rfl
@[simp] theorem clearClosed_mem (s : State) : (clearClosed s).mem = s.mem := rfl
@[simp] theorem clearClosed_params (s : State) : (clearClosed s).params = s.params := rfl
@[simp] theorem clearClosed_pru (s : State) : (clearClosed s).pru = s.pru := rfl

/-! ### berthChanged -/

@[simp] theorem berthChanged_pending (old : BusState) (s : State) : (berthChanged old s).pending = s.pending := rfl
@[simp] theorem berthChanged_pair (old : BusState) (s : State) : (berthChanged old s).pair = s.pair := rfl
@[simp] theorem berthChanged_now (old : BusState) (s : State) : (berthChanged old s).now = s.now := rfl
@[simp] theorem berthChanged_freeCount (old : BusState) (s : State) : (berthChanged old s).freeCount = s.freeCount := rfl
@[simp] theorem berthChanged_phase (old : BusState) (s : State) : (berthChanged old s).phase = s.phase := rfl
@[simp] theorem berthChanged_addr (old : BusState) (s : State) : (berthChanged old s).addr = s.addr := rfl
@[simp] theorem berthChanged_rating (old : BusState) (s : State) : (berthChanged old s).rating = s.rating := rfl
@[simp] theorem berthChanged_linkRate (old : BusState) (s : State) : (berthChanged old s).linkRate = s.linkRate := rfl
@[simp] theorem berthChanged_ccAux (old : BusState) (s : State) : (berthChanged old s).ccAux = s.ccAux := rfl
@[simp] theorem berthChanged_sbAux (old : BusState) (s : State) : (berthChanged old s).sbAux = s.sbAux := rfl
@[simp] theorem berthChanged_tripIn (old : BusState) (s : State) : (berthChanged old s).tripIn = s.tripIn := rfl
@[simp] theorem berthChanged_spt (old : BusState) (s : State) : (berthChanged old s).spt = s.spt := rfl
@[simp] theorem berthChanged_msu (old : BusState) (s : State) : (berthChanged old s).msu = s.msu := rfl
@[simp] theorem berthChanged_btr (old : BusState) (s : State) : (berthChanged old s).btr = s.btr := rfl
@[simp] theorem berthChanged_rfg (old : BusState) (s : State) : (berthChanged old s).rfg = s.rfg := rfl
@[simp] theorem berthChanged_mod (old : BusState) (s : State) : (berthChanged old s).mod = s.mod := rfl
@[simp] theorem berthChanged_pvw (old : BusState) (s : State) : (berthChanged old s).pvw = s.pvw := rfl
@[simp] theorem berthChanged_shc (old : BusState) (s : State) : (berthChanged old s).shc = s.shc := rfl
@[simp] theorem berthChanged_ssc (old : BusState) (s : State) : (berthChanged old s).ssc = s.ssc := rfl
@[simp] theorem berthChanged_hoc (old : BusState) (s : State) : (berthChanged old s).hoc = s.hoc := rfl
@[simp] theorem berthChanged_emt (old : BusState) (s : State) : (berthChanged old s).emt = s.emt := rfl
@[simp] theorem berthChanged_rwr (old : BusState) (s : State) : (berthChanged old s).rwr = s.rwr := rfl
@[simp] theorem berthChanged_fpt (old : BusState) (s : State) : (berthChanged old s).fpt = s.fpt := rfl
@[simp] theorem berthChanged_mem (old : BusState) (s : State) : (berthChanged old s).mem = s.mem := rfl
@[simp] theorem berthChanged_params (old : BusState) (s : State) : (berthChanged old s).params = s.params := rfl
@[simp] theorem berthChanged_pru (old : BusState) (s : State) : (berthChanged old s).pru = s.pru := rfl

/-! ### joinJudged -/

@[simp] theorem joinJudged_pending (s : State) : (joinJudged s).pending = s.pending := rfl
@[simp] theorem joinJudged_pair (s : State) : (joinJudged s).pair = s.pair := rfl
@[simp] theorem joinJudged_now (s : State) : (joinJudged s).now = s.now := rfl
@[simp] theorem joinJudged_freeCount (s : State) : (joinJudged s).freeCount = s.freeCount := rfl
@[simp] theorem joinJudged_phase (s : State) : (joinJudged s).phase = s.phase := rfl
@[simp] theorem joinJudged_addr (s : State) : (joinJudged s).addr = s.addr := rfl
@[simp] theorem joinJudged_rating (s : State) : (joinJudged s).rating = s.rating := rfl
@[simp] theorem joinJudged_linkRate (s : State) : (joinJudged s).linkRate = s.linkRate := rfl
@[simp] theorem joinJudged_ccAux (s : State) : (joinJudged s).ccAux = s.ccAux := rfl
@[simp] theorem joinJudged_sbAux (s : State) : (joinJudged s).sbAux = s.sbAux := rfl
@[simp] theorem joinJudged_tripIn (s : State) : (joinJudged s).tripIn = s.tripIn := rfl
@[simp] theorem joinJudged_spt (s : State) : (joinJudged s).spt = s.spt := rfl
@[simp] theorem joinJudged_msu (s : State) : (joinJudged s).msu = s.msu := rfl
@[simp] theorem joinJudged_btr (s : State) : (joinJudged s).btr = s.btr := rfl
@[simp] theorem joinJudged_rfg (s : State) : (joinJudged s).rfg = s.rfg := rfl
@[simp] theorem joinJudged_mod (s : State) : (joinJudged s).mod = s.mod := rfl
@[simp] theorem joinJudged_lkc (s : State) : (joinJudged s).lkc = s.lkc := rfl
@[simp] theorem joinJudged_pvw (s : State) : (joinJudged s).pvw = s.pvw := rfl
@[simp] theorem joinJudged_shc (s : State) : (joinJudged s).shc = s.shc := rfl
@[simp] theorem joinJudged_ssc (s : State) : (joinJudged s).ssc = s.ssc := rfl
@[simp] theorem joinJudged_hoc (s : State) : (joinJudged s).hoc = s.hoc := rfl
@[simp] theorem joinJudged_emt (s : State) : (joinJudged s).emt = s.emt := rfl
@[simp] theorem joinJudged_rwr (s : State) : (joinJudged s).rwr = s.rwr := rfl
@[simp] theorem joinJudged_fpt (s : State) : (joinJudged s).fpt = s.fpt := rfl
@[simp] theorem joinJudged_mem (s : State) : (joinJudged s).mem = s.mem := rfl
@[simp] theorem joinJudged_params (s : State) : (joinJudged s).params = s.params := rfl
@[simp] theorem joinJudged_pru (s : State) : (joinJudged s).pru = s.pru := rfl

/-! ### partJudged -/

@[simp] theorem partJudged_pending (s : State) : (partJudged s).pending = s.pending := rfl
@[simp] theorem partJudged_pair (s : State) : (partJudged s).pair = s.pair := rfl
@[simp] theorem partJudged_now (s : State) : (partJudged s).now = s.now := rfl
@[simp] theorem partJudged_freeCount (s : State) : (partJudged s).freeCount = s.freeCount := rfl
@[simp] theorem partJudged_phase (s : State) : (partJudged s).phase = s.phase := rfl
@[simp] theorem partJudged_addr (s : State) : (partJudged s).addr = s.addr := rfl
@[simp] theorem partJudged_rating (s : State) : (partJudged s).rating = s.rating := rfl
@[simp] theorem partJudged_linkRate (s : State) : (partJudged s).linkRate = s.linkRate := rfl
@[simp] theorem partJudged_ccAux (s : State) : (partJudged s).ccAux = s.ccAux := rfl
@[simp] theorem partJudged_sbAux (s : State) : (partJudged s).sbAux = s.sbAux := rfl
@[simp] theorem partJudged_tripIn (s : State) : (partJudged s).tripIn = s.tripIn := rfl
@[simp] theorem partJudged_spt (s : State) : (partJudged s).spt = s.spt := rfl
@[simp] theorem partJudged_msu (s : State) : (partJudged s).msu = s.msu := rfl
@[simp] theorem partJudged_btr (s : State) : (partJudged s).btr = s.btr := rfl
@[simp] theorem partJudged_rfg (s : State) : (partJudged s).rfg = s.rfg := rfl
@[simp] theorem partJudged_mod (s : State) : (partJudged s).mod = s.mod := rfl
@[simp] theorem partJudged_lkc (s : State) : (partJudged s).lkc = s.lkc := rfl
@[simp] theorem partJudged_pvw (s : State) : (partJudged s).pvw = s.pvw := rfl
@[simp] theorem partJudged_shc (s : State) : (partJudged s).shc = s.shc := rfl
@[simp] theorem partJudged_ssc (s : State) : (partJudged s).ssc = s.ssc := rfl
@[simp] theorem partJudged_syn (s : State) : (partJudged s).syn = s.syn := rfl
@[simp] theorem partJudged_emt (s : State) : (partJudged s).emt = s.emt := rfl
@[simp] theorem partJudged_rwr (s : State) : (partJudged s).rwr = s.rwr := rfl
@[simp] theorem partJudged_fpt (s : State) : (partJudged s).fpt = s.fpt := rfl
@[simp] theorem partJudged_mem (s : State) : (partJudged s).mem = s.mem := rfl
@[simp] theorem partJudged_params (s : State) : (partJudged s).params = s.params := rfl
@[simp] theorem partJudged_pru (s : State) : (partJudged s).pru = s.pru := rfl

/-! ### judgeTrip -/

@[simp] theorem judgeTrip_pending (s : State) : (judgeTrip s).pending = s.pending := rfl
@[simp] theorem judgeTrip_pair (s : State) : (judgeTrip s).pair = s.pair := rfl
@[simp] theorem judgeTrip_now (s : State) : (judgeTrip s).now = s.now := rfl
@[simp] theorem judgeTrip_freeCount (s : State) : (judgeTrip s).freeCount = s.freeCount := rfl
@[simp] theorem judgeTrip_phase (s : State) : (judgeTrip s).phase = s.phase := rfl
@[simp] theorem judgeTrip_addr (s : State) : (judgeTrip s).addr = s.addr := rfl
@[simp] theorem judgeTrip_rating (s : State) : (judgeTrip s).rating = s.rating := rfl
@[simp] theorem judgeTrip_linkRate (s : State) : (judgeTrip s).linkRate = s.linkRate := rfl
@[simp] theorem judgeTrip_ccAux (s : State) : (judgeTrip s).ccAux = s.ccAux := rfl
@[simp] theorem judgeTrip_sbAux (s : State) : (judgeTrip s).sbAux = s.sbAux := rfl
@[simp] theorem judgeTrip_tripIn (s : State) : (judgeTrip s).tripIn = s.tripIn := rfl
@[simp] theorem judgeTrip_spt (s : State) : (judgeTrip s).spt = s.spt := rfl
@[simp] theorem judgeTrip_msu (s : State) : (judgeTrip s).msu = s.msu := rfl
@[simp] theorem judgeTrip_btr (s : State) : (judgeTrip s).btr = s.btr := rfl
@[simp] theorem judgeTrip_rfg (s : State) : (judgeTrip s).rfg = s.rfg := rfl
@[simp] theorem judgeTrip_mod (s : State) : (judgeTrip s).mod = s.mod := rfl
@[simp] theorem judgeTrip_lkc (s : State) : (judgeTrip s).lkc = s.lkc := rfl
@[simp] theorem judgeTrip_pvw (s : State) : (judgeTrip s).pvw = s.pvw := rfl
@[simp] theorem judgeTrip_shc (s : State) : (judgeTrip s).shc = s.shc := rfl
@[simp] theorem judgeTrip_ssc (s : State) : (judgeTrip s).ssc = s.ssc := rfl
@[simp] theorem judgeTrip_syn (s : State) : (judgeTrip s).syn = s.syn := rfl
@[simp] theorem judgeTrip_emt (s : State) : (judgeTrip s).emt = s.emt := rfl
@[simp] theorem judgeTrip_rwr (s : State) : (judgeTrip s).rwr = s.rwr := rfl
@[simp] theorem judgeTrip_fpt (s : State) : (judgeTrip s).fpt = s.fpt := rfl
@[simp] theorem judgeTrip_mem (s : State) : (judgeTrip s).mem = s.mem := rfl
@[simp] theorem judgeTrip_params (s : State) : (judgeTrip s).params = s.params := rfl
@[simp] theorem judgeTrip_pru (s : State) : (judgeTrip s).pru = s.pru := rfl

/-! ### handoverWork -/

@[simp] theorem handoverWork_pending (s : State) : (handoverWork s).pending = s.pending := rfl
@[simp] theorem handoverWork_pair (s : State) : (handoverWork s).pair = s.pair := rfl
@[simp] theorem handoverWork_now (s : State) : (handoverWork s).now = s.now := rfl
@[simp] theorem handoverWork_freeCount (s : State) : (handoverWork s).freeCount = s.freeCount := rfl
@[simp] theorem handoverWork_phase (s : State) : (handoverWork s).phase = s.phase := rfl
@[simp] theorem handoverWork_addr (s : State) : (handoverWork s).addr = s.addr := rfl
@[simp] theorem handoverWork_rating (s : State) : (handoverWork s).rating = s.rating := rfl
@[simp] theorem handoverWork_linkRate (s : State) : (handoverWork s).linkRate = s.linkRate := rfl
@[simp] theorem handoverWork_ccAux (s : State) : (handoverWork s).ccAux = s.ccAux := rfl
@[simp] theorem handoverWork_sbAux (s : State) : (handoverWork s).sbAux = s.sbAux := rfl
@[simp] theorem handoverWork_tripIn (s : State) : (handoverWork s).tripIn = s.tripIn := rfl
@[simp] theorem handoverWork_spt (s : State) : (handoverWork s).spt = s.spt := rfl
@[simp] theorem handoverWork_msu (s : State) : (handoverWork s).msu = s.msu := rfl
@[simp] theorem handoverWork_btr (s : State) : (handoverWork s).btr = s.btr := rfl
@[simp] theorem handoverWork_rfg (s : State) : (handoverWork s).rfg = s.rfg := rfl
@[simp] theorem handoverWork_mod (s : State) : (handoverWork s).mod = s.mod := rfl
@[simp] theorem handoverWork_lkc (s : State) : (handoverWork s).lkc = s.lkc := rfl
@[simp] theorem handoverWork_pvw (s : State) : (handoverWork s).pvw = s.pvw := rfl
@[simp] theorem handoverWork_shc (s : State) : (handoverWork s).shc = s.shc := rfl
@[simp] theorem handoverWork_ssc (s : State) : (handoverWork s).ssc = s.ssc := rfl
@[simp] theorem handoverWork_syn (s : State) : (handoverWork s).syn = s.syn := rfl
@[simp] theorem handoverWork_emt (s : State) : (handoverWork s).emt = s.emt := rfl
@[simp] theorem handoverWork_rwr (s : State) : (handoverWork s).rwr = s.rwr := rfl
@[simp] theorem handoverWork_fpt (s : State) : (handoverWork s).fpt = s.fpt := rfl
@[simp] theorem handoverWork_mem (s : State) : (handoverWork s).mem = s.mem := rfl
@[simp] theorem handoverWork_params (s : State) : (handoverWork s).params = s.params := rfl
@[simp] theorem handoverWork_pru (s : State) : (handoverWork s).pru = s.pru := rfl

/-! ### sharingWork -/

@[simp] theorem sharingWork_pending (s : State) : (sharingWork s).pending = s.pending := rfl
@[simp] theorem sharingWork_pair (s : State) : (sharingWork s).pair = s.pair := rfl
@[simp] theorem sharingWork_now (s : State) : (sharingWork s).now = s.now := rfl
@[simp] theorem sharingWork_freeCount (s : State) : (sharingWork s).freeCount = s.freeCount := rfl
@[simp] theorem sharingWork_phase (s : State) : (sharingWork s).phase = s.phase := rfl
@[simp] theorem sharingWork_addr (s : State) : (sharingWork s).addr = s.addr := rfl
@[simp] theorem sharingWork_rating (s : State) : (sharingWork s).rating = s.rating := rfl
@[simp] theorem sharingWork_linkRate (s : State) : (sharingWork s).linkRate = s.linkRate := rfl
@[simp] theorem sharingWork_ccAux (s : State) : (sharingWork s).ccAux = s.ccAux := rfl
@[simp] theorem sharingWork_sbAux (s : State) : (sharingWork s).sbAux = s.sbAux := rfl
@[simp] theorem sharingWork_tripIn (s : State) : (sharingWork s).tripIn = s.tripIn := rfl
@[simp] theorem sharingWork_spt (s : State) : (sharingWork s).spt = s.spt := rfl
@[simp] theorem sharingWork_msu (s : State) : (sharingWork s).msu = s.msu := rfl
@[simp] theorem sharingWork_btr (s : State) : (sharingWork s).btr = s.btr := rfl
@[simp] theorem sharingWork_rfg (s : State) : (sharingWork s).rfg = s.rfg := rfl
@[simp] theorem sharingWork_mod (s : State) : (sharingWork s).mod = s.mod := rfl
@[simp] theorem sharingWork_lkc (s : State) : (sharingWork s).lkc = s.lkc := rfl
@[simp] theorem sharingWork_pvw (s : State) : (sharingWork s).pvw = s.pvw := rfl
@[simp] theorem sharingWork_ssc (s : State) : (sharingWork s).ssc = s.ssc := rfl
@[simp] theorem sharingWork_syn (s : State) : (sharingWork s).syn = s.syn := rfl
@[simp] theorem sharingWork_hoc (s : State) : (sharingWork s).hoc = s.hoc := rfl
@[simp] theorem sharingWork_emt (s : State) : (sharingWork s).emt = s.emt := rfl
@[simp] theorem sharingWork_rwr (s : State) : (sharingWork s).rwr = s.rwr := rfl
@[simp] theorem sharingWork_fpt (s : State) : (sharingWork s).fpt = s.fpt := rfl
@[simp] theorem sharingWork_mem (s : State) : (sharingWork s).mem = s.mem := rfl
@[simp] theorem sharingWork_params (s : State) : (sharingWork s).params = s.params := rfl
@[simp] theorem sharingWork_pru (s : State) : (sharingWork s).pru = s.pru := rfl

/-! ### restorationWork -/

@[simp] theorem restorationWork_pending (s : State) : (restorationWork s).pending = s.pending := rfl
@[simp] theorem restorationWork_pair (s : State) : (restorationWork s).pair = s.pair := rfl
@[simp] theorem restorationWork_now (s : State) : (restorationWork s).now = s.now := rfl
@[simp] theorem restorationWork_freeCount (s : State) : (restorationWork s).freeCount = s.freeCount := rfl
@[simp] theorem restorationWork_phase (s : State) : (restorationWork s).phase = s.phase := rfl
@[simp] theorem restorationWork_addr (s : State) : (restorationWork s).addr = s.addr := rfl
@[simp] theorem restorationWork_rating (s : State) : (restorationWork s).rating = s.rating := rfl
@[simp] theorem restorationWork_linkRate (s : State) : (restorationWork s).linkRate = s.linkRate := rfl
@[simp] theorem restorationWork_ccAux (s : State) : (restorationWork s).ccAux = s.ccAux := rfl
@[simp] theorem restorationWork_sbAux (s : State) : (restorationWork s).sbAux = s.sbAux := rfl
@[simp] theorem restorationWork_tripIn (s : State) : (restorationWork s).tripIn = s.tripIn := rfl
@[simp] theorem restorationWork_spt (s : State) : (restorationWork s).spt = s.spt := rfl
@[simp] theorem restorationWork_msu (s : State) : (restorationWork s).msu = s.msu := rfl
@[simp] theorem restorationWork_btr (s : State) : (restorationWork s).btr = s.btr := rfl
@[simp] theorem restorationWork_rfg (s : State) : (restorationWork s).rfg = s.rfg := rfl
@[simp] theorem restorationWork_mod (s : State) : (restorationWork s).mod = s.mod := rfl
@[simp] theorem restorationWork_lkc (s : State) : (restorationWork s).lkc = s.lkc := rfl
@[simp] theorem restorationWork_pvw (s : State) : (restorationWork s).pvw = s.pvw := rfl
@[simp] theorem restorationWork_ssc (s : State) : (restorationWork s).ssc = s.ssc := rfl
@[simp] theorem restorationWork_syn (s : State) : (restorationWork s).syn = s.syn := rfl
@[simp] theorem restorationWork_hoc (s : State) : (restorationWork s).hoc = s.hoc := rfl
@[simp] theorem restorationWork_emt (s : State) : (restorationWork s).emt = s.emt := rfl
@[simp] theorem restorationWork_rwr (s : State) : (restorationWork s).rwr = s.rwr := rfl
@[simp] theorem restorationWork_fpt (s : State) : (restorationWork s).fpt = s.fpt := rfl
@[simp] theorem restorationWork_mem (s : State) : (restorationWork s).mem = s.mem := rfl
@[simp] theorem restorationWork_params (s : State) : (restorationWork s).params = s.params := rfl
@[simp] theorem restorationWork_pru (s : State) : (restorationWork s).pru = s.pru := rfl

/-! ### integrate -/

@[simp] theorem integrate_pending (p : Int) (s : State) : (integrate p s).pending = s.pending := rfl
@[simp] theorem integrate_pair (p : Int) (s : State) : (integrate p s).pair = s.pair := rfl
@[simp] theorem integrate_now (p : Int) (s : State) : (integrate p s).now = s.now := rfl
@[simp] theorem integrate_freeCount (p : Int) (s : State) : (integrate p s).freeCount = s.freeCount := rfl
@[simp] theorem integrate_phase (p : Int) (s : State) : (integrate p s).phase = s.phase := rfl
@[simp] theorem integrate_addr (p : Int) (s : State) : (integrate p s).addr = s.addr := rfl
@[simp] theorem integrate_rating (p : Int) (s : State) : (integrate p s).rating = s.rating := rfl
@[simp] theorem integrate_linkRate (p : Int) (s : State) : (integrate p s).linkRate = s.linkRate := rfl
@[simp] theorem integrate_ccAux (p : Int) (s : State) : (integrate p s).ccAux = s.ccAux := rfl
@[simp] theorem integrate_sbAux (p : Int) (s : State) : (integrate p s).sbAux = s.sbAux := rfl
@[simp] theorem integrate_tripIn (p : Int) (s : State) : (integrate p s).tripIn = s.tripIn := rfl
@[simp] theorem integrate_spt (p : Int) (s : State) : (integrate p s).spt = s.spt := rfl
@[simp] theorem integrate_msu (p : Int) (s : State) : (integrate p s).msu = s.msu := rfl
@[simp] theorem integrate_btr (p : Int) (s : State) : (integrate p s).btr = s.btr := rfl
@[simp] theorem integrate_rfg (p : Int) (s : State) : (integrate p s).rfg = s.rfg := rfl
@[simp] theorem integrate_mod (p : Int) (s : State) : (integrate p s).mod = s.mod := rfl
@[simp] theorem integrate_lkc (p : Int) (s : State) : (integrate p s).lkc = s.lkc := rfl
@[simp] theorem integrate_pvw (p : Int) (s : State) : (integrate p s).pvw = s.pvw := rfl
@[simp] theorem integrate_shc (p : Int) (s : State) : (integrate p s).shc = s.shc := rfl
@[simp] theorem integrate_ssc (p : Int) (s : State) : (integrate p s).ssc = s.ssc := rfl
@[simp] theorem integrate_syn (p : Int) (s : State) : (integrate p s).syn = s.syn := rfl
@[simp] theorem integrate_hoc (p : Int) (s : State) : (integrate p s).hoc = s.hoc := rfl
@[simp] theorem integrate_rwr (p : Int) (s : State) : (integrate p s).rwr = s.rwr := rfl
@[simp] theorem integrate_fpt (p : Int) (s : State) : (integrate p s).fpt = s.fpt := rfl
@[simp] theorem integrate_mem (p : Int) (s : State) : (integrate p s).mem = s.mem := rfl
@[simp] theorem integrate_params (p : Int) (s : State) : (integrate p s).params = s.params := rfl
@[simp] theorem integrate_pru (p : Int) (s : State) : (integrate p s).pru = s.pru := rfl

/-! ### tracked -/

@[simp] theorem tracked_pending (r : Sample) (k : Nat) (e : SampleEvents) (s : State) : (tracked r k e s).pending = s.pending := rfl
@[simp] theorem tracked_pair (r : Sample) (k : Nat) (e : SampleEvents) (s : State) : (tracked r k e s).pair = s.pair := rfl
@[simp] theorem tracked_now (r : Sample) (k : Nat) (e : SampleEvents) (s : State) : (tracked r k e s).now = s.now := rfl
@[simp] theorem tracked_freeCount (r : Sample) (k : Nat) (e : SampleEvents) (s : State) : (tracked r k e s).freeCount = s.freeCount := rfl
@[simp] theorem tracked_phase (r : Sample) (k : Nat) (e : SampleEvents) (s : State) : (tracked r k e s).phase = s.phase := rfl
@[simp] theorem tracked_addr (r : Sample) (k : Nat) (e : SampleEvents) (s : State) : (tracked r k e s).addr = s.addr := rfl
@[simp] theorem tracked_rating (r : Sample) (k : Nat) (e : SampleEvents) (s : State) : (tracked r k e s).rating = s.rating := rfl
@[simp] theorem tracked_linkRate (r : Sample) (k : Nat) (e : SampleEvents) (s : State) : (tracked r k e s).linkRate = s.linkRate := rfl
@[simp] theorem tracked_ccAux (r : Sample) (k : Nat) (e : SampleEvents) (s : State) : (tracked r k e s).ccAux = s.ccAux := rfl
@[simp] theorem tracked_sbAux (r : Sample) (k : Nat) (e : SampleEvents) (s : State) : (tracked r k e s).sbAux = s.sbAux := rfl
@[simp] theorem tracked_tripIn (r : Sample) (k : Nat) (e : SampleEvents) (s : State) : (tracked r k e s).tripIn = s.tripIn := rfl
@[simp] theorem tracked_spt (r : Sample) (k : Nat) (e : SampleEvents) (s : State) : (tracked r k e s).spt = s.spt := rfl
@[simp] theorem tracked_rfg (r : Sample) (k : Nat) (e : SampleEvents) (s : State) : (tracked r k e s).rfg = s.rfg := rfl
@[simp] theorem tracked_mod (r : Sample) (k : Nat) (e : SampleEvents) (s : State) : (tracked r k e s).mod = s.mod := rfl
@[simp] theorem tracked_lkc (r : Sample) (k : Nat) (e : SampleEvents) (s : State) : (tracked r k e s).lkc = s.lkc := rfl
@[simp] theorem tracked_pvw (r : Sample) (k : Nat) (e : SampleEvents) (s : State) : (tracked r k e s).pvw = s.pvw := rfl
@[simp] theorem tracked_shc (r : Sample) (k : Nat) (e : SampleEvents) (s : State) : (tracked r k e s).shc = s.shc := rfl
@[simp] theorem tracked_ssc (r : Sample) (k : Nat) (e : SampleEvents) (s : State) : (tracked r k e s).ssc = s.ssc := rfl
@[simp] theorem tracked_syn (r : Sample) (k : Nat) (e : SampleEvents) (s : State) : (tracked r k e s).syn = s.syn := rfl
@[simp] theorem tracked_hoc (r : Sample) (k : Nat) (e : SampleEvents) (s : State) : (tracked r k e s).hoc = s.hoc := rfl
@[simp] theorem tracked_emt (r : Sample) (k : Nat) (e : SampleEvents) (s : State) : (tracked r k e s).emt = s.emt := rfl
@[simp] theorem tracked_rwr (r : Sample) (k : Nat) (e : SampleEvents) (s : State) : (tracked r k e s).rwr = s.rwr := rfl
@[simp] theorem tracked_fpt (r : Sample) (k : Nat) (e : SampleEvents) (s : State) : (tracked r k e s).fpt = s.fpt := rfl
@[simp] theorem tracked_mem (r : Sample) (k : Nat) (e : SampleEvents) (s : State) : (tracked r k e s).mem = s.mem := rfl
@[simp] theorem tracked_params (r : Sample) (k : Nat) (e : SampleEvents) (s : State) : (tracked r k e s).params = s.params := rfl
@[simp] theorem tracked_pru (r : Sample) (k : Nat) (e : SampleEvents) (s : State) : (tracked r k e s).pru = s.pru := rfl

/-! ### issueOp -/

@[simp] theorem issueOp_pending (op : WriterOp) (s : State) : (issueOp op s).pending = s.pending := rfl
@[simp] theorem issueOp_pair (op : WriterOp) (s : State) : (issueOp op s).pair = s.pair := rfl
@[simp] theorem issueOp_now (op : WriterOp) (s : State) : (issueOp op s).now = s.now := rfl
@[simp] theorem issueOp_freeCount (op : WriterOp) (s : State) : (issueOp op s).freeCount = s.freeCount := rfl
@[simp] theorem issueOp_phase (op : WriterOp) (s : State) : (issueOp op s).phase = s.phase := rfl
@[simp] theorem issueOp_addr (op : WriterOp) (s : State) : (issueOp op s).addr = s.addr := rfl
@[simp] theorem issueOp_rating (op : WriterOp) (s : State) : (issueOp op s).rating = s.rating := rfl
@[simp] theorem issueOp_linkRate (op : WriterOp) (s : State) : (issueOp op s).linkRate = s.linkRate := rfl
@[simp] theorem issueOp_ccAux (op : WriterOp) (s : State) : (issueOp op s).ccAux = s.ccAux := rfl
@[simp] theorem issueOp_sbAux (op : WriterOp) (s : State) : (issueOp op s).sbAux = s.sbAux := rfl
@[simp] theorem issueOp_tripIn (op : WriterOp) (s : State) : (issueOp op s).tripIn = s.tripIn := rfl
@[simp] theorem issueOp_spt (op : WriterOp) (s : State) : (issueOp op s).spt = s.spt := rfl
@[simp] theorem issueOp_msu (op : WriterOp) (s : State) : (issueOp op s).msu = s.msu := rfl
@[simp] theorem issueOp_btr (op : WriterOp) (s : State) : (issueOp op s).btr = s.btr := rfl
@[simp] theorem issueOp_rfg (op : WriterOp) (s : State) : (issueOp op s).rfg = s.rfg := rfl
@[simp] theorem issueOp_mod (op : WriterOp) (s : State) : (issueOp op s).mod = s.mod := rfl
@[simp] theorem issueOp_lkc (op : WriterOp) (s : State) : (issueOp op s).lkc = s.lkc := rfl
@[simp] theorem issueOp_pvw (op : WriterOp) (s : State) : (issueOp op s).pvw = s.pvw := rfl
@[simp] theorem issueOp_shc (op : WriterOp) (s : State) : (issueOp op s).shc = s.shc := rfl
@[simp] theorem issueOp_ssc (op : WriterOp) (s : State) : (issueOp op s).ssc = s.ssc := rfl
@[simp] theorem issueOp_syn (op : WriterOp) (s : State) : (issueOp op s).syn = s.syn := rfl
@[simp] theorem issueOp_hoc (op : WriterOp) (s : State) : (issueOp op s).hoc = s.hoc := rfl
@[simp] theorem issueOp_emt (op : WriterOp) (s : State) : (issueOp op s).emt = s.emt := rfl
@[simp] theorem issueOp_params (op : WriterOp) (s : State) : (issueOp op s).params = s.params := rfl
@[simp] theorem issueOp_pru (op : WriterOp) (s : State) : (issueOp op s).pru = s.pru := rfl

/-! ### recordWritten -/

@[simp] theorem recordWritten_pending (sector offset : Nat) (s : State) : (recordWritten sector offset s).pending = s.pending := rfl
@[simp] theorem recordWritten_pair (sector offset : Nat) (s : State) : (recordWritten sector offset s).pair = s.pair := rfl
@[simp] theorem recordWritten_now (sector offset : Nat) (s : State) : (recordWritten sector offset s).now = s.now := rfl
@[simp] theorem recordWritten_freeCount (sector offset : Nat) (s : State) : (recordWritten sector offset s).freeCount = s.freeCount := rfl
@[simp] theorem recordWritten_phase (sector offset : Nat) (s : State) : (recordWritten sector offset s).phase = s.phase := rfl
@[simp] theorem recordWritten_addr (sector offset : Nat) (s : State) : (recordWritten sector offset s).addr = s.addr := rfl
@[simp] theorem recordWritten_rating (sector offset : Nat) (s : State) : (recordWritten sector offset s).rating = s.rating := rfl
@[simp] theorem recordWritten_linkRate (sector offset : Nat) (s : State) : (recordWritten sector offset s).linkRate = s.linkRate := rfl
@[simp] theorem recordWritten_ccAux (sector offset : Nat) (s : State) : (recordWritten sector offset s).ccAux = s.ccAux := rfl
@[simp] theorem recordWritten_sbAux (sector offset : Nat) (s : State) : (recordWritten sector offset s).sbAux = s.sbAux := rfl
@[simp] theorem recordWritten_tripIn (sector offset : Nat) (s : State) : (recordWritten sector offset s).tripIn = s.tripIn := rfl
@[simp] theorem recordWritten_spt (sector offset : Nat) (s : State) : (recordWritten sector offset s).spt = s.spt := rfl
@[simp] theorem recordWritten_msu (sector offset : Nat) (s : State) : (recordWritten sector offset s).msu = s.msu := rfl
@[simp] theorem recordWritten_btr (sector offset : Nat) (s : State) : (recordWritten sector offset s).btr = s.btr := rfl
@[simp] theorem recordWritten_rfg (sector offset : Nat) (s : State) : (recordWritten sector offset s).rfg = s.rfg := rfl
@[simp] theorem recordWritten_mod (sector offset : Nat) (s : State) : (recordWritten sector offset s).mod = s.mod := rfl
@[simp] theorem recordWritten_lkc (sector offset : Nat) (s : State) : (recordWritten sector offset s).lkc = s.lkc := rfl
@[simp] theorem recordWritten_pvw (sector offset : Nat) (s : State) : (recordWritten sector offset s).pvw = s.pvw := rfl
@[simp] theorem recordWritten_shc (sector offset : Nat) (s : State) : (recordWritten sector offset s).shc = s.shc := rfl
@[simp] theorem recordWritten_ssc (sector offset : Nat) (s : State) : (recordWritten sector offset s).ssc = s.ssc := rfl
@[simp] theorem recordWritten_syn (sector offset : Nat) (s : State) : (recordWritten sector offset s).syn = s.syn := rfl
@[simp] theorem recordWritten_hoc (sector offset : Nat) (s : State) : (recordWritten sector offset s).hoc = s.hoc := rfl
@[simp] theorem recordWritten_emt (sector offset : Nat) (s : State) : (recordWritten sector offset s).emt = s.emt := rfl
@[simp] theorem recordWritten_fpt (sector offset : Nat) (s : State) : (recordWritten sector offset s).fpt = s.fpt := rfl
@[simp] theorem recordWritten_mem (sector offset : Nat) (s : State) : (recordWritten sector offset s).mem = s.mem := rfl
@[simp] theorem recordWritten_params (sector offset : Nat) (s : State) : (recordWritten sector offset s).params = s.params := rfl
@[simp] theorem recordWritten_pru (sector offset : Nat) (s : State) : (recordWritten sector offset s).pru = s.pru := rfl

/-! ### exitMade -/

@[simp] theorem exitMade_pending (s : State) : (exitMade s).pending = s.pending := rfl
@[simp] theorem exitMade_pair (s : State) : (exitMade s).pair = s.pair := rfl
@[simp] theorem exitMade_now (s : State) : (exitMade s).now = s.now := rfl
@[simp] theorem exitMade_freeCount (s : State) : (exitMade s).freeCount = s.freeCount := rfl
@[simp] theorem exitMade_phase (s : State) : (exitMade s).phase = s.phase := rfl
@[simp] theorem exitMade_addr (s : State) : (exitMade s).addr = s.addr := rfl
@[simp] theorem exitMade_rating (s : State) : (exitMade s).rating = s.rating := rfl
@[simp] theorem exitMade_linkRate (s : State) : (exitMade s).linkRate = s.linkRate := rfl
@[simp] theorem exitMade_ccAux (s : State) : (exitMade s).ccAux = s.ccAux := rfl
@[simp] theorem exitMade_sbAux (s : State) : (exitMade s).sbAux = s.sbAux := rfl
@[simp] theorem exitMade_tripIn (s : State) : (exitMade s).tripIn = s.tripIn := rfl
@[simp] theorem exitMade_spt (s : State) : (exitMade s).spt = s.spt := rfl
@[simp] theorem exitMade_msu (s : State) : (exitMade s).msu = s.msu := rfl
@[simp] theorem exitMade_btr (s : State) : (exitMade s).btr = s.btr := rfl
@[simp] theorem exitMade_rfg (s : State) : (exitMade s).rfg = s.rfg := rfl
@[simp] theorem exitMade_mod (s : State) : (exitMade s).mod = s.mod := rfl
@[simp] theorem exitMade_lkc (s : State) : (exitMade s).lkc = s.lkc := rfl
@[simp] theorem exitMade_pvw (s : State) : (exitMade s).pvw = s.pvw := rfl
@[simp] theorem exitMade_shc (s : State) : (exitMade s).shc = s.shc := rfl
@[simp] theorem exitMade_ssc (s : State) : (exitMade s).ssc = s.ssc := rfl
@[simp] theorem exitMade_syn (s : State) : (exitMade s).syn = s.syn := rfl
@[simp] theorem exitMade_hoc (s : State) : (exitMade s).hoc = s.hoc := rfl
@[simp] theorem exitMade_emt (s : State) : (exitMade s).emt = s.emt := rfl
@[simp] theorem exitMade_rwr (s : State) : (exitMade s).rwr = s.rwr := rfl
@[simp] theorem exitMade_params (s : State) : (exitMade s).params = s.params := rfl
@[simp] theorem exitMade_pru (s : State) : (exitMade s).pru = s.pru := rfl

/-! ### requestExit -/

@[simp] theorem requestExit_pending (s : State) : (requestExit s).pending = s.pending := rfl
@[simp] theorem requestExit_pair (s : State) : (requestExit s).pair = s.pair := rfl
@[simp] theorem requestExit_now (s : State) : (requestExit s).now = s.now := rfl
@[simp] theorem requestExit_freeCount (s : State) : (requestExit s).freeCount = s.freeCount := rfl
@[simp] theorem requestExit_phase (s : State) : (requestExit s).phase = s.phase := rfl
@[simp] theorem requestExit_addr (s : State) : (requestExit s).addr = s.addr := rfl
@[simp] theorem requestExit_rating (s : State) : (requestExit s).rating = s.rating := rfl
@[simp] theorem requestExit_linkRate (s : State) : (requestExit s).linkRate = s.linkRate := rfl
@[simp] theorem requestExit_ccAux (s : State) : (requestExit s).ccAux = s.ccAux := rfl
@[simp] theorem requestExit_sbAux (s : State) : (requestExit s).sbAux = s.sbAux := rfl
@[simp] theorem requestExit_tripIn (s : State) : (requestExit s).tripIn = s.tripIn := rfl
@[simp] theorem requestExit_spt (s : State) : (requestExit s).spt = s.spt := rfl
@[simp] theorem requestExit_msu (s : State) : (requestExit s).msu = s.msu := rfl
@[simp] theorem requestExit_btr (s : State) : (requestExit s).btr = s.btr := rfl
@[simp] theorem requestExit_rfg (s : State) : (requestExit s).rfg = s.rfg := rfl
@[simp] theorem requestExit_mod (s : State) : (requestExit s).mod = s.mod := rfl
@[simp] theorem requestExit_lkc (s : State) : (requestExit s).lkc = s.lkc := rfl
@[simp] theorem requestExit_pvw (s : State) : (requestExit s).pvw = s.pvw := rfl
@[simp] theorem requestExit_shc (s : State) : (requestExit s).shc = s.shc := rfl
@[simp] theorem requestExit_ssc (s : State) : (requestExit s).ssc = s.ssc := rfl
@[simp] theorem requestExit_syn (s : State) : (requestExit s).syn = s.syn := rfl
@[simp] theorem requestExit_hoc (s : State) : (requestExit s).hoc = s.hoc := rfl
@[simp] theorem requestExit_emt (s : State) : (requestExit s).emt = s.emt := rfl
@[simp] theorem requestExit_rwr (s : State) : (requestExit s).rwr = s.rwr := rfl
@[simp] theorem requestExit_params (s : State) : (requestExit s).params = s.params := rfl
@[simp] theorem requestExit_pru (s : State) : (requestExit s).pru = s.pru := rfl

/-! ### releasePort -/

@[simp] theorem releasePort_pending (s : State) : (releasePort s).pending = s.pending := rfl
@[simp] theorem releasePort_pair (s : State) : (releasePort s).pair = s.pair := rfl
@[simp] theorem releasePort_now (s : State) : (releasePort s).now = s.now := rfl
@[simp] theorem releasePort_freeCount (s : State) : (releasePort s).freeCount = s.freeCount := rfl
@[simp] theorem releasePort_phase (s : State) : (releasePort s).phase = s.phase := rfl
@[simp] theorem releasePort_addr (s : State) : (releasePort s).addr = s.addr := rfl
@[simp] theorem releasePort_rating (s : State) : (releasePort s).rating = s.rating := rfl
@[simp] theorem releasePort_linkRate (s : State) : (releasePort s).linkRate = s.linkRate := rfl
@[simp] theorem releasePort_ccAux (s : State) : (releasePort s).ccAux = s.ccAux := rfl
@[simp] theorem releasePort_sbAux (s : State) : (releasePort s).sbAux = s.sbAux := rfl
@[simp] theorem releasePort_tripIn (s : State) : (releasePort s).tripIn = s.tripIn := rfl
@[simp] theorem releasePort_spt (s : State) : (releasePort s).spt = s.spt := rfl
@[simp] theorem releasePort_msu (s : State) : (releasePort s).msu = s.msu := rfl
@[simp] theorem releasePort_btr (s : State) : (releasePort s).btr = s.btr := rfl
@[simp] theorem releasePort_rfg (s : State) : (releasePort s).rfg = s.rfg := rfl
@[simp] theorem releasePort_mod (s : State) : (releasePort s).mod = s.mod := rfl
@[simp] theorem releasePort_lkc (s : State) : (releasePort s).lkc = s.lkc := rfl
@[simp] theorem releasePort_pvw (s : State) : (releasePort s).pvw = s.pvw := rfl
@[simp] theorem releasePort_shc (s : State) : (releasePort s).shc = s.shc := rfl
@[simp] theorem releasePort_ssc (s : State) : (releasePort s).ssc = s.ssc := rfl
@[simp] theorem releasePort_syn (s : State) : (releasePort s).syn = s.syn := rfl
@[simp] theorem releasePort_hoc (s : State) : (releasePort s).hoc = s.hoc := rfl
@[simp] theorem releasePort_emt (s : State) : (releasePort s).emt = s.emt := rfl
@[simp] theorem releasePort_rwr (s : State) : (releasePort s).rwr = s.rwr := rfl
@[simp] theorem releasePort_params (s : State) : (releasePort s).params = s.params := rfl
@[simp] theorem releasePort_pru (s : State) : (releasePort s).pru = s.pru := rfl

/-! ### readoutCut -/

@[simp] theorem readoutCut_pending (s : State) : (readoutCut s).pending = s.pending := rfl
@[simp] theorem readoutCut_pair (s : State) : (readoutCut s).pair = s.pair := rfl
@[simp] theorem readoutCut_now (s : State) : (readoutCut s).now = s.now := rfl
@[simp] theorem readoutCut_freeCount (s : State) : (readoutCut s).freeCount = s.freeCount := rfl
@[simp] theorem readoutCut_phase (s : State) : (readoutCut s).phase = s.phase := rfl
@[simp] theorem readoutCut_addr (s : State) : (readoutCut s).addr = s.addr := rfl
@[simp] theorem readoutCut_rating (s : State) : (readoutCut s).rating = s.rating := rfl
@[simp] theorem readoutCut_linkRate (s : State) : (readoutCut s).linkRate = s.linkRate := rfl
@[simp] theorem readoutCut_ccAux (s : State) : (readoutCut s).ccAux = s.ccAux := rfl
@[simp] theorem readoutCut_sbAux (s : State) : (readoutCut s).sbAux = s.sbAux := rfl
@[simp] theorem readoutCut_tripIn (s : State) : (readoutCut s).tripIn = s.tripIn := rfl
@[simp] theorem readoutCut_spt (s : State) : (readoutCut s).spt = s.spt := rfl
@[simp] theorem readoutCut_msu (s : State) : (readoutCut s).msu = s.msu := rfl
@[simp] theorem readoutCut_btr (s : State) : (readoutCut s).btr = s.btr := rfl
@[simp] theorem readoutCut_rfg (s : State) : (readoutCut s).rfg = s.rfg := rfl
@[simp] theorem readoutCut_mod (s : State) : (readoutCut s).mod = s.mod := rfl
@[simp] theorem readoutCut_lkc (s : State) : (readoutCut s).lkc = s.lkc := rfl
@[simp] theorem readoutCut_pvw (s : State) : (readoutCut s).pvw = s.pvw := rfl
@[simp] theorem readoutCut_shc (s : State) : (readoutCut s).shc = s.shc := rfl
@[simp] theorem readoutCut_ssc (s : State) : (readoutCut s).ssc = s.ssc := rfl
@[simp] theorem readoutCut_syn (s : State) : (readoutCut s).syn = s.syn := rfl
@[simp] theorem readoutCut_hoc (s : State) : (readoutCut s).hoc = s.hoc := rfl
@[simp] theorem readoutCut_emt (s : State) : (readoutCut s).emt = s.emt := rfl
@[simp] theorem readoutCut_rwr (s : State) : (readoutCut s).rwr = s.rwr := rfl
@[simp] theorem readoutCut_params (s : State) : (readoutCut s).params = s.params := rfl
@[simp] theorem readoutCut_pru (s : State) : (readoutCut s).pru = s.pru := rfl

/-! ### withRx -/

@[simp] theorem withRx_pending (rx : RxState) (s : State) : (withRx rx s).pending = s.pending := rfl
@[simp] theorem withRx_pair (rx : RxState) (s : State) : (withRx rx s).pair = s.pair := rfl
@[simp] theorem withRx_now (rx : RxState) (s : State) : (withRx rx s).now = s.now := rfl
@[simp] theorem withRx_freeCount (rx : RxState) (s : State) : (withRx rx s).freeCount = s.freeCount := rfl
@[simp] theorem withRx_phase (rx : RxState) (s : State) : (withRx rx s).phase = s.phase := rfl
@[simp] theorem withRx_addr (rx : RxState) (s : State) : (withRx rx s).addr = s.addr := rfl
@[simp] theorem withRx_rating (rx : RxState) (s : State) : (withRx rx s).rating = s.rating := rfl
@[simp] theorem withRx_linkRate (rx : RxState) (s : State) : (withRx rx s).linkRate = s.linkRate := rfl
@[simp] theorem withRx_ccAux (rx : RxState) (s : State) : (withRx rx s).ccAux = s.ccAux := rfl
@[simp] theorem withRx_sbAux (rx : RxState) (s : State) : (withRx rx s).sbAux = s.sbAux := rfl
@[simp] theorem withRx_tripIn (rx : RxState) (s : State) : (withRx rx s).tripIn = s.tripIn := rfl
@[simp] theorem withRx_spt (rx : RxState) (s : State) : (withRx rx s).spt = s.spt := rfl
@[simp] theorem withRx_msu (rx : RxState) (s : State) : (withRx rx s).msu = s.msu := rfl
@[simp] theorem withRx_btr (rx : RxState) (s : State) : (withRx rx s).btr = s.btr := rfl
@[simp] theorem withRx_rfg (rx : RxState) (s : State) : (withRx rx s).rfg = s.rfg := rfl
@[simp] theorem withRx_mod (rx : RxState) (s : State) : (withRx rx s).mod = s.mod := rfl
@[simp] theorem withRx_pvw (rx : RxState) (s : State) : (withRx rx s).pvw = s.pvw := rfl
@[simp] theorem withRx_shc (rx : RxState) (s : State) : (withRx rx s).shc = s.shc := rfl
@[simp] theorem withRx_ssc (rx : RxState) (s : State) : (withRx rx s).ssc = s.ssc := rfl
@[simp] theorem withRx_syn (rx : RxState) (s : State) : (withRx rx s).syn = s.syn := rfl
@[simp] theorem withRx_hoc (rx : RxState) (s : State) : (withRx rx s).hoc = s.hoc := rfl
@[simp] theorem withRx_emt (rx : RxState) (s : State) : (withRx rx s).emt = s.emt := rfl
@[simp] theorem withRx_rwr (rx : RxState) (s : State) : (withRx rx s).rwr = s.rwr := rfl
@[simp] theorem withRx_fpt (rx : RxState) (s : State) : (withRx rx s).fpt = s.fpt := rfl
@[simp] theorem withRx_mem (rx : RxState) (s : State) : (withRx rx s).mem = s.mem := rfl
@[simp] theorem withRx_params (rx : RxState) (s : State) : (withRx rx s).params = s.params := rfl
@[simp] theorem withRx_pru (rx : RxState) (s : State) : (withRx rx s).pru = s.pru := rfl

/-! ### hear -/

@[simp] theorem hear_pair (d : Bool) (s : State) : (hear d s).pair = s.pair := rfl
@[simp] theorem hear_now (d : Bool) (s : State) : (hear d s).now = s.now := rfl
@[simp] theorem hear_freeCount (d : Bool) (s : State) : (hear d s).freeCount = s.freeCount := rfl
@[simp] theorem hear_phase (d : Bool) (s : State) : (hear d s).phase = s.phase := rfl
@[simp] theorem hear_addr (d : Bool) (s : State) : (hear d s).addr = s.addr := rfl
@[simp] theorem hear_rating (d : Bool) (s : State) : (hear d s).rating = s.rating := rfl
@[simp] theorem hear_linkRate (d : Bool) (s : State) : (hear d s).linkRate = s.linkRate := rfl
@[simp] theorem hear_ccAux (d : Bool) (s : State) : (hear d s).ccAux = s.ccAux := rfl
@[simp] theorem hear_sbAux (d : Bool) (s : State) : (hear d s).sbAux = s.sbAux := rfl
@[simp] theorem hear_tripIn (d : Bool) (s : State) : (hear d s).tripIn = s.tripIn := rfl
@[simp] theorem hear_spt (d : Bool) (s : State) : (hear d s).spt = s.spt := rfl
@[simp] theorem hear_msu (d : Bool) (s : State) : (hear d s).msu = s.msu := rfl
@[simp] theorem hear_btr (d : Bool) (s : State) : (hear d s).btr = s.btr := rfl
@[simp] theorem hear_rfg (d : Bool) (s : State) : (hear d s).rfg = s.rfg := rfl
@[simp] theorem hear_mod (d : Bool) (s : State) : (hear d s).mod = s.mod := rfl
@[simp] theorem hear_pvw (d : Bool) (s : State) : (hear d s).pvw = s.pvw := rfl
@[simp] theorem hear_shc (d : Bool) (s : State) : (hear d s).shc = s.shc := rfl
@[simp] theorem hear_ssc (d : Bool) (s : State) : (hear d s).ssc = s.ssc := rfl
@[simp] theorem hear_syn (d : Bool) (s : State) : (hear d s).syn = s.syn := rfl
@[simp] theorem hear_hoc (d : Bool) (s : State) : (hear d s).hoc = s.hoc := rfl
@[simp] theorem hear_emt (d : Bool) (s : State) : (hear d s).emt = s.emt := rfl
@[simp] theorem hear_rwr (d : Bool) (s : State) : (hear d s).rwr = s.rwr := rfl
@[simp] theorem hear_fpt (d : Bool) (s : State) : (hear d s).fpt = s.fpt := rfl
@[simp] theorem hear_mem (d : Bool) (s : State) : (hear d s).mem = s.mem := rfl
@[simp] theorem hear_params (d : Bool) (s : State) : (hear d s).params = s.params := rfl
@[simp] theorem hear_pru (d : Bool) (s : State) : (hear d s).pru = s.pru := rfl

end Sys2Proof.Machine
end

