-- ==== Sys2Proof/Laws/Memory.lean ====
section
/-! SUPPORT. The record memory: a byte reads as it was set, every other byte is left alone, every memory operation keeps the
canonical form, and a configuration write cut off leaves no good record. -/

namespace Sys2Proof.Machine

/-- The canonical form of a list of programmed bytes. -/
def CellsWf (cells : List Host.Cell) : Prop :=
  cells.Pairwise (fun x y => x.1 < y.1) ∧ ∀ c ∈ cells, c.2 ≠ 0xFF#8

theorem Memory.wf_iff (m : Memory) : m.wf ↔ CellsWf m.cells := Iff.rfl

theorem cellsGet_of_lt {a : Nat} {cells : List Host.Cell} (h : ∀ c ∈ cells, a < c.1) : cellsGet a cells = 0xFF#8 := by
  induction cells with
  | nil => rfl
  | cons c cs ih =>
    obtain ⟨b, v⟩ := c
    have hb : a < b := h (b, v) (by simp)
    have : b ≠ a := by omega
    simp only [cellsGet, this, if_false]
    exact ih fun d hd => h d (by simp [hd])

/-- Addresses listed after a byte is set are the byte's or were listed before. -/
theorem cellsSet_addr {a : Nat} {v : Byte} {cells : List Host.Cell} {c : Host.Cell} (h : c ∈ cellsSet a v cells) :
    c = (a, v) ∧ v ≠ 0xFF#8 ∨ c ∈ cells := by
  induction cells with
  | nil =>
    simp only [cellsSet] at h
    split at h <;> simp_all
  | cons d ds ih =>
    obtain ⟨b, w⟩ := d
    simp only [cellsSet] at h
    split at h
    · rcases List.mem_cons.1 h with rfl | h
      · simp
      · rcases ih h with h | h <;> simp [h]
    · split at h
      · split at h
        · simp [h]
        · rcases List.mem_cons.1 h with rfl | h
          · left; exact ⟨rfl, by assumption⟩
          · simp [h]
      · split at h
        · exact Or.inr h
        · rcases List.mem_cons.1 h with rfl | h
          · left; exact ⟨rfl, by assumption⟩
          · exact Or.inr h

/-- Setting a byte keeps the canonical form. -/
theorem cellsSet_wf {a : Nat} {v : Byte} {cells : List Host.Cell} (h : CellsWf cells) : CellsWf (cellsSet a v cells) := by
  refine ⟨?_, fun c hc => ?_⟩
  · obtain ⟨hp, -⟩ := h
    induction cells with
    | nil => simp only [cellsSet]; split <;> simp
    | cons d ds ih =>
      obtain ⟨b, w⟩ := d
      rw [List.pairwise_cons] at hp
      simp only [cellsSet]
      split
      · rw [List.pairwise_cons]
        refine ⟨fun c hc => ?_, ih hp.2⟩
        rcases cellsSet_addr hc with ⟨rfl, -⟩ | hc
        · assumption
        · exact hp.1 c hc
      · split
        · rename_i hab
          subst hab
          split
          · exact hp.2
          · exact List.pairwise_cons.2 ⟨hp.1, hp.2⟩
        · split
          · exact List.pairwise_cons.2 hp
          · refine List.pairwise_cons.2 ⟨fun c hc => ?_, List.pairwise_cons.2 hp⟩
            rcases List.mem_cons.1 hc with rfl | hc
            · show a < b; omega
            · have := hp.1 c hc; show a < c.1; simp only at this; omega
  · rcases cellsSet_addr hc with ⟨rfl, hv⟩ | hc
    · exact hv
    · exact h.2 c hc

/-- A byte reads as it was set. -/
theorem cellsGet_set_same {a : Nat} {v : Byte} {cells : List Host.Cell} (h : CellsWf cells) :
    cellsGet a (cellsSet a v cells) = v := by
  obtain ⟨hp, -⟩ := h
  induction cells with
  | nil => simp only [cellsSet]; split <;> simp_all [cellsGet]
  | cons d ds ih =>
    obtain ⟨b, w⟩ := d
    rw [List.pairwise_cons] at hp
    simp only [cellsSet]
    split
    · have : b ≠ a := by omega
      simp only [cellsGet, this, if_false]
      exact ih hp.2
    · split
      · rename_i hab
        subst hab
        split
        · rename_i hv; rw [hv]; exact cellsGet_of_lt fun c hc => hp.1 c hc
        · simp [cellsGet]
      · split
        · rename_i hv; rw [hv]
          refine cellsGet_of_lt fun c hc => ?_
          rcases List.mem_cons.1 hc with rfl | hc
          · show a < b; omega
          · have := hp.1 c hc; simp only at this; omega
        · simp [cellsGet]

/-- Setting a byte leaves every other byte alone. -/
theorem cellsGet_set_other {a x : Nat} {v : Byte} (cells : List Host.Cell) (hx : x ≠ a) :
    cellsGet x (cellsSet a v cells) = cellsGet x cells := by
  induction cells with
  | nil => simp only [cellsSet]; split <;> simp [cellsGet, Ne.symm hx]
  | cons d ds ih =>
    obtain ⟨b, w⟩ := d
    simp only [cellsSet]
    split
    · simp only [cellsGet]; split <;> [rfl; exact ih]
    · split
      · rename_i hab
        subst hab
        split <;> simp [cellsGet, Ne.symm hx]
      · split
        · rfl
        · simp [cellsGet, Ne.symm hx]

theorem cellsProgram_wf (addr : Nat) (data : List Byte) :
    ∀ (i : Nat) (cells : List Host.Cell), CellsWf cells → CellsWf (cellsProgram addr i data cells) := by
  induction data with
  | nil => intro _ _ h; exact h
  | cons b bs ih => intro i cells h; exact ih _ _ (cellsSet_wf h)

theorem cellsErase_wf (sector : Nat) {cells : List Host.Cell} (h : CellsWf cells) : CellsWf (cellsErase sector cells) :=
  ⟨h.1.filter _, fun c hc => h.2 c (List.mem_filter.1 hc).1⟩

theorem cellsTornErase_wf (occasion base : Nat) :
    ∀ (n : Nat) (cells : List Host.Cell), CellsWf cells → CellsWf (cellsTornErase occasion base n cells)
  | 0, _, h => h
  | n + 1, _, h => cellsTornErase_wf occasion base n _ (cellsSet_wf h)

/-- The end of the running operation keeps the canonical form. -/
theorem Memory.finish_wf {m : Memory} (h : m.wf) : m.finish.wf := by
  unfold Memory.finish
  split
  · exact h
  · exact cellsProgram_wf _ _ _ _ h
  · exact cellsErase_wf _ h

/-- Issuing an operation keeps the canonical form. -/
theorem Memory.issue_wf {m : Memory} (op : MemOp) (h : m.wf) : (m.issue op).wf := h

/-- An erased byte reads 0xFF (R157). -/
theorem cellsGet_erase {a sector : Nat} (cells : List Host.Cell) (h : a / 4096 = sector) :
    cellsGet a (cellsErase sector cells) = 0xFF#8 := by
  induction cells with
  | nil => rfl
  | cons c cs ih =>
    obtain ⟨b, v⟩ := c
    by_cases hb : b / 4096 = sector
    · simpa [cellsErase, hb] using ih
    · have hne : b ≠ a := by rintro rfl; exact hb h
      simpa [cellsErase, hb, cellsGet, hne] using ih

/-- No record stands in an erased sector 0 (R158). -/
theorem configGood_erased (m : Memory) (cells : List Host.Cell) (h : m.cells = cellsErase 0 cells) :
    configGood (memBytes m 0 32) = false := by
  have h0 : (memBytes m 0 32).getD 0 0 = 0xFF#8 := by
    show cellsGet 0 m.cells = _
    rw [h]; exact cellsGet_erase cells rfl
  unfold configGood
  rw [h0]; rfl

/-- A configuration write that is cut off leaves no good record, neither now nor when the operation has ended (R159). -/
theorem Memory.noRecord_bad (m : Memory) : configGood (memBytes m.noRecord.finish 0 32) = false := by
  unfold Memory.noRecord
  split
  · cases h : m.op with
    | none => exact configGood_erased _ m.cells (by simp [Memory.finish])
    | some op => exact configGood_erased _ (cellsErase 0 m.cells) (by simp [Memory.finish])
  · simp_all

/-- What a cut off configuration write is made of keeps the canonical form. -/
theorem Memory.noRecord_wf {m : Memory} (h : m.wf) : m.noRecord.wf := by
  unfold Memory.noRecord
  split
  · exact cellsErase_wf 0 h
  · exact h

/-- A cold reset keeps the canonical form. -/
theorem Memory.coldCut_wf {m : Memory} (occasion : Nat) (h : m.wf) : (m.coldCut occasion).wf := by
  unfold Memory.coldCut
  split
  · exact Memory.noRecord_wf h
  · exact h

/-- A loss of supply keeps the canonical form. -/
theorem Memory.unpowered_wf {m : Memory} (occasion : Nat) (h : m.wf) : (m.unpowered occasion).wf := by
  unfold Memory.unpowered
  split
  · exact h
  · exact cellsProgram_wf _ _ _ _ h
  · generalize (4096 : Nat) = n
    exact cellsTornErase_wf _ _ _ _ h

/-- A power loss keeps the canonical form. -/
theorem Memory.powerLoss_wf {m : Memory} (occasion : Nat) (h : m.wf) : (m.powerLoss occasion).wf := by
  unfold Memory.powerLoss
  split
  · exact Memory.noRecord_wf (Memory.unpowered_wf occasion h)
  · exact Memory.unpowered_wf occasion h

/-- Torn data is as long as the data, so that a program cut off stays within its page (R162). -/
@[simp] theorem tornData_length (occasion addr : Nat) (data : List Byte) : (tornData occasion addr data).length = data.length := by
  simp [tornData]

/-- The record memory after reset is in canonical form. -/
theorem State.reset_mem_wf : State.reset.mem.wf := ⟨List.Pairwise.nil, fun _ h => nomatch h⟩

end Sys2Proof.Machine
end

