-- ==== Sys2Proof/Laws/Ops.lean ====
section
/-! SUPPORT. What each shared operation with cases can do, said once: raising, timers, the transmit queue, placement, the
writer, continuous-read exits, a change of the peer view, the end of a warm reset's status wait, the part timer, MSU's marks,
the receiver and the transmitter at a part clock. -/

namespace Sys2Proof.Machine

/-! ### How a command is taken -/

theorem running_run {f : State → State} {s : State} (h : s.phase = .run) : running f s = .next (f s) := by
  simp [running, h]

theorem running_reset {f : State → State} {s : State} (h : s.phase ≠ .run) : running f s = .next s := by
  simp [running, h]

theorem taken_up {f : State → State} {s : State} (h : s.phase ≠ .rstLow) : taken f s = .next (f s) := by
  simp [taken, h]

theorem onExpiry_some {timer : Timer} {t length : Nat} {f : State → State} {s : State} (h : timer = some t) :
    onExpiry timer length f s = f (catchUp t length s) := by
  simp [onExpiry, h]

theorem onExpiry_none {timer : Timer} {length : Nat} {f : State → State} {s : State} (h : timer = none) :
    onExpiry timer length f s = s := by
  simp [onExpiry, h]

/-- Every meaning answers a next state. -/
theorem running_next (f : State → State) (s : State) : ∃ t, running f s = .next t := ⟨_, rfl⟩

/-! ### Held conditions -/

theorem mem_held_hold (c : Condition) (s : State) : c ∈ (hold c s).pru.held := by
  simp only [hold, Pru.hold]
  split <;> simp_all

theorem held_hold (c d : Condition) (s : State) : d ∈ (hold c s).pru.held ↔ d = c ∨ d ∈ s.pru.held := by
  simp only [hold, Pru.hold]
  split
  · constructor
    · exact Or.inr
    · rintro (rfl | h) <;> assumption
  · simp [or_comm]

/-- What raising a condition does: it is held, or it makes a trip. -/
theorem raise_cases (c : Condition) (s : State) :
    raise c s = hold c s ∨
      (isHeld s c = false ∧ tripClass s.params c = true ∧ canTrip s = true ∧
        raise c s = tripWith { cause := c, state := s.ssc.station, following := [] } (hold c s)) := by
  by_cases h : isHeld s c = false ∧ tripClass s.params c = true ∧ canTrip s = true
  · exact Or.inr ⟨h.1, h.2.1, h.2.2, by simp [raise, h]⟩
  · exact Or.inl (by simp only [raise, if_neg h])

theorem raise_alarm {c : Condition} {s : State} (h : tripClass s.params c = false) : raise c s = hold c s := by
  simp [raise, h]

theorem raise_cannot_trip {c : Condition} {s : State} (h : canTrip s = false) : raise c s = hold c s := by
  simp [raise, h]

/-! ### States entered -/

@[simp] theorem enterTripped_station (s : State) : (enterTripped s).ssc.station = .tripped := rfl
@[simp] theorem enterStandby_station (s : State) : (enterStandby s).ssc.station = .standby := by
  simp [enterStandby, standbyStatus]
  split <;> rfl
@[simp] theorem enterPrepared_station (s : State) : (enterPrepared s).ssc.station = .prepared := rfl
@[simp] theorem enterJoining_station (s : State) : (enterJoining s).ssc.station = .joining := rfl
@[simp] theorem enterHandoverIn_station (s : State) : (enterHandoverIn s).ssc.station = .handoverIn := by
  simp only [enterHandoverIn, submitEvent_ssc, settled_ssc]; rfl
@[simp] theorem enterSupplying_station (s : State) : (enterSupplying s).ssc.station = .supplying := by
  simp only [enterSupplying, submitEvent_ssc, settled_ssc]; rfl
@[simp] theorem enterClosing_station (s : State) : (enterClosing s).ssc.station = .closing := rfl
@[simp] theorem tripWith_station (r : FirstCause) (s : State) : (tripWith r s).ssc.station = .tripped := by
  rw [tripWith, submitRecord_ssc, submit_ssc, announcing, announce_ssc]; rfl
@[simp] theorem enterTripped_phase (s : State) : (enterTripped s).phase = s.phase := by
  rw [enterTripped, settled_phase]
  show (clearClosed (moveTo .tripped (commandContactor false (gatesOff s)))).phase = _
  rw [clearClosed_phase, moveTo_phase, commandContactor_phase, gatesOff_phase]
@[simp] theorem tripWith_phase (r : FirstCause) (s : State) : (tripWith r s).phase = s.phase := by
  rw [tripWith, submitRecord_phase, submit_phase, announcing, announce_phase, enterTripped_phase]
@[simp] theorem enterTripped_params (s : State) : (enterTripped s).params = s.params := by
  rw [enterTripped, settled_params]
  show (clearClosed (moveTo .tripped (commandContactor false (gatesOff s)))).params = _
  rw [clearClosed_params, moveTo_params, commandContactor_params, gatesOff_params]
@[simp] theorem tripWith_params (r : FirstCause) (s : State) : (tripWith r s).params = s.params := by
  rw [tripWith, submitRecord_params, submit_params, announcing, announce_params, enterTripped_params]
@[simp] theorem tripWith_cmdClosed (r : FirstCause) (s : State) : (tripWith r s).syn.cmdClosed = false := by
  show ((enterTripped _).syn).cmdClosed = false
  simp only [enterTripped, settled, setPermit, judgeBand, clearClosed, moveTo, commandContactor, gatesOff, Syn.moved,
    Syn.leaveJoining, Syn.leaveShipSync, Syn.command]
  repeat' split
  all_goals simp_all
@[simp] theorem tripWith_gate (r : FirstCause) (s : State) : (tripWith r s).mod.gate = .gatesOff := by
  show (if s.mod.gate = .gatesOff then s.mod else Mod.off).gate = .gatesOff
  split <;> simp_all [Mod.off]

/-! ### The transmit queue -/

/-- A submission to the transmit queue: replaced in its entry, joined at the tail, joined in the place of the oldest
LOG_DATA, or not taken. -/
theorem enqueue_cases (listening : Bool) (f : Frame) (l : Lkc) :
    (l.enqueue listening f).1 = l ∨
    (f.isStatus = true ∧ (l.enqueue listening f).1.queue = replaceStatus f l.queue) ∨
    (l.queue.length < 8 ∧
      (l.enqueue listening f).1.queue = l.queue ++ [{ frame := f, retry := 0, inAttempt := false }]) ∨
    (∃ q, dropOldestLog l.queue = some q ∧
      (l.enqueue listening f).1.queue = q ++ [{ frame := f, retry := 0, inAttempt := false }]) := by
  unfold Lkc.enqueue
  split
  · exact Or.inl rfl
  · split
    · exact Or.inl rfl
    · split
      · rename_i h
        simp only [Bool.and_eq_true] at h
        exact Or.inr (Or.inl ⟨h.1, rfl⟩)
      · split
        · exact Or.inl rfl
        · split
          · rename_i h; exact Or.inr (Or.inr (Or.inl ⟨h, rfl⟩))
          · split
            · rename_i q h; exact Or.inr (Or.inr (Or.inr ⟨q, h, rfl⟩))
            · exact Or.inl rfl

theorem replaceStatus_length (f : Frame) (q : List TxEntry) : (replaceStatus f q).length = q.length := by
  simp [replaceStatus]

theorem dropOldestLog_length {q r : List TxEntry} (h : dropOldestLog q = some r) : r.length + 1 = q.length := by
  induction q generalizing r with
  | nil => simp [dropOldestLog] at h
  | cons e es ih =>
    simp only [dropOldestLog] at h
    split at h
    · simp_all
    · rw [Option.map_eq_some_iff] at h
      obtain ⟨t, ht, rfl⟩ := h
      simp [← ih ht]

/-! ### Placement -/

/-- A placed record lies within one page (R162). -/
theorem placement_in_page {offset size p : Nat} (hs : size ≤ 256) (h : placement offset size = some p) :
    p % 256 + size ≤ 256 ∧ offset ≤ p ∧ p + size ≤ 4096 := by
  unfold placement pageEnd at h
  split at h
  · simp only [Option.some.injEq] at h; omega
  · split at h
    · simp only [Option.some.injEq] at h; omega
    · cases h

/-! ### Where the writer goes -/

theorem startOp_free {op : WriterOp} {s : State} (h : s.fpt.port = none) : startOp op s = issueOp op s := by
  simp [startOp, h]

theorem takeNext_config {b : List Byte} {s : State} (h : s.rwr.config = some b) : takeNext s = startOp .configErase s := by
  simp [takeNext, h]

theorem takeNext_idle {s : State} (hc : s.rwr.config = none) (hq : s.rwr.queue = []) : takeNext s = writerIdle s := by
  simp [takeNext, hc, hq]

/-! ### Continuous-read exits -/

theorem requestExit_free {s : State} (h : s.fpt.port = none) : requestExit s = exitMade s := by
  simp [requestExit, exitMade, h]

theorem requestExit_held {s : State} (h : s.fpt.port ≠ none) :
    requestExit s = { s with fpt := { s.fpt with exitWaits := true } } := by
  simp [requestExit, Option.isNone_iff_eq_none, h]

theorem releasePort_quiet {s : State} (h : s.fpt.exitWaits = false) :
    releasePort s = { s with fpt := { s.fpt with port := none } } := by
  simp [releasePort, h]

theorem releasePort_exit {s : State} (h : s.fpt.exitWaits = true) :
    releasePort s = exitMade { s with fpt := { s.fpt with port := none } } := by
  simp [releasePort, exitMade, h]

theorem readoutCut_inactive {s : State} (h : s.fpt.readout = none) : readoutCut s = s := by
  simp [readoutCut, h]

/-! ### A change of the peer view -/

theorem judgedIf_false (s : State) : judgedIf false s = s := rfl
theorem judgedIf_true (s : State) : judgedIf true s = viewJudged s := rfl

theorem entryChanges_none (new : Peer) : entryChanges none new = true := rfl

/-- A STATUS leaves the view as HOC sees it exactly where state and flags stand as they were (R139). -/
theorem entryChanges_some {old new : Peer} :
    entryChanges (some old) new = false ↔
      old.state = new.state ∧ old.contactor = new.contactor ∧ old.ready = new.ready ∧ old.aborted = new.aborted := by
  simp [entryChanges, and_assoc]

/-! ### The end of a warm reset's status wait -/

@[simp] theorem Rwr.settled_queue (r : Rwr) : r.settled.queue = r.queue := rfl
@[simp] theorem Rwr.settled_config (r : Rwr) : r.settled.config = r.config := rfl
@[simp] theorem Rwr.settled_sector (r : Rwr) : r.settled.sector = r.sector := rfl
@[simp] theorem Rwr.settled_offset (r : Rwr) : r.settled.offset = r.offset := rfl
@[simp] theorem Rwr.settled_secSeq (r : Rwr) : r.settled.secSeq = r.secSeq := rfl
@[simp] theorem Rwr.settled_recSeq (r : Rwr) : r.settled.recSeq = r.recSeq := rfl
@[simp] theorem Rwr.settled_recovered (r : Rwr) : r.settled.recovered = r.recovered := rfl
@[simp] theorem Rwr.settled_writer (r : Rwr) : r.settled.writer = r.writer := rfl
@[simp] theorem Rwr.settled_op (r : Rwr) : r.settled.op = r.op := rfl
@[simp] theorem Rwr.settled_busy (r : Rwr) : r.settled.busy = r.busy := rfl
@[simp] theorem Rwr.settled_faultBusy (r : Rwr) : r.settled.faultBusy = r.faultBusy := rfl
@[simp] theorem Rwr.settled_statusTick (r : Rwr) : r.settled.statusTick = r.statusTick := rfl
@[simp] theorem Rwr.settled_start (r : Rwr) : r.settled.start = r.start := rfl
@[simp] theorem Rwr.settled_settling (r : Rwr) : r.settled.settling = false := rfl
@[simp] theorem Rwr.settled_startTimer (r : Rwr) : r.settled.startTimer = none := rfl
@[simp] theorem Rwr.settled_inFlight (r : Rwr) : r.settled.inFlight = none := rfl

/-- What settling can do (R167): a FAULTED writer stays so with its cause over; in STARTING, as where nothing was in flight, the
wait is over and no more; else what was in flight is resumed. -/
theorem settleWriter_cases (s : State) :
    (s.rwr.writer = .faulted ∧
      settleWriter s = memReady { s with rwr := { s.rwr.settled with faultBusy := false } }) ∨
    (s.rwr.writer ≠ .faulted ∧ (s.rwr.start = .configLoad ∨ s.rwr.inFlight = none) ∧
      settleWriter s = memReady { s with rwr := s.rwr.settled }) ∨
    (s.rwr.writer ≠ .faulted ∧ s.rwr.start ≠ .configLoad ∧ ∃ op, s.rwr.inFlight = some op ∧
      settleWriter s = resumeOp (some op) (memReady { s with rwr := s.rwr.settled })) := by
  unfold settleWriter
  by_cases w : s.rwr.writer = .faulted
  · exact .inl ⟨w, by simp [w, memReady]⟩
  · by_cases l : s.rwr.start = .configLoad
    · exact .inr (.inl ⟨w, .inl l, by simp [w, l]⟩)
    · cases f : s.rwr.inFlight with
      | none => exact .inr (.inl ⟨w, .inr rfl, by simp [w, l, f]⟩)
      | some op => exact .inr (.inr ⟨w, l, op, rfl, by simp [w, l, f]⟩)

/-! ### The part timer -/

theorem judgePart_low {p threshold : Int} (now : Nat) (h : Hoc) (le : p ≤ threshold) :
    h.judgePart p threshold now = { h with part := some (h.part.getD now) } := by
  simp [Hoc.judgePart, le]

theorem judgePart_high {p threshold : Int} (now : Nat) (h : Hoc) (lt : threshold < p) :
    h.judgePart p threshold now = { h with part := none, ready := h.ready && h.sbtLow } := by
  simp [Hoc.judgePart, Int.not_le.mpr lt]

/-- The end of the part timer with ready-to-part already set changes no flag and judges nothing (R138, R139). -/
theorem partReached_ready {s : State} (h : s.hoc.ready = true) :
    partReached s = { s with hoc := { s.hoc with part := none } } := by
  simp [partReached, h]

/-- The end of the part timer that sets ready-to-part judges the trip line (R138, R139). -/
theorem partReached_clear {s : State} (h : s.hoc.ready = false) :
    partReached s = judgeTrip { s with hoc := { s.hoc with ready := true, part := none } } := by
  simp [partReached, h]

/-! ### The marks of the two checks -/

@[simp] theorem Msu.stopped_ocLive (m : Msu) : m.stopped.ocLive = m.ocLive := rfl
@[simp] theorem Msu.stopped_dcLive (m : Msu) : m.stopped.dcLive = m.dcLive := rfl
@[simp] theorem Msu.stopped_vdc (m : Msu) : m.stopped.vdc = none := rfl
@[simp] theorem Msu.strobed_ocLive (m : Msu) : m.strobed.ocLive = false := rfl
@[simp] theorem Msu.strobed_dcLive (m : Msu) : m.strobed.dcLive = false := rfl
@[simp] theorem Msu.stopped_initial : Msu.initial.stopped = Msu.initial := rfl

/-! ### Claims while the contactor is commanded closed -/

/-- A CLAIM is submitted with the conditions of R105, and not where a join path close has the station wait (R109). -/
theorem mayClaim_iff (s : State) :
    mayClaim s = true ↔
      s.phase = .run ∧ s.ssc.station = .joining ∧ s.btr.berthState = .dead ∧ s.syn.settled = true ∧
        s.syn.claim.idle = true ∧ claimPending s = false ∧ s.syn.claimWait = false ∧
        (s.syn.cmdClosed = true → s.syn.joinClosed = false) := by
  cases h : s.syn.cmdClosed <;> simp [mayClaim, waitsClosed, h, and_assoc]

/-! ### The receiver -/

@[simp] theorem Ear.rest_quiet (e : Ear) : e.rest.quiet = 0 := rfl
@[simp] theorem Ear.rest_heard (e : Ear) : e.rest.heard = false := rfl
@[simp] theorem Ear.taken_heard (e : Ear) : e.taken.heard = false := by unfold Ear.taken; split <;> rfl

theorem Ear.taken_heard_true {e : Ear} (h : e.heard = true) : e.taken = { e with heard := false } := by simp [Ear.taken, h]
theorem Ear.taken_bare {e : Ear} (h : e.heard = false) : e.taken = e.rest := by simp [Ear.taken, h]

/-- What a part clock can do to LKC (R40 to R43): the receive state stays as it is, with the link idle or busy as before, or it
is left for a state other than IDLE on a busy link; and of the rest only the measured run and what the receiver follows. -/
theorem listen_cases (n : Nat) (d : Bool) (l : Lkc) :
    ∃ (rx : RxState) (idle : Bool) (run : Nat) (ear : Ear),
      (l.listen n d).1 = { l with rx := rx, linkIdle := idle, rxRun := run, ear := ear } ∧
        (rx = l.rx ∧ idle = l.linkIdle ∨ rx ≠ .idle ∧ idle = false) := by
  have kept (rx : RxState) (idle : Bool) (run : Nat) (ear : Ear) (m : Lkc)
      (h : m = { l with rx := rx, linkIdle := idle, rxRun := run, ear := ear })
      (g : rx = l.rx ∧ idle = l.linkIdle ∨ rx ≠ .idle ∧ idle = false) :
      ∃ (rx : RxState) (idle : Bool) (run : Nat) (ear : Ear),
        m = { l with rx := rx, linkIdle := idle, rxRun := run, ear := ear } ∧
          (rx = l.rx ∧ idle = l.linkIdle ∨ rx ≠ .idle ∧ idle = false) := ⟨rx, idle, run, ear, h, g⟩
  unfold Lkc.listen Lkc.hearFrame Lkc.hearSync Lkc.sampleBit Lkc.goesOn Lkc.moves Lkc.reports
  dsimp only
  repeat' split
  all_goals first
    | exact kept _ _ _ _ _ rfl (.inl ⟨rfl, rfl⟩)
    | exact kept _ _ _ _ _ rfl (.inr ⟨by decide, rfl⟩)

/-! ### The transmitter -/

theorem heardBad_none {s : State} (h : s.lkc.attempt = none) : heardBad s = countBad s := by simp [heardBad, h]

theorem heardBad_some {s : State} {a : Attempt} (h : s.lkc.attempt = some a) :
    heardBad s = { s with lkc := { s.lkc with attempt := some { a with bad := a.bad + 1 } } } := by simp [heardBad, h]

/-- What a bad frame counted can do (R45): of LKC the count alone moves, and beside LKC the held set alone. -/
theorem countBad_only (s : State) :
    ∃ p : Pru, countBad s =
      { s with
        lkc := { s.lkc with badCount := if countsBad s then min 255 (s.lkc.badCount + 1) else s.lkc.badCount }
        pru := p } := by
  unfold countBad raiseIf
  split
  · split
    · exact ⟨_, by rw [raise_alarm (by rfl)]; rfl⟩
    · exact ⟨_, rfl⟩
  · exact ⟨_, rfl⟩

theorem countBads_zero (s : State) : countBads 0 s = s := rfl

theorem countBads_succ (n : Nat) (s : State) : countBads (n + 1) s = countBads n (countBad s) := rfl

theorem countBads_uncounted {s : State} (h : countsBad s = false) (n : Nat) : countBads n s = s := by
  induction n with
  | zero => rfl
  | succ n ih => rw [countBads_succ, show countBad s = s by simp [countBad, h], ih]

/-- What any number of bad frames counted can do (R45): as one, with the count raised by their number, holding at 255. -/
theorem countBads_only (n : Nat) (s : State) (h : countsBad s = true) :
    ∃ p : Pru, countBads (n + 1) s =
      { s with lkc := { s.lkc with badCount := min 255 (s.lkc.badCount + (n + 1)) }, pru := p } := by
  induction n generalizing s with
  | zero => obtain ⟨p, e⟩ := countBad_only s; exact ⟨p, by rw [countBads_succ, countBads_zero, e, if_pos h]⟩
  | succ n ih =>
    obtain ⟨p, e⟩ := countBad_only s
    have kept : countsBad (countBad s) = true := by rw [e]; exact h
    obtain ⟨q, f⟩ := ih (countBad s) kept
    refine ⟨q, ?_⟩
    rw [countBads_succ, f, e, if_pos h]
    have sum : min 255 (min 255 (s.lkc.badCount + 1) + (n + 1)) = min 255 (s.lkc.badCount + (n + 1 + 1)) := by omega
    simp only [sum]

theorem talk_none {n : Nat} {d : Bool} {l : Lkc} (h : l.attempt = none) : l.talk n d = (l, none) := by simp [Lkc.talk, h]

theorem talk_some {n : Nat} {d : Bool} {l : Lkc} {a : Attempt} (h : l.attempt = some a) :
    l.talk n d = ({ l with attempt := some { a with place := (a.talk n d).1 } }, (a.talk n d).2) := by simp [Lkc.talk, h]

/-- The four ends of an attempt: the rows of the link transmitter (R47 to R50). -/
def transmitterRows : List Instr := [.alignmentDropout, .arbitrationLost, .bitError, .ownFrameSeen]

/-- What the transmitter can report at a part clock: nothing, or one of the four ends of an attempt. -/
theorem attempt_talk_command (n : Nat) (d : Bool) (a : Attempt) :
    (a.talk n d).2 = none ∨ ∃ c ∈ transmitterRows, (a.talk n d).2 = some c := by
  unfold Attempt.talk Attempt.differs transmitterRows
  repeat' split
  all_goals first
    | exact .inl rfl
    | exact .inr ⟨_, by simp, rfl⟩

/-- What a part clock can do to LKC through the transmitter (R47 to R50): of LKC only the place of the attempt moves. -/
theorem talk_cases (n : Nat) (d : Bool) (l : Lkc) :
    (l.attempt = none ∧ l.talk n d = (l, none)) ∨
      ∃ (a : Attempt) (place : TxPlace), l.attempt = some a ∧
        (l.talk n d).1 = { l with attempt := some { a with place := place } } ∧
        ((l.talk n d).2 = none ∨ ∃ c ∈ transmitterRows, (l.talk n d).2 = some c) := by
  cases h : l.attempt with
  | none => exact .inl ⟨rfl, talk_none h⟩
  | some a => exact .inr ⟨a, _, rfl, by rw [talk_some h], by rw [talk_some h]; exact attempt_talk_command n d a⟩

theorem requestRow_receiver (payload : List Byte) : requestRow payload ∉ transmitterRows := by
  unfold requestRow transmitterRows
  repeat' split
  all_goals simp

theorem frameRow_receiver (bytes : List Byte) : frameRow bytes ∉ transmitterRows := by
  unfold frameRow
  split
  · unfold goodFrameRow
    repeat' split
    all_goals first
      | exact requestRow_receiver _
      | simp [transmitterRows]
  · simp [transmitterRows]

/-- The receiver reports none of the four ends of an attempt. -/
theorem listen_command {n : Nat} {d : Bool} {l : Lkc} {c : Instr} (h : (l.listen n d).2 = some c) : c ∉ transmitterRows := by
  unfold Lkc.listen Lkc.hearFrame Lkc.hearSync Lkc.sampleBit Lkc.goesOn Lkc.moves Lkc.reports at h
  dsimp only at h
  repeat' split at h
  all_goals first
    | cases h; done
    | (obtain rfl := Option.some.inj h; first | exact frameRow_receiver _ | simp [transmitterRows])

end Sys2Proof.Machine
end

