-- ==== Sys2Proof/WellFormed.lean ====
section
/-! DEFINITION. Which commands can occur as their row describes them: the checks that need no state. -/

namespace Sys2Proof

/-- A frame's payload is at most 32 bytes (R39). -/
def wfPayload (payload : List Byte) : Bool := payload.length ≤ 32

/-- A sender that R44 does not call bad: neither 0 nor 13. -/
def wfSender (a : Addr) : Bool := a ≠ 0 && a ≠ 13

/-- A converter station's address (00, the stations). -/
def wfStation (a : Addr) : Bool := 1 ≤ a.toNat && a.toNat ≤ 12

/-- The parameters of a request: what the payload holds after target, number and kind (13.3). -/
def wfParams (params : List Byte) : Bool := params.length ≤ 29

/-- What the row's words require of the operands, whatever the state. -/
def Instr.wf : Instr → Bool
  | .coldReset .. => true
  | .warmReset => true
  | .warmResetEnd => true
  | .tripInAsserted => true
  | .ccAuxChange _ => true
  | .sbAuxClose => true
  | .sbAuxOpen => true
  | .carrierPeriodStart _ => true
  | .recordComplete bytes =>
      let r := bytes.dropWhile (· == 0xFF#8)
      r.length == 25 && r.head? == some 0xA6#8
  | .startMarkerWrong first => first ≠ 0xFF#8 && first ≠ 0xA6#8
  | .busFrequencyTimer => true
  | .syncError _ _ => true
  | .stopBitDominant => true
  | .lengthAbove32 length => 32 < length.toNat
  | .partialFrameDiscarded _ => true
  | .badFrame bytes => 5 ≤ bytes.length && bytes.length ≤ 37
  | .badFrameWindow => true
  | .transmitStart => true
  | .alignmentDropout => true
  | .arbitrationLost => true
  | .bitError => true
  | .ownFrameSeen => true
  | .duplicateAddressTimer => true
  | .statusReceived sender payload => wfStation sender && wfPayload payload
  | .contStatusReceived sender payload => wfStation sender && wfPayload payload
  | .tripNoticeReceived sender payload => wfStation sender && wfPayload payload
  | .shipStatusReceived payload => wfPayload payload
  | .claimReceived sender payload => wfStation sender && wfPayload payload
  | .prepare _ _ params => wfParams params
  | .shipSync _ _ params => wfParams params
  | .returnLoad _ _ params => wfParams params
  | .disconnect _ _ params => wfParams params
  | .mark _ _ params => wfParams params
  | .readMeter _ _ params => wfParams params
  | .clear _ _ params => wfParams params
  | .readLog _ _ params => wfParams params
  | .configStore _ _ params => wfParams params
  | .malformedRequest payload =>
      1 ≤ payload.length && wfPayload payload &&
        (payload.length < 3 || (payload.getD 2 0).toNat == 0 || 9 < (payload.getD 2 0).toNat)
  | .cadenceExpiry => true
  | .peerEntryStale addr => wfStation addr
  | .peerEntryRemoved addr => wfStation addr
  | .shipRecordStale => true
  | .sharingTick => true
  | .restorationTick => true
  | .settleTimerExpiry => true
  | .claimResubmit => true
  | .claimExpiry => true
  | .energiseTimerExpiry => true
  | .joinDwellComplete => true
  | .joinTimeLimitExpiry => true
  | .confirmationWindowEnd => true
  | .shipDwellComplete => true
  | .syncTimeLimitExpiry => true
  | .handoverTick => true
  | .staleTimerExpiry => true
  | .handoverTimerExpiryIn => true
  | .handoverTimerExpiryOut => true
  | .partTimerExpiry => true
  | .tripTimerExpiry => true
  | .intervalTick => true
  | .intervalSelfClose => true
  | .closingEnd => true
  | .writerTakeWork => true
  | .memoryPortGrant => true
  | .programComplete => true
  | .eraseComplete => true
  | .busyTimeout => true
  | .faultedStatusRead _ => true
  | .configLoadComplete _ => true
  | .recoveryBusyTimeout => true
  | .logRecoveryComplete => true
  | .warmResetSettle => true
  | .warmResetBusyTimeout => true
  | .readoutChunk => true
  | .readoutEndFrame => true
  | .rstNAsserted _ => true
  | .tripInReleased => true
  | .linkIdle => true
  | .breakDetected => true
  | .syncAccepted _ _ => true
  | .frameDropped _ sender _ payload => wfSender sender && wfPayload payload

end Sys2Proof
end

