-- ==== Sys2Proof/Tests/Slice0.lean ====
section
/-! SUPPORT. Tests: ill-formed commands refused, the spec's worked values, and for each obligation with hypotheses states
and operands that meet them (at the bounds, where a clause has a range). -/

open Sys2Proof Sys2Proof.Machine

namespace Sys2Proof.Tests

set_option Elab.async false

/-! ### Well-formedness: one ill-formed term for each check -/

theorem test_wf_record_not_a_start_marker : (Instr.recordComplete (List.replicate 25 0)).wf = false := by decide +kernel
theorem test_wf_record_too_short : (Instr.recordComplete (0xA6#8 :: List.replicate 23 0)).wf = false := by decide +kernel
theorem test_wf_start_marker_right : (Instr.startMarkerWrong 0xA6).wf = false := by decide +kernel
theorem test_wf_length_32 : (Instr.lengthAbove32 32).wf = false := by decide +kernel
theorem test_wf_bad_frame_too_long : (Instr.badFrame (List.replicate 38 0)).wf = false := by decide +kernel
theorem test_wf_status_from_panel : (Instr.statusReceived 15 []).wf = false := by decide +kernel
theorem test_wf_cont_status_too_long : (Instr.contStatusReceived 1 (List.replicate 33 0)).wf = false := by decide +kernel
theorem test_wf_trip_notice_from_0 : (Instr.tripNoticeReceived 0 [1, 9]).wf = false := by decide +kernel
theorem test_wf_ship_status_too_long : (Instr.shipStatusReceived (List.replicate 33 0)).wf = false := by decide +kernel
theorem test_wf_claim_from_13 : (Instr.claimReceived 13 [0, 0, 0, 1]).wf = false := by decide +kernel
theorem test_wf_request_too_long : (Instr.prepare 0 1 (List.replicate 30 0)).wf = false := by decide +kernel
theorem test_wf_malformed_is_a_prepare : (Instr.malformedRequest [0, 1, 1]).wf = false := by decide +kernel
theorem test_wf_malformed_empty : (Instr.malformedRequest []).wf = false := by decide +kernel
theorem test_wf_peer_entry_of_gateway : (Instr.peerEntryStale 14).wf = false := by decide +kernel
theorem test_wf_dropped_from_13 : (Instr.frameDropped 0 13 1 []).wf = false := by decide +kernel
theorem test_no_row_has_bits : decodeTableWord 16 7 = none := rfl

/-! ### The spec's worked values -/

/-- The published check values of the two CRCs of R3 and R39 over "123456789". -/
theorem test_crcs :
    crc8 [0x31, 0x32, 0x33, 0x34, 0x35, 0x36, 0x37, 0x38, 0x39] = 0xF4 ∧
      crc16 [0x31, 0x32, 0x33, 0x34, 0x35, 0x36, 0x37, 0x38, 0x39] = 0x29B1 := by decide +kernel

/-- Chapter 1, a berth bus at 60 Hz: the crossing at index 1,204 and the frequency at crossings 5 and 6. -/
theorem test_crossing_and_frequency :
    ({ Tracker.initial with prev := some (-2210, 1203), armed := true } : Tracker).crossing 1300 1204 = some 308129 ∧
      frequencyOf [34133, 34134, 34133, 34133] = some 60000 ∧ frequencyOf [34134, 34133, 34133, 34134] = some 60000 ∧
      frequencyOf [34133, 34134, 34133] = none := by decide +kernel

/-- Chapter 1, phase difference: −284 and −33,900 sub-samples against a period of 34,133. -/
theorem test_phase_difference : phaseBetween 284 0 34133 = -545 ∧ phaseBetween 33900 0 34133 = 447 := by decide +kernel

/-- R21's table, R25's table, R27's and R29's examples. -/
theorem test_reference_examples :
    droopTerm 1500 600 = -900000 ∧ droopTerm 1500 (-50) = 75000 ∧ droopTerm 3000 1450 = -3600000 ∧
      phaseIncrement 65000000 = 34896609 ∧ phaseIncrement 60000000 = 32212255 ∧ phaseIncrement 59999875 = 32212188 ∧
      phaseIncrement 50000000 = 26843546 ∧ phaseIncrement 45000000 = 24159191 ∧ reactiveDroop 40 250 = -10 ∧
      roundAway 7400 1000 = 7 ∧ roundAway (-2500) 1000 = -3 ∧ indexQuotient 997 (some 24600) = 973 ∧
      indexQuotient 997 (some 24000) = 997 ∧ indexQuotient 997 (some 23500) = 1018 := by decide +kernel

/-- R31's examples and the worked period of R32: the three sine and compare values. -/
theorem test_sine_and_compare_examples :
    sineValue 32212255#32 = 1543 ∧ sineValue (32212255#32 - thirdTurn) = -29117 ∧
      sineValue (32212255#32 + thirdTurn) = 27573 ∧ sineValue (BitVec.ofNat 32 (4095 * 1048576 + 128 * 4096)) = -25 ∧
      compareValue 1000 1543 = 654 ∧ compareValue 1000 (-29117) = 70 ∧ compareValue 1000 27573 = 1151 := by decide +kernel

/-- R34's worked timing for a compare value of 654. -/
theorem test_gate_timing :
    lowOn 654 654 595 = true ∧ lowOn 654 654 596 = false ∧ highOn 654 635 = false ∧ highOn 654 636 = true ∧
      highOn 654 1903 = true ∧ highOn 654 1904 = false ∧ lowOn 654 654 1943 = false ∧ lowOn 654 654 1944 = true := by
  decide +kernel

/-- R119's examples, and R132's: 60 µHz at Kh 20. -/
theorem test_advance_and_power_loop :
    roundAway (80 * 80 * 65536) 1000000 = 419 ∧ wrapPhase (-545 + 419) = -126 ∧ wrapPhase (32600 + 419) = -32517 ∧
      powerLoop 20 497 500000 0 = 60 := by decide +kernel

/-- R145's worked sample: 899,999 W. -/
theorem test_watts : wattsOf 207846097 2 = 899999 := by decide +kernel

/-- R38 and R39: the sync byte is 5 bit times dominant, then 5 recessive; 80 and 40 part clocks to the bit; R43: bit j is
sampled (j + ½) bit times after the edge. -/
theorem test_levels_and_sampling :
    byteLevels 0x0F = [true, true, true, true, true, false, false, false, false, false] ∧
      byteOf (true :: [true, false, true, true, false, true, false, false] ++ [false]) = 0x4B ∧ bitClocks false = 80 ∧
      bitClocks true = 40 ∧ sampleClock 400 0 = 40 ∧ sampleClock 400 9 = 760 := by decide +kernel

/-! ### States the tests start from -/

/-- Session 5,120 at 60 Hz. -/
def session : Session := { id := 5120, is60 := true, voltage := 1000, minutes := 15, opened := true }

/-- Station 4, 1,500 kVA, running in STANDBY without a session. -/
def standing : State :=
  { State.reset with
    phase := .run, addr := 4, rating := 2, now := 100000, ssc := { station := .standby, session := none }
    lkc := Lkc.enable 100000, shc := { Shc.initial with tick := some 100000 }
    rwr := { Rwr.initial with recovered := true } }

/-- The meter of the session. -/
def meter : Meter :=
  { Meter.opening 96000 with
    sessionFwd := 2160024000000, closedFwd := 74999, intervalFwd := 52800000, number := 2, closedCount := 1 }

/-- The station in a state, holding the session. -/
def at_ (x : StationState) : State :=
  { standing with ssc := { station := x, session := some session }, emt := some meter }

/-- The station on the bus in a state: gates RUNNING, contactor commanded and reported closed, both buses LIVE. -/
def onBus (x : StationState) : State :=
  { at_ x with
    ccAux := true, mod := { Mod.off with gate := .running }, spt := { Spt.initial with strobes := true }
    rfg := { Rfg.initial with fRef := 60000000, k := 4000 }
    msu := { Msu.initial with p := 600, q := 120, vdc := some 24000, vB := 1000, vS := 1046, vM := 1000 }
    btr := { Btr.initial with
      berth := { Tracker.initial with freq := some 60080 }, ship := { Tracker.initial with freq := some 60000 }
      berthState := .live, shipState := .live, slip := some 80, dphiShip := some (-545) }
    syn := { Syn.initial with cmdClosed := true, confirmed := true, permit := false }
    pvw := { Pvw.initial with
      cadence := some 100000
      peers :=
        [ { addr := 1, state := .supplying, contactor := true, ready := false, aborted := false, session := 5120
            rating := 2, p := 620, q := 140, lastSeq := 7, contOk := true, refreshed := 100000, stale := false },
          { addr := 7, state := .supplying, contactor := true, ready := false, aborted := false, session := 5120
            rating := 3, p := 560, q := 100, lastSeq := 9, contOk := true, refreshed := 100000, stale := false } ]
      ship := some { gensets := 2, load := 480, refreshed := 100000, stale := false } } }

/-- The state after a command. -/
def after (c : Instr) (s : State) : State :=
  match exec c s with
  | .next t => t
  | _ => State.reset

/-! ### One step, with the spec's figures -/

/-- The worked sharing tick at station 4 (chapter 5): f_share 12,000 to 11,900, v_share −2,500 to −2,510. -/
theorem test_sharing_tick :
    let s := onBus .supplying
    let t := after .sharingTick { s with shc := { s.shc with fShare := 12000, vShare := -2500 } }
    t.shc.fShare = 11900 ∧ t.shc.vShare = -2510 := by decide +kernel

/-- The worked sequence of a rate-limited approach (chapter 2), period n: 59,999,875 and RATE_LIMITED. -/
theorem test_rate_limited_period :
    let s := onBus .joining
    let t := after (.carrierPeriodStart true)
      { s with msu := { s.msu with p := 0 }, syn := { s.syn with fSync := -80000 } }
    t.rfg.fRef = 59999875 ∧ t.rfg.rateLimited = true ∧ t.rfg.theta = 32212188 := by decide +kernel

/-- The worked table of losing and regaining records (chapter 1), periods n+3 to n+5: a missing period, a gap, and
MEASUREMENT_LOST at the third. -/
theorem test_losing_records :
    let bytes := 0xA6#8 :: 48#8 :: List.replicate 22 0
    let s := { onBus .online with
      spt := { strobes := true, index := some 9, settled := false, runCount := 1, lastGood := none, expected := some 46
               saturated := false } }
    let t := after (.recordComplete (bytes ++ [crc8 bytes])) s
    let u := after (.startMarkerWrong 0) { t with spt := { t.spt with settled := false } }
    t.spt.runCount = 2 ∧ t.spt.expected = some 49 ∧ t.ssc.station = .online ∧ u.spt.runCount = 3 ∧
      u.spt.expected = some 50 ∧ u.ssc.station = .tripped := by decide +kernel

/-- The worked handover (chapter 9): four equal stations at 4,800 kW give 800; a share of three gives 1,067, limited to
1,000; 4,200 kW over three gives 933. -/
theorem test_final_target :
    let peer (a : Addr) : Peer :=
      { addr := a, state := .handoverIn, contactor := true, ready := false, aborted := false, session := 5120
        rating := 2, p := 0, q := 0, lastSeq := 0, contOk := true, refreshed := 100000, stale := false }
    let s (ps : List Peer) : State := { onBus .handoverIn with pvw := { (onBus .handoverIn).pvw with peers := ps } }
    finalTarget (s [peer 1, peer 2, peer 3]) 480 = 800 ∧ finalTarget (s [peer 1, peer 2]) 480 = 1000 ∧
      finalTarget (s [peer 1, peer 2]) 420 = 933 := by decide +kernel

/-- The worked PREPARE to all stations (chapter 6): stations 1, 3, 5, 7 and 8. -/
theorem test_prepare_to_all :
    let params := beBytes 4 7301 ++ 60#8 :: (beBytes 2 1060 ++ [15#8])
    let held (x : StationState) (id : SessionId) (is60 opened : Bool) : State :=
      { at_ x with ssc := { station := x, session := some { session with id := id, is60 := is60, opened := opened } } }
    prepareReason params standing = .accepted ∧ prepareReason params (held .standby 7188 true true) = .accepted ∧
      prepareReason params (held .tripped 7301 true true) = .held ∧
      prepareReason params (held .closing 7188 true false) = .state ∧
      prepareReason params (held .standby 7301 false true) = .session ∧
      (after (.prepare 0 42 params) standing).ssc.session =
        some { id := 7301, is60 := true, voltage := 1050, minutes := 15, opened := true } := by decide +kernel

/-- The worked placement (chapter 11): offsets 2,784, 2,816 and 2,848 in sector 37, and the sector change at 4,080. -/
theorem test_placement :
    placement 2784 16 = some 2784 ∧ placement 2800 32 = some 2816 ∧ placement 2848 48 = some 2848 ∧
      placement 4080 32 = none ∧ nextSector 37 = 38 ∧ nextSector 511 = 1 := by decide +kernel

/-- The worked queue under a readout (chapter 3), steps 2 and 6: a chunk refused below 3 free entries, a REPLY in the place
of the oldest chunk. -/
theorem test_queue_under_readout :
    let log (n : Byte) : TxEntry := { frame := { kind := .logData, payload := [n] }, retry := 0, inAttempt := false }
    let l (q : List TxEntry) : Lkc := { Lkc.enable 0 with queue := q }
    let six := [log 1, log 2, log 3, log 4, log 5, log 6]
    ((l six).enqueue false { kind := .logData, payload := [7] }).2 = .refused ∧
      ((l (six ++ [log 8, log 9])).enqueue false { kind := .reply, payload := [] }).1.queue.map (·.frame.payload) =
        [[2], [3], [4], [5], [6], [8], [9], []] := by decide +kernel

/-- The worked remainder (chapter 10): the second interval closes at 75,000 Wh with 24,000,000 left. -/
theorem test_remainder_carried :
    let m := { meter with closedFwd := 74999, intervalFwd := 2160024000000, sessionFwd := 4319995200000 }
    let t := after (.mark 4 1 [0, 2, 1]) { onBus .supplying with emt := some m }
    t.emt.map (fun x => (x.closedFwd, x.intervalFwd, x.number, x.tariff)) = some (149999, 24000000, 3, 1) := by
  decide +kernel

/-- The worked trip (chapter 12): OVERCURRENT from SUPPLYING, then LINK_NOISY and MEASUREMENT_LOST as following causes, and
the CLEAR that takes the station to STANDBY with its session. -/
theorem test_trip_and_clear :
    let t := after .tripInAsserted (onBus .supplying)
    let u := hold .linkNoisy (hold .measurementLost t)
    let v := after (.clear 4 1 []) { u with tripIn := false }
    t.ssc.station = .tripped ∧ u.pru.first =
        some { cause := .tripInput, state := .supplying, following := [.measurementLost, .linkNoisy] } ∧
      v.ssc.station = .standby ∧ v.ssc.session = some session ∧ v.pru.held = [] ∧ v.pru.first = none := by decide +kernel

/-- R41: the run that reaches 11 bit times is a break, one clock before it is not; a short one ends in HUNT. -/
theorem test_break_at_eleven_bit_times :
    let l (n : Nat) : Lkc := { Lkc.enable 0 with rx := .dominantRun, ear := { Ear.initial with dominant := true, lasted := n } }
    ((l 879).listen 80 true).2 = some .breakDetected ∧ ((l 878).listen 80 true).2 = none ∧
      ((l 878).listen 80 false).1.rx = .hunt := by decide +kernel

/-- The worked sequence of three contenders (chapter 3): in data bit 4 of the first identifier byte, bit 15 after the break,
station 9 (0x29) sends dominant and station 3 (0x33) recessive, and station 3 loses the arbitration at the end of that bit. -/
theorem test_arbitration_at_its_bit :
    let a (addr : Addr) (k : FrameKind) (place : TxPlace) : Attempt :=
      { frame := { kind := k, payload := [] }, bytes := Frame.bytes addr { kind := k, payload := [] }, replaced := false
        place := place }
    (a 9 .claim .waiting).bitAt 15 = true ∧ (a 3 .status .waiting).bitAt 15 = false ∧
      ((a 3 .status (.sending (15 * 80 + 40))).talk 80 true) = (.losing 39, none) ∧
      ((a 3 .status (.losing 1)).talk 80 true).2 = some .arbitrationLost ∧
      ((a 9 .claim (.sending (15 * 80 + 40))).talk 80 true) = (.sending (15 * 80 + 41), none) := by decide +kernel

/-- R42, R45: a dominant stop bit heard in an own attempt is counted once the own frame is seen or the arbitration lost; R41,
R49: it is not where the station aborts that frame. -/
theorem test_own_abort_is_not_counted :
    let f : Frame := { kind := .claim, payload := [] }
    let s := { onBus .online with lkc := { (onBus .online).lkc with rx := .frame } }
    let own := { s with lkc := { s.lkc with attempt := some { frame := f, bytes := f.bytes 4, replaced := false } } }
    let met := after .stopBitDominant own
    met.lkc.badCount = 0 ∧ (after .ownFrameSeen met).lkc.badCount = 1 ∧ (after .arbitrationLost met).lkc.badCount = 1 ∧
      (after .bitError met).lkc.badCount = 0 ∧ (after .stopBitDominant s).lkc.badCount = 1 := by decide +kernel

/-- R109: after a join path close a bus fallen DEAD leads to no CLAIM; R105: after a claim path close, its energise timer
ended, it does. -/
theorem test_join_path_close_waits :
    let s (join : Bool) : State :=
      { at_ .joining with
        syn := { Syn.initial with settle := some 90000, cmdClosed := true, joinClosed := join }, ccAux := true }
    (after .settleTimerExpiry (s true)).lkc.queue = [] ∧ (after .settleTimerExpiry (s false)).lkc.queue.length = 1 := by
  decide +kernel

/-- R12, R177: after a warm reset in TRIPPED, the strobes not started again, a CLEAR leaves OVERCURRENT held while the latest
new sample met its check. -/
theorem test_overcurrent_lasts_through_a_warm_reset :
    let s (live : Bool) : State :=
      { at_ .tripped with
        msu := { Msu.initial with ocLive := live }
        pru := { held := [.overcurrent], waiting := [], first := some { cause := .overcurrent, state := .online, following := [] } } }
    let t (live : Bool) : State := after (.clear 4 1 []) (after .warmResetEnd (after .warmReset (s live)))
    (t true).pru.held = [.overcurrent] ∧ (t true).ssc.station = .tripped ∧ (t false).ssc.station = .standby := by
  decide +kernel

/-- R40, R43: idle is counted from the end of the abort break and of the byte, not from what was counted before. -/
theorem test_idle_counts_from_the_end :
    let e : Ear := { Ear.initial with quiet := 879 }
    let s := { onBus .online with lkc := { (onBus .online).lkc with
      ear := e, rx := .hunt, attempt := some { frame := { kind := .claim, payload := [] }, bytes := [], replaced := true } } }
    (after .bitError s).lkc.ear.quiet = 0 ∧ (after (.statusReceived 9 []) s).lkc.ear.quiet = 0 ∧
      (after (.statusReceived 9 []) { s with lkc := { s.lkc with ear := { e with heard := true } } }).lkc.ear.quiet = 879 ∧
      (let l : Lkc := { Lkc.enable 0 with rx := .frame, rxRun := 400, ear :=
         { Ear.initial with quiet := 500, clock := some 799, bits := List.replicate 10 false, bytes := [0x35, 0x30, 33] } }
       (l.listen 80 false).2 = some (.lengthAbove32 33) ∧ (l.listen 80 false).1.ear.quiet = 1) := by decide +kernel

/-- R169, R170: the exit at the end of a readout waits for the writer's program, and the readout ends with it. -/
theorem test_exit_waits_for_the_port :
    let s := { onBus .online with
      fpt := { Fpt.initial with port := some .writer, contRead := true, readout := some ⟨1, 24, 0, false⟩ }
      mem := { Memory.erased with cont := true, op := some (.program 4112 [0]) }
      rwr := { Rwr.initial with writer := .programming, op := some .configProgram, busy := some 99990 } }
    let t := after .readoutEndFrame s
    let u := after .programComplete t
    (t.fpt.readout.isSome = true ∧ t.mem.cont = true ∧ t.fpt.exitWaits = true) ∧ u.fpt = Fpt.initial ∧ u.mem.cont = false := by
  decide +kernel

/-- R135, R139: a station that joins beside a peer known to have aborted is not aborted by the peer's next STATUS, which
changes neither state nor flags, but by one that does. -/
theorem test_known_abort_is_no_change :
    let p (flags : Byte) : List Byte := [10, flags] ++ beBytes 4 5120 ++ [2] ++ List.replicate 9 0
    let s := after (.statusReceived 7 (p 0x51)) (onBus .online)
    let u := { s with ssc := { s.ssc with station := .handoverIn } }
    (after (.statusReceived 7 (p 0x51)) u).ssc.station = .handoverIn ∧
      (after (.contStatusReceived 7 [1, 0, 0, 0, 0, 0]) u).ssc.station = .handoverIn ∧
      (after (.statusReceived 7 (p 0x55)) u).ssc.station = .handoverOut := by decide +kernel

/-- R138, R139: the part timer's end judges the trip line where it sets ready-to-part, and not where the flag is set already. -/
theorem test_part_timer_judges_at_a_change :
    let s (ready : Bool) : State :=
      { onBus .handoverOut with
        hoc := { Hoc.initial with part := some 99000, ready := ready }, pvw := { Pvw.initial with peers := [] } }
    (after .partTimerExpiry (s false)).hoc.sbtLow = true ∧ (after .partTimerExpiry (s true)).hoc.sbtLow = false ∧
      (after .partTimerExpiry (s true)).hoc.part = none := by decide +kernel

/-- R125: a breaker that closes while the own permit drive is low makes SHIP_BREAKER_FAIL held, an alarm. -/
theorem test_breaker_without_permit :
    let t := after .sbAuxClose (onBus .online)
    t.pru.held = [.shipBreakerFail] ∧ t.ssc.station = .handoverIn ∧ t.hoc.pTarget = some 600000 := by decide +kernel

/-! ### Witnesses: states and operands that meet the hypotheses of the obligations

A witness for an obligation with several clauses meets each of them, at the bounds where a clause has a range. -/

/-- A station in HANDOVER_IN with frames, a record under way and a target, about to take a command. -/
def busy (c : Instr) : State :=
  let s := onBus .handoverIn
  { s with
    pending := [c], sbAux := true
    hoc := { s.hoc with pTarget := some 600000, pFinal := some 800, tick := some 100000, timer := some 99000, entered := 99000 }
    lkc := { s.lkc with queue := [{ frame := statusFrame s, retry := 0, inAttempt := false }] }
    rwr := { s.rwr with
      queue := [{ record := eventRecord 1 [1], session := some 5120, stamp := some 7 }], op := some (.record 1 4080)
      writer := .programming, busy := some 99990 }
    fpt := { s.fpt with port := some .writer }
    mem := { cells := [(8176, 0x06)], latch := true, cont := false
             op := some (.program 8176 (List.replicate 16 0)) } }

theorem witness_StepTakesFrontCommand :
    State.reset.pending = [] ∧ State.reset.pair = [] ∧ { State.reset with pair := [true] }.pair = true :: [] := ⟨rfl, rfl, rfl⟩
theorem witness_EveryStepKeepsTheTripLaw :
    TripInv (busy .tripInAsserted) ∧ ∃ t, step (busy .tripInAsserted) = .next t :=
  ⟨by unfold TripInv AtRest; decide +kernel, _, rfl⟩
theorem witness_EveryStepKeepsTheReferenceAndTargetBounds :
    FrequencyLaw (busy .handoverTick) ∧ TargetLaw (busy .handoverTick) ∧ ∃ t, step (busy .handoverTick) = .next t := by
  refine ⟨by unfold FrequencyLaw; decide +kernel, ⟨?_, ?_, by decide⟩, _, rfl⟩
  · intro t h
    obtain rfl : 600000 = t := Option.some.inj h
    decide
  · intro t h
    obtain rfl : 800 = t := Option.some.inj h
    decide
theorem witness_EveryStepKeepsTheTransmitQueue :
    QueueLaw (busy .cadenceExpiry) ∧ LinkLaw (busy .cadenceExpiry) ∧ ∃ t, step (busy .cadenceExpiry) = .next t :=
  ⟨by unfold QueueLaw; decide +kernel, by unfold LinkLaw; decide +kernel, _, rfl⟩
theorem witness_EveryStepKeepsThePeerView :
    ViewInv (busy (.peerEntryRemoved 7)) ∧ ∃ t, step (busy (.peerEntryRemoved 7)) = .next t :=
  ⟨by unfold ViewInv; decide +kernel, _, rfl⟩
theorem witness_EveryStepKeepsTheSession :
    SessionInv (busy .warmReset) ∧ ∃ t, step (busy .warmReset) = .next t := by
  refine ⟨⟨by decide, ?_, by decide⟩, _, rfl⟩
  intro c h ho
  obtain rfl : session = c := Option.some.inj h
  cases ho
/-- SHIP_SYNC with the dwell run out: ready set, the permit released. -/
def ready (c : Instr) : State :=
  let s := onBus .shipSync
  { s with pending := [c], syn := { s.syn with ready := true, permit := true, shipDwell := some 99200 } }
theorem witness_EveryStepKeepsThePermit :
    PermitInv (ready .sbAuxClose) ∧ ∃ t, step (ready .sbAuxClose) = .next t :=
  ⟨⟨by decide +kernel, fun _ => ⟨rfl, rfl, 99200, rfl, by decide⟩⟩, _, rfl⟩
theorem witness_EnergyBalancesAndOnlyRises :
    MeterLaw (busy (.mark 4 1 [0, 2, 1])) ∧ (∃ t, step (busy (.mark 4 1 [0, 2, 1])) = .next t) ∧
      sessionOpen (busy .intervalTick) = true ∧ (busy .intervalTick).emt = some meter ∧
      sessionId (busy .intervalTick) = sessionId (after .intervalTick (busy .intervalTick)) ∧
      (after .intervalTick (busy .intervalTick)).emt.isSome = true := by
  refine ⟨?_, ⟨_, rfl⟩, by decide +kernel, rfl, by decide +kernel, by decide +kernel⟩
  intro m h
  obtain rfl : meter = m := Option.some.inj h
  decide
theorem witness_EveryStepKeepsTheStore :
    StoreInv (busy .programComplete) ∧ ∃ t, step (busy .programComplete) = .next t := by
  refine ⟨⟨⟨by decide, by decide +kernel, ?_, by decide⟩, by decide +kernel, ?_, ?_, ?_, ?_, ?_⟩, _, rfl⟩
  · intro a d h
    obtain ⟨rfl, rfl⟩ : 8176 = a ∧ List.replicate 16 (0 : Byte) = d := MemOp.program.inj (Option.some.inj h)
    decide
  · intro b h
    cases h
  · intro op h
    obtain rfl : WriterOp.record 1 4080 = op := Option.some.inj h
    exact ⟨_, rfl, by decide +kernel⟩
  · intro op h
    cases h
  · intro op h
    cases h
  · intro r h
    cases h
theorem witness_InvariantsGiveTheDeviceLaws :
    TripInv (busy .warmReset) ∧ ViewInv (busy .warmReset) ∧ SessionInv (busy .warmReset) ∧ PermitInv (ready .sbAuxClose) ∧
      StoreInv (busy .programComplete) :=
  ⟨by unfold TripInv AtRest; decide +kernel, by unfold ViewInv; decide +kernel, witness_EveryStepKeepsTheSession.1,
    witness_EveryStepKeepsThePermit.1, witness_EveryStepKeepsTheStore.1⟩
theorem witness_OneStepMovesTheReferenceByTheRate :
    1 ≤ (busy (.carrierPeriodStart true)).params.rate ∧ (busy (.carrierPeriodStart true)).mod.gate ≠ .gatesOff ∧
      (after (.carrierPeriodStart true) (busy (.carrierPeriodStart true))).mod.gate ≠ .gatesOff := by decide +kernel

/-- A record of the given phase current and Vdc, with its CRC. -/
def record (current vdc : Nat) : List Byte :=
  let bytes := 0xA6#8 :: 5#8 :: (beBytes 2 current ++ List.replicate 16 0 ++ beBytes 2 vdc ++ [0, 0])
  bytes ++ [crc8 bytes]
/-- A station that waits for a record, with a run count and an expected sequence. -/
def awaiting (x : StationState) (runCount : Nat) (expected : Option Byte) : State :=
  { onBus x with
    spt := { strobes := true, index := some 9, settled := false, runCount := runCount, lastGood := none
             expected := expected, saturated := false } }
theorem witness_RecordsSettleTheirPeriods_good :
    unsettled (awaiting .prepared 2 none) = true ∧ unsettled (awaiting .supplying 0 (some 5)) = true ∧
      (record 30000 16000).length = 25 ∧ (record 30000 16000).head? = some 0xA6#8 ∧
      crc8 ((record 30000 16000).take 24) = (record 30000 16000).getD 24 0 ∧ (record 30000 16000).getD 1 0 = 5 ∧
      overcurrentMet (sampleOf (record 30000 16000)) = false ∧ dcFaultMet (sampleOf (record 30000 16000)) = false ∧
      dcFaultMet (sampleOf (record 0 31000)) = false ∧ dcFaultMet (sampleOf (record 0 31001)) = true := by decide +kernel
theorem witness_RecordsSettleTheirPeriods_missing :
    unsettled (awaiting .online 2 none) = true ∧ unsettled (awaiting .online 255 (some 5)) = true ∧
      (awaiting .online 255 (some 5)).spt.lastGood = none ∧ ((record 0 24000).set 24 0).length = 25 ∧
      ((record 0 24000).set 24 0).head? = some 0xA6#8 ∧
      crc8 (((record 0 24000).set 24 0).take 24) ≠ ((record 0 24000).set 24 0).getD 24 0 ∧
      (0xFE#8 ≠ 0xFF#8 ∧ 0xFE#8 ≠ 0xA6#8) := by decide +kernel
theorem witness_RecordsSettleTheirPeriods_gap :
    unsettled (awaiting .online 254 (some 4)) = true ∧ (record 0 24000).length = 25 ∧
      (record 0 24000).head? = some 0xA6#8 ∧ crc8 ((record 0 24000).take 24) = (record 0 24000).getD 24 0 ∧
      (awaiting .online 254 (some 4)).spt.expected = some 4 ∧ 4#8 ≠ (record 0 24000).getD 1 0 := by decide +kernel
theorem witness_TripCausesTrip_overcurrent :
    canTrip (awaiting .supplying 0 (some 5)) = true ∧ .overcurrent ∉ (awaiting .supplying 0 (some 5)).pru.held ∧
      unsettled (awaiting .supplying 0 (some 5)) = true ∧ (record 30001 24000).length = 25 ∧
      (record 30001 24000).head? = some 0xA6#8 ∧ crc8 ((record 30001 24000).take 24) = (record 30001 24000).getD 24 0 ∧
      (record 30001 24000).getD 1 0 = 5 ∧ 30000 < (sampleOf (record 30001 24000)).ia.toInt.natAbs := by decide +kernel
theorem witness_TripCausesTrip_checks :
    let vdc (n : Nat) : Int := (sampleOf (record 30000 n)).vdc.toInt
    unsettled (awaiting .supplying 0 (some 5)) = true ∧ canTrip (awaiting .supplying 0 (some 5)) = true ∧
      .dcFault ∉ (awaiting .supplying 0 (some 5)).pru.held ∧
      (∀ n ∈ [15999, 16000, 31000, 31001], (record 30000 n).length = 25 ∧ (record 30000 n).head? = some 0xA6#8 ∧
        crc8 ((record 30000 n).take 24) = (record 30000 n).getD 24 0 ∧ (record 30000 n).getD 1 0 = 5 ∧
        ¬ 30000 < (sampleOf (record 30000 n)).ia.toInt.natAbs) ∧
      vdc 15999 < 16000 ∧ ¬ (vdc 16000 < 16000 ∨ 31000 < vdc 16000) ∧ ¬ (vdc 31000 < 16000 ∨ 31000 < vdc 31000) ∧
      31000 < vdc 31001 ∧ 30000 < (sampleOf (record 32768 24000)).ia.toInt.natAbs := by decide +kernel
theorem witness_TripCausesTrip_inputAndBand :
    (onBus .supplying).tripIn = false ∧ .tripInput ∉ (onBus .supplying).pru.held ∧ canTrip (onBus .supplying) = true ∧
      sessionOpen (onBus .supplying) = true ∧ (onBus .supplying).lkc.enabled = true ∧ canTrip (at_ .tripped) = false ∧
      { onBus .supplying with tripIn := true }.tripIn = true ∧
      { onBus .supplying with btr := { (onBus .supplying).btr with oob := some 99000 } }.btr.oob = some 99000 ∧
      (onBus .supplying).params.tripBus = true ∧ .busFrequency ∉ (onBus .supplying).pru.held := by decide +kernel
theorem witness_VoltageIsTheNearestWhole :
    let c : CycleSum := { v2 := 320 * 1073741824, n := 320 }
    0 < c.n ∧ c.v2 ≤ c.n * 1073741824 ∧ c.n ≤ 320 ∧ voltageOf c = 2317 ∧ voltageOf { v2 := 1, n := 1 } = 0 := by
  decide +kernel
theorem witness_TrackersTimeCrossingsAndPhases :
    let t : Tracker := { prev := some (-1, 4), armed := true, tLast := some 0, periods := [1, 2, 3, 4], freq := none }
    t.prev = some (-1, 4) ∧ (-1 : Int) < 0 ∧ (0 : Int) ≤ 0 ∧ t.armed = true ∧ t.periods.length = 4 ∧
      (∀ x ∈ t.periods, 0 < x) ∧ (-1000 : Int) ≤ -1000 ∧ { t with armed := false }.armed = false ∧
      { t with periods := [1, 2, 3] }.periods.length < 4 ∧ { t with tLast := none }.tLast = none ∧
      Tracker.initial.prev = none := by decide +kernel
/-- ONLINE, the berth bus's fifth crossing at this record with the period list given: the ship bus and the module output have
their frequencies. -/
def crossing (periods : List Int) : State :=
  let s := awaiting .online 0 (some 5)
  let t : Tracker :=
    { prev := some (500, 8), armed := false, tLast := some 2020, periods := [34133, 34134, 34133, 34133], freq := some 60000 }
  { s with btr := { s.btr with
      berth := { t with prev := some (-500, 8), armed := true, tLast := some (2304 - 34133), periods := periods, freq := none }
      ship := t, module := t, dphiShip := none, slip := none } }
/-- R14, R16: the fourth period makes the frequency valid, with the slip and both phase differences; the third does not. -/
theorem witness_TrackersTimeCrossingsAndPhases_crossing :
    let s := crossing [34133, 34134, 34133]
    let t := after (.recordComplete (record 0 24000)) s
    let u := after (.recordComplete (record 0 24000)) (crossing [34133, 34134])
    s.btr.berth.crossing 0 9 = some 2304 ∧ t.btr.berth.freq = some 60000 ∧ t.btr.ship.freq = some 60000 ∧
      t.btr.module.freq = some 60000 ∧ t.btr.berth.tLast = some 2304 ∧ t.btr.ship.tLast = some 2020 ∧
      t.btr.ship.periods.getLast? = some 34133 ∧ t.btr.berth.periods.getLast? = some 34133 ∧ t.btr.dphiShip = some (-545) ∧
      t.btr.dphiJoin = some 545 ∧ t.btr.slip = some 0 ∧ u.btr.berth.freq = none ∧ u.btr.berth.periods.length = 3 ∧
      (let v := { onBus .online with spt := s.spt, btr := { t.btr with berth := { t.btr.berth with prev := some (500, 8) } } }
       (v.btr.berth.crossing 0 9).isSome = false ∧ (v.btr.ship.crossing 0 9).isSome = false ∧
         (v.btr.module.crossing 0 9).isSome = false ∧ unsettled v = true) := by decide +kernel
/-- The module's and the ship bus's cycle at their 320th sample with this record or this repeat, the berth bus's at its
319th. -/
theorem witness_TrackersTimeCrossingsAndPhases_closes :
    let s := { awaiting .online 0 (some 5) with msu := { Msu.initial with sumM := ⟨0, 319⟩, sumS := ⟨0, 319⟩, sumB := ⟨0, 318⟩ } }
    let u := { s with spt := { s.spt with lastGood := some (sampleOf (record 0 24000)) } }
    s.phase = .run ∧ unsettled s = true ∧ s.spt.index = some 9 ∧ (record 0 24000).length = 25 ∧
      (record 0 24000).head? = some 0xA6#8 ∧ crc8 ((record 0 24000).take 24) = (record 0 24000).getD 24 0 ∧
      s.spt.expected = some ((record 0 24000).getD 1 0) ∧ 320 ≤ s.msu.sumM.n + 1 ∧ s.msu.sumB.n + 1 < 320 ∧
      320 ≤ s.msu.sumS.n + 1 ∧ unsettled u = true ∧ u.spt.lastGood = some (sampleOf (record 0 24000)) ∧
      u.spt.runCount ≠ 2 ∧ (0#8 ≠ 0xFF#8 ∧ 0#8 ≠ 0xA6#8) ∧ (s.btr.ship.crossing 0 9).isSome = false ∧
      (s.btr.module.crossing 0 9).isSome = false ∧ (s.btr.berth.crossing 0 9).isSome = false ∧
      (({ Tracker.initial with prev := some (-1, 8), armed := true } : Tracker).crossing 0 9).isSome = true := by
  decide +kernel
/-- A sample at which every cycle closes, the berth bus in a state before it, the three buses at voltage 0 or 1,000 ‰. -/
def closes (x : StationState) (bus : BusState) (live : Bool) (sumP : Int) : State :=
  let s := awaiting x 0 (some 5)
  let sum : CycleSum := if live then ⟨319 * 200000000, 319⟩ else ⟨0, 319⟩
  { s with
    msu := { s.msu with sumB := sum, sumS := sum, sumM := ⟨0, 319⟩, sumP := sumP }
    btr := { s.btr with berthState := bus }
    syn := { s.syn with claim := .foreign 2 99000, settle := some 99000 } }
/-- R17, R104, R105, R138: the berth bus leaves DEAD, falls DEAD in JOINING, keeps its state; the berth frequency, lost by a close
without a crossing, is out of band; a module close at the part-ready threshold of 30 ‰ and above it. -/
theorem witness_TrackersTimeCrossingsAndPhases_timers :
    let c := Instr.recordComplete (record 0 24000)
    (after c (closes .joining .dead true 0)).btr.berthState = .abnormal ∧
      (after c (closes .joining .abnormal false 0)).btr.berthState = .dead ∧
      (after c (closes .joining .abnormal false 0)).ssc.station = .joining ∧
      (after c (closes .joining .dead false 0)).btr.berthState = .dead ∧
      (after c (closes .joining .dead false 0)).ssc.station = .joining ∧
      (after c (closes .online .abnormal true 0)).ssc.station = .online ∧
      (after c (closes .online .abnormal true 0)).btr.berth.freq = none ∧
      (after c (closes .handoverOut .abnormal true (30 * 320 * 346410))).ssc.station = .handoverOut ∧
      (after c (closes .handoverOut .abnormal true (30 * 320 * 346410))).msu.p = 30 ∧
      (after c (closes .handoverOut .abnormal true (31 * 320 * 346410))).msu.p = 31 ∧
      (closes .handoverOut .abnormal true 0).params.partReady = 30 := by decide +kernel
/-- R138: while SBT is low a module close above the threshold returns the part timer to zero and keeps ready-to-part, and one at
the threshold starts it again from there. -/
theorem test_part_timer_with_ready_set :
    let low (sumP : Int) (part : Timer) : State :=
      { closes .handoverOut .abnormal true sumP with
        hoc := { Hoc.initial with ready := true, sbtLow := true, part := part } }
    let above := (after (.recordComplete (record 0 24000)) (low (31 * 320 * 346410) (some 99000))).hoc
    let at_threshold := (after (.recordComplete (record 0 24000)) (low (30 * 320 * 346410) above.part)).hoc
    above.part = none ∧ above.ready = true ∧ at_threshold.part = some 100000 ∧ at_threshold.ready = true := by
  decide +kernel
theorem witness_PeriodWorkFollowsItsRules_late :
    unsettled (awaiting .online 2 none) = true ∧ canTrip (awaiting .online 2 none) = true ∧
      .measurementLost ∉ (awaiting .online 2 none).pru.held ∧ canTrip (awaiting .tripped 2 none) = false ∧
      (awaiting .online 3 none).spt.runCount ≠ 2 := by decide +kernel
theorem witness_PeriodWorkFollowsItsRules :
    unsettled (awaiting .online 2 none) = true ∧ (awaiting .online 2 none).spt.lastGood = none ∧
      (awaiting .online 1 none).mod.gate = .running ∧ unsettled (onBus .online) = false ∧ (onBus .online).mod.gate = .running ∧ unsettled (at_ .prepared) = false ∧
      (at_ .prepared).mod.gate = .gatesOff ∧ tripHeld (at_ .prepared) = false ∧ 0 ≤ (onBus .online).params.rate := by
  decide +kernel
/-- PREPARED in the soft start, at a count. -/
def softAt (k : Nat) : State := { onBus .prepared with mod := { Mod.off with gate := .softStart }, rfg := { Rfg.initial with k := k } }
theorem witness_GatesStartAndSoftStartCompletes :
    (at_ .prepared).mod.gate = .gatesOff ∧ tripHeld (at_ .prepared) = false ∧ unsettled (at_ .prepared) = false ∧
      (at_ .tripped).mod.gate = .gatesOff ∧ unsettled (at_ .tripped) = false ∧ unsettled (softAt 3999) = false ∧
      (softAt 3999).rfg.k < 4000 ∧ unsettled (softAt 4000) = false ∧ (softAt 4000).rfg.k = 4000 := by decide +kernel
/-- R34's worked timing for a compare value of 654: ideally high from clock 596 to 1,903. -/
theorem witness_OutputStaysInRangeWithDeadTime :
    (0 : Int) ≤ 1000 ∧ (-32767 : Int) ≤ -32767 ∧ compareValue 1000 (-32767) = 20 ∧ compareValue 1000 32767 = 1230 ∧
      Mod.off.gate = .gatesOff ∧
      (let x : Mod := { gate := .running, ca := 654, cb := 20, cc := 1230, pa := 654, pb := 1230, pc := 20 }
       x.gate ≠ .gatesOff ∧ (∀ c ∈ [x.ca, x.cb, x.cc, x.pa, x.pb, x.pc], 20 ≤ c ∧ c ≤ 1230) ∧ 2499 < 2500) ∧
      ¬ IdealHigh 654 654 595 ∧ IdealHigh 654 654 596 ∧ IdealHigh 654 654 1903 ∧ ¬ IdealHigh 654 654 1904 := by
  unfold IdealHigh; decide +kernel
/-- Station 4 with an attempt of its frame under way; `retry` counts the attempts before. -/
def attempting (kind : FrameKind) (retry : Nat) (replaced : Bool) : State :=
  let f : Frame := { kind := kind, payload := List.replicate 16 0 }
  { onBus .online with lkc := { (onBus .online).lkc with
      queue := [{ frame := f, retry := retry, inAttempt := true }, { frame := { f with kind := .reply }, retry := 0, inAttempt := false }]
      attempt := some { frame := f, bytes := f.bytes 4, replaced := replaced } } }
/-- That attempt at a place of its own, with one level to come on the pair. -/
def placed (place : TxPlace) (d : Bool) : State :=
  let s := attempting .status 0 false
  { s with pair := [d], lkc := { s.lkc with attempt := s.lkc.attempt.map fun a => { a with place := place } } }
theorem witness_SyncByteIsJudged :
    (onBus .online).phase = .run ∧ (onBus .online).lkc.enabled = true ∧ countsBad (onBus .online) = true ∧
      94 * 400 ≤ 100 * 376 ∧ 100 * 424 ≤ 106 * 400 ∧ 100 * 375 < 94 * 400 ∧ 106 * 400 < 100 * 425 ∧
      94 * 200 ≤ 100 * 188 ∧ 100 * 212 ≤ 106 * 200 := by decide +kernel
/-- An attempt in which bad frames have been met, the count of the window so far. -/
def badAttempt (count bad : Nat) : State :=
  let s := attempting .status 0 false
  { s with lkc := { s.lkc with badCount := count, attempt := s.lkc.attempt.map fun a => { a with bad := bad } } }
theorem witness_bad_frames_of_an_attempt :
    (attempting .status 0 false).lkc.attempt.isSome = true ∧ (attempting .status 0 false).phase = .run ∧
      (attempting .status 0 false).lkc.enabled = true ∧ (onBus .online).lkc.attempt = none ∧
      (badAttempt 0 0).lkc.attempt.map (·.bad) = some 0 ∧ (badAttempt 15 1).lkc.attempt.map (·.bad) = some 1 ∧
      countsBad (badAttempt 15 1) = true ∧ 16 ≤ (badAttempt 15 1).lkc.badCount + 1 ∧ (badAttempt 14 1).lkc.badCount + 1 < 16 ∧
      countsBad (standing) = true ∧
      countsBad { at_ .standby with params := { Params.default with quiet := true } } = false := by decide +kernel
theorem witness_BadFramesAreCounted :
    let s := { onBus .online with lkc := { (onBus .online).lkc with badCount := 15, rx := .frame } }
    s.phase = .run ∧ (onBus .online).lkc.rx ≠ .frame ∧ s.lkc.rx = .frame ∧ s.lkc.enabled = true ∧ s.lkc.ownAbort = false ∧ countsBad s = true ∧ 32 < (33#8).toNat ∧ (32#8).toNat ≤ 32 ∧
      ([0#8, 0#8] ≠ beBytes 2 (crc16 (0x31#8 :: 0x30#8 :: BitVec.ofNat 8 0 :: [])).toNat) ∧ (0x3D#8).toNat % 16 = 13 := by
  decide +kernel
theorem witness_ReceiverAndLinkTimersFollowThePair :
    (onBus .online).phase = .run ∧ (onBus .online).lkc.enabled = true ∧ (onBus .online).lkc.rx ≠ .frame ∧
      { (onBus .online).lkc with ownAbort := true }.ownAbort = true ∧ (onBus .online).lkc.ear.heard = false ∧
      { (onBus .online).lkc.ear with heard := true }.heard = true ∧ (onBus .online).lkc.window = some 100000 ∧
      { (onBus .online).lkc with dup := some 99000 }.dup = some 99000 := by decide +kernel
/-- A receiver in a state, with what it has followed of the pair. -/
def hearing (rx : RxState) (ear : Ear) : Lkc := { Lkc.enable 0 with rx := rx, rxRun := 400, ear := ear }
theorem witness_ReceiverAndLinkTimersFollowThePair_heard :
    (let s := { onBus .online with pair := [true] }
     HearsNext 80 true [] s ∧ s.lkc.attempt = none ∧ s.lkc.rx = .hunt) ∧
      11 * 80 ≤ { Ear.initial with lasted := 879 }.lasted + 1 ∧ ¬ 11 * 80 ≤ { Ear.initial with lasted := 878 }.lasted + 1 ∧
      (let l := hearing .frame { Ear.initial with bytes := [0x35, 0x30] }
       l.rx = .frame ∧ l.rxRun = 5 * 80 ∧ l.ear.dominant = false ∧ l.ear.clock = none) := by
  unfold HearsNext; decide +kernel
theorem witness_TransmissionTakesTheHead :
    let s := { onBus .online with lkc := { (busy .linkIdle).lkc with linkIdle := true } }
    s.phase = .run ∧ s.lkc.enabled = true ∧ s.lkc.linkIdle = true ∧ s.lkc.attempt = none ∧ s.lkc.queue ≠ [] := by
  decide +kernel
theorem witness_TransmissionTakesTheHead_ticks :
    HearsNext 80 true [] (placed (.brk 1038) true) ∧ HearsNext 80 true [] (placed (.brk 1039) true) ∧
      HearsNext 80 true [] (placed .waiting true) ∧ HearsNext 80 false [] (placed .waiting false) ∧
      HearsNext 80 false [] (placed (.sending 1) false) ∧
      (∀ a, (placed (.sending 17678) false).lkc.attempt = some a →
        (a.levels.drop 13).getD 0 false = false ∧ (a.levels.drop 13).getD (17678 / 80) false = false ∧
          17678 + 1 < 80 * (1 + 10 * a.bytes.length) ∧ 80 * (1 + 10 * a.bytes.length) ≤ 17679 + 1) ∧
      (∀ a, (attempting .status 0 false).lkc.attempt = some a →
        a.place = .brk 0 ∧ (a.levels.flatMap (List.replicate 80)).length = 18720) := by
  refine ⟨⟨rfl, rfl, rfl, rfl⟩, ⟨rfl, rfl, rfl, rfl⟩, ⟨rfl, rfl, rfl, rfl⟩, ⟨rfl, rfl, rfl, rfl⟩, ⟨rfl, rfl, rfl, rfl⟩, ?_, ?_⟩ <;>
    (rintro a h; cases h; decide +kernel)
theorem witness_FailedAttemptsKeepOrDiscardTheFrame :
    (attempting .status 14 false).lkc.attempt.isSome = true ∧ (attempting .status 15 false).lkc.enabled = true ∧
      (attempting .status 15 true).phase = .run ∧
      (attempting .status 15 false).lkc.queue =
        [] ++ { frame := { kind := .status, payload := List.replicate 16 0 }, retry := 15, inAttempt := true } ::
          [{ frame := { kind := .reply, payload := List.replicate 16 0 }, retry := 0, inAttempt := false }] ∧
      (attempting .status 15 false).params.tripTx = false ∧ (attempting .status 15 false).ssc.station ≠ .joining := by
  decide +kernel
theorem witness_FailedAttemptsKeepOrDiscardTheFrame_ticks :
    HearsNext 80 false [] (placed (.brk (12 * 80 + 40)) false) ∧ (12 * 80 + 40) % 80 = 80 / 2 ∧
      HearsNext 80 true [] (placed (.sending (10 * 80 + 80 / 2)) true) ∧
      HearsNext 80 false [] (placed (.sending (5 * 80 + 80 / 2)) false) ∧
      HearsNext 80 true [] (placed (.losing 1) true) ∧ HearsNext 80 true [] (placed (.losing 2) true) ∧
      HearsNext 80 true [] (placed (.failing 1 false) true) ∧ HearsNext 80 true [] (placed (.aborting 1038) true) ∧
      HearsNext 80 true [] (placed (.aborting 1039) true) ∧
      ∀ a, (placed .waiting true).lkc.attempt = some a →
        [5, 10, 11, 14, 30, 31].map (fun i => (a.levels.drop 13).getD i false) = [true, false, true, false, false, true] ∧
          (a.levels.drop 13).getD 40 false = false := by
  refine ⟨⟨rfl, rfl, rfl, rfl⟩, rfl, ⟨rfl, rfl, rfl, rfl⟩, ⟨rfl, rfl, rfl, rfl⟩, ⟨rfl, rfl, rfl, rfl⟩, ⟨rfl, rfl, rfl, rfl⟩,
    ⟨rfl, rfl, rfl, rfl⟩, ⟨rfl, rfl, rfl, rfl⟩, ⟨rfl, rfl, rfl, rfl⟩, ?_⟩
  rintro a h; cases h; decide +kernel
/-- JOINING, settled on a DEAD bus, the CLAIM's attempt after 15 failed ones; with `tripTx`, LINK_TX_FAIL is trip class. -/
def discarding (tripTx joinClosed : Bool) : State :=
  let s := attempting .claim 15 false
  { s with
    ssc := { s.ssc with station := .joining }, btr := { s.btr with berthState := .dead }
    params := { s.params with tripTx := tripTx }
    syn := { Syn.initial with settled := true, cmdClosed := joinClosed, joinClosed := joinClosed } }
theorem witness_FailedAttemptsKeepOrDiscardTheFrame_claim :
    (discarding false false).lkc.attempt.isSome = true ∧ (discarding false false).phase = .run ∧
      (discarding false false).lkc.enabled = true ∧
      (discarding false false).lkc.queue.map (fun e => (e.retry, e.inAttempt, e.frame.kind == .claim)) =
        [] ++ (15, true, true) :: [(0, false, false)] ∧
      (discarding false false).syn.claim = .free ∧ (discarding false false).syn.claimWait = false ∧
      sessionId (discarding false false) = some 5120 ∧ (discarding false false).syn.cmdClosed = false ∧
      ((discarding false true).syn.cmdClosed = true ∧ (discarding false true).syn.joinClosed = true) ∧
      (discarding true false).params.tripTx = true ∧ canTrip (discarding true false) = true ∧
      .linkTxFail ∉ (discarding true false).pru.held := by decide +kernel
theorem witness_OwnFrameSeenLeavesTheQueue :
    (attempting .contStatus 0 false).lkc.attempt.isSome = true ∧ (attempting .contStatus 0 true).lkc.enabled = true ∧
      ((attempting .contStatus 0 true).lkc.attempt.map (·.frame.kind)) = some .contStatus ∧
      (attempting .contStatus 0 true).lkc.queue.map (·.inAttempt) = [] ++ true :: [false] ∧
      (attempting .status 3 true).lkc.queue.map (·.frame.isStatus) = [] ++ true :: [false] ∧
      ((attempting .status 3 true).lkc.attempt.map (·.frame.isStatus)) = some true := by decide +kernel
theorem witness_FramesAreDroppedOrHeardAsDuplicates :
    (onBus .online).phase = .run ∧ (onBus .online).lkc.enabled = true ∧ (onBus .online).addr = 4 ∧
      (∀ a ∈ [9#4, 12, 14, 15], a ≠ 4 ∧ a ≠ 0 ∧ a ≠ 13) ∧ standing.addr = 4 ∧ standing.lkc.enabled = true ∧
      isStation 4 = true ∧ .duplicateAddress ∉ (onBus .online).pru.held ∧ canTrip (onBus .online) = true ∧
      canTrip (at_ .tripped) = false := by decide +kernel
/-- A STATUS from the gateway, a REQUEST for station 5, one without a target, a STATUS in listening mode, a frame of an unknown
kind: each reported, and none handed on. -/
theorem witness_FramesAreDroppedOrHeardAsDuplicates_dropped :
    (Reports (.statusReceived 14 []) ⟨3, 14, 0x30, []⟩ ∧ ¬ HandedOn (onBus .online) ⟨3, 14, 0x30, []⟩) ∧
      (Reports (.prepare 5 1 [2]) ⟨1, 15, 0x10, [5, 1, 1, 2]⟩ ∧ ¬ HandedOn (onBus .online) ⟨1, 15, 0x10, [5, 1, 1, 2]⟩) ∧
      (Reports (.frameDropped 1 15 0x10 []) ⟨1, 15, 0x10, []⟩ ∧ ¬ HandedOn (onBus .online) ⟨1, 15, 0x10, []⟩) ∧
      (Reports (.statusReceived 12 []) ⟨3, 12, 0x30, []⟩ ∧ ¬ HandedOn standing ⟨3, 12, 0x30, []⟩) ∧
      (Reports (.badFrame (withCrc16 [0x39, 0x02, 0])) ⟨3, 9, 0x02, []⟩ ∧ ¬ HandedOn (onBus .online) ⟨3, 9, 0x02, []⟩) := by
  refine ⟨⟨.inr (.inr (.inl (by decide))), ?_⟩,
    ⟨.inr (.inr (.inr (.inr ⟨rfl, rfl, rfl, .inr ⟨5, 1, 1, [2], rfl, by decide⟩⟩))), ?_⟩, ⟨.inl rfl, ?_⟩,
    ⟨.inr (.inr (.inl (by decide))), ?_⟩, ⟨.inr (.inl ⟨by decide, rfl⟩), ?_⟩⟩ <;>
    (rintro (⟨_, _, _, a, l, h, h2⟩ | h)
     · first | cases h; revert h2; decide | cases h
     · revert h; decide)
/-- The own address in each row that can carry it, and in a good frame given as a bad one (R51). -/
theorem witness_FramesAreDroppedOrHeardAsDuplicates_own :
    (∀ r ∈ [(Instr.tripNoticeReceived 4 [1, 9], (⟨0, 4, 0x01, [1, 9]⟩ : Received)), (.claimReceived 4 [], ⟨2, 4, 0x20, []⟩),
        (.statusReceived 4 [], ⟨3, 4, 0x30, []⟩), (.contStatusReceived 4 [], ⟨4, 4, 0x31, []⟩)], Reports r.1 r.2) ∧
      Reports (.frameDropped 1 4 0x11 []) ⟨1, 4, 0x11, []⟩ ∧
      Reports (.badFrame (withCrc16 [0x34, 0x30, 0])) ⟨3, 4, 0x30, []⟩ :=
  ⟨fun r h => .inr (.inr (.inl (by revert r; decide))), .inl rfl, .inr (.inl ⟨by decide, rfl⟩)⟩

/-- The STATUS payload of a peer in HANDOVER_OUT with aborted set, in the session. -/
def abortedStatus : List Byte := [10, 0x51] ++ beBytes 4 5120 ++ [2] ++ List.replicate 9 0
theorem witness_PeerBroadcastsSetTheirEntry :
    (onBus .online).lkc.enabled = true ∧ (onBus .online).ssc.station.listening = false ∧ isStation 7 = true ∧
      (7#4 ≠ (onBus .online).addr) ∧ abortedStatus.length = 16 ∧ (abortedStatus.getD 6 0).toNat ≤ 3 ∧
      (abortedStatus.getD 0 0).toNat = StationState.handoverOut.code ∧ StationState.handoverOut.broadcasting = true ∧
      (3#8).toNat = 3 ∧ (13#8).toNat > 12 ∧ (2#8).toNat < 3 ∧ [8#8, 0, 0, 0, 0, 0].length = 6 ∧
      (peerAt 7 (onBus .online).pvw.peers).isSome = true ∧ peerAt 9 (onBus .online).pvw.peers = none := by decide +kernel
theorem witness_NoticesAndShipStatusAreFiled :
    let s := { onBus .online with syn := { (onBus .online).syn with claim := .foreign 7 99000 } }
    s.phase = .run ∧ s.lkc.enabled = true ∧ s.ssc.station.listening = false ∧ s.ssc.station ≠ .joining ∧
      s.ssc.station.shipConnected = false ∧ isStation 7 = true ∧ (7#4 ≠ s.addr) ∧ [1#8, 9].length = 2 ∧
      s.syn.claim = .foreign 7 99000 ∧ s.addr ≠ 14 ∧ [8#8, 1, 2, 0].length = 4 ∧ (8#8).toNat ≤ 8 := by decide +kernel
theorem witness_ShipStatusTurnsTheHandover :
    let s := { onBus .supplying with hoc := { Hoc.initial with returnArmed := true } }
    s.phase = .run ∧ s.lkc.enabled = true ∧ s.addr ≠ 14 ∧ [1#8, 0, 0, 0].length = 4 ∧ s.hoc.returnArmed = true ∧
      1 ≤ (1#8).toNat ∧ (onBus .handoverIn).ssc.station = .handoverIn ∧ (0#8).toNat = 0 ∧
      (onBus .supplying).hoc.returnArmed = false := by decide +kernel
theorem witness_CadenceSubmitsOneBroadcast :
    (onBus .online).phase = .run ∧ (onBus .online).ssc.station.broadcasting = true ∧
      (onBus .online).pvw.cadence = some 100000 ∧ ((onBus .online).pvw.slot + 1) % 5 ≠ 0 ∧ (4 + 1) % 5 = 0 ∧
      { (onBus .online).pvw with slot := 4 }.slot = 4 ∧ (onBus .tripped).ssc.station = .tripped := by decide +kernel
theorem witness_EntriesAndShipRecordAge :
    (onBus .online).phase = .run ∧ (onBus .online).ssc.station ≠ .handoverOut ∧
      (peerAt 7 (onBus .online).pvw.peers).isSome = true ∧ (onBus .online).pvw.ship.isSome = true ∧
      (onBus .handoverIn).hoc.stale = none ∧ (onBus .handoverIn).pvw.ship.isSome = true := by decide +kernel
theorem witness_SharingTickSteersTheTrims :
    let s := { onBus .supplying with now := 100008 }
    s.phase = .run ∧ s.shc.tick = some 100000 ∧ 100000 + 8 ≤ s.now ∧ s.ccAux = true ∧
      (peerParticipants s).length = 2 := by decide +kernel
theorem witness_RestorationStepsInSupplying :
    let s := { onBus .supplying with shc := { (onBus .supplying).shc with rest := some 100000 } }
    s.phase = .run ∧ s.shc.rest = some 100000 ∧ s.ssc.station = .supplying ∧ s.btr.berth.freq = some 60080 ∧
      (onBus .handoverOut).ssc.station ≠ .supplying := by decide +kernel

/-- The payload bytes of a PREPARE. -/
def prepareBytes (id v minutes : Nat) : List Byte := beBytes 4 id ++ BitVec.ofNat 8 60 :: (beBytes 2 v ++ [BitVec.ofNat 8 minutes])
theorem witness_PrepareWakesTheStation :
    (standing.phase = .run ∧ standing.lkc.enabled = true ∧ isStation standing.addr = true ∧ (4#8).toNat = standing.addr.toNat) ∧
      standing.ssc.station = .standby ∧ standing.ssc.session.isSome = standing.emt.isSome ∧ standing.lkc.queue.length ≤ 6 ∧
      standing.rwr.queue.length ≤ 13 ∧ (7301#32 ≠ 0) ∧ 65535 < 65536 ∧ 5 ∈ [5, 10, 15, 30, 60] ∧ 60 ∈ [5, 10, 15, 30, 60] ∧
      standing.ssc.session = none ∧ (at_ .standby).ssc.session = some session ∧ session.id = 5120#32 ∧
      (at_ .standby).ssc.session.isSome = (at_ .standby).emt.isSome ∧
      (after (.prepare 4 1 (prepareBytes 7301 1051 5)) standing).ssc.session.map (·.voltage) = some 1050 ∧
      (after (.prepare 0 1 (prepareBytes 7301 949 60)) standing).ssc.session.map (·.voltage) = some 950 ∧
      (after (.prepare 0 1 (prepareBytes 5120 1000 15)) (at_ .standby)).ssc.station = .prepared ∧
      (after (.prepare 0 1 (prepareBytes 7301 1000 15)) (at_ .standby)).rwr.queue.length = 3 := by decide +kernel
theorem witness_named : Named 0 (onBus .online) ∧ Named 4 (onBus .online) ∧ Named 0 standing := by
  unfold Named; decide +kernel
theorem witness_ShipSyncAndReturnAreTaken :
    Named 4 (onBus .online) ∧ (onBus .online).btr.shipState = .live ∧ Named 4 (onBus .shipSync) ∧
      (onBus .shipSync).lkc.queue.length < 8 ∧ Named 4 (onBus .supplying) ∧ Named 4 (onBus .closing) ∧
      (onBus .online).btr.ship.freq = some 60000 ∧ (at_ .prepared).lkc.queue.length < 8 ∧
      (prepareBytes 5120 0 0).length = 8 ∧ (at_ .prepared).ssc.session = some session ∧
      BitVec.ofNat 32 (fieldNat (prepareBytes 5120 0 0) 0 4) = session.id := by unfold Named; decide +kernel
theorem witness_DisconnectClosesTheSession :
    Named 4 (onBus .online) ∧ (onBus .online).ssc.session = some session ∧ (onBus .online).emt = some meter ∧
      (onBus .online).rwr.queue.length ≤ 14 ∧ (onBus .online).lkc.queue.length ≤ 5 := by unfold Named; decide +kernel
/-- CLOSING, with its CLOSED session. -/
def closing : State := { at_ .closing with ssc := { station := .closing, session := some { session with opened := false } } }
theorem witness_ClosingEndsWhenItsRecordsAreWritten :
    closing.phase = .run ∧ closing.ssc.session = some { session with opened := false } ∧
      (∀ r ∈ closing.rwr.queue, r.session ≠ some session.id) ∧
      (∃ r ∈ (busy .closingEnd).rwr.queue, r.session = some session.id) ∧
      { closing with rwr := (busy .closingEnd).rwr }.rwr.writer ≠ .faulted ∧ closing.lkc.enabled = true ∧
      closing.lkc.queue.length < 8 ∧ (∀ e ∈ closing.lkc.queue, e.frame.isStatus = false) := by decide +kernel
/-- R58, R60, R62, 13.3: the STATUS announcing STANDBY that station 4 of rating class 2, its contactor open and so its permit
released, submits at the end of CLOSING. -/
theorem test_standby_status :
    ((after .closingEnd closing).lkc.queue.getLast?.map fun e => e.frame.payload.take 7) = some [3, 0x42, 0, 0, 0, 0, 2] := by
  decide +kernel
theorem witness_MarkClosesSkipsOrDeclines :
    Named 4 (onBus .online) ∧ (onBus .online).ssc.station ≠ .starting ∧ (onBus .online).ssc.session = some session ∧
      session.opened = true ∧ (onBus .online).emt = some meter ∧ (0 < 1 ∧ 65535 < 65536) ∧ 1 < meter.number ∧
      meter.number ≤ 2 ∧ meter.number ≤ 65535 ∧ (onBus .online).rwr.queue.length ≤ 15 ∧ (onBus .online).lkc.queue.length ≤ 6 := by
  unfold Named; decide +kernel
theorem witness_ReadMeterReportsWholeWattHours :
    Named 4 (onBus .online) ∧ (onBus .online).ssc.station ≠ .starting ∧ (onBus .online).ssc.session = some session ∧
      session.opened = true ∧ (onBus .online).emt = some meter ∧ (onBus .online).lkc.queue.length < 8 ∧
      meter.sessionFwd = 28800000 * meter.closedFwd + meter.intervalFwd := by unfold Named; decide +kernel
/-- TRIPPED, holding conditions. -/
def holding (x : StationState) (held : List Condition) : State :=
  { at_ x with pru := { Pru.initial with held := held, first := some { cause := .tripInput, state := .online, following := [] } } }
theorem witness_ClearRemovesWhatIsOver :
    Named 4 (holding .online [.syncTimeout]) ∧ .recordStoreFault ∉ (holding .online [.syncTimeout]).pru.held ∧
      (∀ c ∈ (holding .tripped [.tripInput]).pru.held, causeLive (holding .tripped [.tripInput]) c = true →
        tripClass (holding .tripped [.tripInput]).params c = false) ∧
      (let s := { holding .tripped [.tripInput] with tripIn := true }
       ∃ c ∈ s.pru.held, causeLive s c = true ∧ tripClass s.params c = true) ∧
      (let s := { holding .standby [.recordStoreFault] with rwr := { Rwr.initial with writer := .faulted, recovered := true } }
       s.rwr.writer = .faulted ∧ .recordStoreFault ∈ s.pru.held ∧ s.rwr.faultBusy = false) ∧
      sessionOpen (holding .tripped [.tripInput]) = true ∧ (at_ .tripped).pru.first = none ∧
      (holding .tripped [.tripInput]).pru.first.isSome = true := by unfold Named; decide +kernel
theorem witness_StoreRequestsAreTaken :
    Named 4 standing ∧ standing.lkc.queue.length < 8 ∧ 511 < 512 ∧ 4095 + 1 ≤ 4096 ∧ 0 + 4096 ≤ 4096 ∧
      standing.fpt.readout = none ∧ (List.replicate 28 (0#8)).length = 28 ∧ standing.rwr.config = none ∧
      (0#8).toNat = 0 ∧ 9 < (10#8).toNat ∧ (at_ .starting).ssc.station = .starting := by unfold Named; decide +kernel
/-- R100's states: each kind in states that do not accept it, and the kinds that TRIPPED takes. -/
theorem witness_RefusedRequestsChangeNothing_states :
    (∀ x ∈ [StationState.standby, .prepared, .joining, .online, .shipSync, .handoverIn, .supplying, .handoverOut, .closing],
      Named 4 (onBus x) ∧ (onBus x).lkc.queue.length < 8 ∧ x ≠ .starting ∧ x ≠ .tripped) ∧
      (∀ x ∈ [StationState.standby, .shipSync, .handoverIn], x ∉ [StationState.prepared, .joining, .online, .closing]) ∧
      (∀ x ∈ [StationState.shipSync, .closing, .supplying], x ≠ .standby ∧ x ∉ [StationState.prepared, .joining, .online]) ∧
      sessionId (onBus .joining) ≠ some (BitVec.ofNat 32 (fieldNat (prepareBytes 7301 1000 15) 0 4)) ∧
      (let s := { at_ .tripped with
         ssc := { station := .tripped, session := none }
         fpt := { Fpt.initial with readout := some { sector := 1, next := 0, remaining := 1, ended := false } } }
       Named 4 s ∧ s.ssc.station ≠ .starting ∧ sessionOpen s = false ∧ s.fpt.readout.isSome = true ∧ s.lkc.queue.length < 8) ∧
      (511 < 512 ∧ 4095 + 1 ≤ 4096 ∧ 0 + 4096 ≤ 4096) := by unfold Named; decide +kernel
theorem witness_RefusedRequestsChangeNothing :
    Named 4 (at_ .starting) ∧ Named 4 (at_ .tripped) ∧ (List.replicate 7 (0#8)).length ≠ 8 ∧
      (List.replicate 9 (0#8)).length ≠ 8 ∧ (onBus .online).btr.shipState = .live ∧
      { (onBus .online).btr with shipState := .abnormal }.shipState ≠ .live ∧ (at_ .prepared).ssc.station ≠ .supplying ∧
      (onBus .supplying).ssc.station.shipConnected = true ∧
      sessionId (onBus .online) ≠ some (BitVec.ofNat 32 (fieldNat (List.replicate 8 0) 0 4)) ∧
      fieldNat (List.replicate 8 0) 0 4 = 0 ∧ sessionOpen standing = false ∧
      (let ps : List Byte := prepareBytes 5120 1000 15
       ps.length = 8 ∧ (at_ .standby).ssc.session = some session ∧ session.id ≠ 0 ∧ fieldNat ps 0 4 = session.id.toNat ∧
         (ps.getD 4 0).toNat ∈ [50, 60] ∧ (ps.getD 7 0).toNat ∈ [5, 10, 15, 30, 60] ∧
         (ps.getD 4 0).toNat ≠ (if { session with is60 := false }.is60 then 60 else 50) ∧
         ((prepareBytes 5120 1000 30).getD 7 0).toNat ≠ session.minutes ∧
         ((prepareBytes 5120 1000 14).getD 7 0).toNat ∉ [5, 10, 15, 30, 60] ∧ (51#8).toNat ∉ [50, 60]) ∧
      (0 < 1 ∧ 65535 < 65536) ∧
      { standing.fpt with readout := some { sector := 1, next := 0, remaining := 1, ended := false } }.readout.isSome = true ∧
      (511 < 512 ∧ 4096 < 4097 ∧ 4096 < 1 + 4096 ∧ ¬ 511 < 511 ∧ ¬ 4096 < 0 + 4096) ∧
      { standing.rwr with config := some (List.replicate 28 0) }.config.isSome = true := by unfold Named; decide +kernel
theorem witness_IntervalTickAndOwnClose :
    (onBus .online).phase = .run ∧ (onBus .online).ssc.session = some session ∧ (onBus .online).emt = some meter ∧
      session.opened = true ∧ meter.tick = some 96000 ∧ 96000 + 8000 ≤ { onBus .online with now := 104000 }.now ∧ { session with opened := false }.opened = false ∧
      session.minutes * 60 + 60 ≤ { meter with elapsed := 960 }.elapsed ∧
      { meter with elapsed := 959 }.elapsed < session.minutes * 60 + 60 ∧ (onBus .online).rwr.queue.length ≤ 15 ∧
      (onBus .online).lkc.queue.length ≤ 7 := by decide +kernel

/-- JOINING on a bus in a state, with a claim context. -/
def joining (bus : BusState) (claim : Claim) : State :=
  { at_ .joining with
    mod := { Mod.off with gate := .running }, btr := { Btr.initial with berthState := bus }
    syn := { Syn.initial with
      claim := claim, settle := some 99000, energise := some 90000, joinDwell := some 99000, joinLimit := some 90000 } }
theorem witness_ContactorClosesOnALiveBusOrAnOwnClaim :
    (joining .live .free).syn.cmdClosed = false ∧ (after .joinDwellComplete (joining .live .free)).syn.cmdClosed = true ∧
      (let s := joining .dead .expired
       let f : Frame := { kind := .claim, payload := [0, 0, 20, 0] }
       let u := { s with lkc := { s.lkc with
         queue := [{ frame := f, retry := 0, inAttempt := true }], attempt := some { frame := f, bytes := [], replaced := false } } }
       u.syn.cmdClosed = false ∧ (after .ownFrameSeen u).syn.cmdClosed = true) := by decide +kernel
theorem witness_FirstClaimCounts :
    (joining .dead .free).phase = .run ∧ (joining .dead .free).lkc.enabled = true ∧
      (joining .dead .free).ssc.station.broadcasting = true ∧ isStation 1 = true ∧ isStation 12 = true ∧
      (1#4 ≠ (joining .dead .free).addr) ∧ (joining .live .free).btr.berthState ≠ .dead ∧ [0#8, 0, 1].length ≠ 4 ∧
      (joining .dead (.foreign 2 99000)).syn.claim = .foreign 2 99000 ∧
      (joining .dead (.own 99000)).syn.claim = .own 99000 ∧ (joining .dead .expired).syn.claim = .expired ∧
      [0#8, 0, 0, 1].length = 4 ∧ ((attempting .claim 0 false).lkc.attempt.map (·.frame.kind)) = some .claim ∧
      (attempting .claim 0 false).lkc.queue.map (·.inAttempt) = [] ++ true :: [false] ∧
      (attempting .claim 0 false).ssc.station ≠ .joining := by decide +kernel
theorem witness_ClaimTimersAct :
    (joining .dead .free).phase = .run ∧ sessionId (joining .dead .free) = some 5120 ∧
      claimPending (joining .dead .free) = false ∧ (joining .dead .free).lkc.queue.length < 8 ∧
      (joining .dead .free).syn.settle = some 99000 ∧ (joining .dead .free).syn.settled = false ∧
      (joining .dead .free).syn.claimWait = false ∧ { (joining .dead .free).syn with claimWait := true, settled := true }.claimWait = true ∧
      (joining .dead .free).syn.cmdClosed = false ∧ (joining .dead .free).syn.joinClosed = false ∧
      (let y := { (joining .dead .free).syn with cmdClosed := true, joinClosed := true, claimWait := true }
       y.cmdClosed = true ∧ y.joinClosed = true ∧ y.claimWait = true ∧ y.settle = some 99000 ∧ y.settled = false) ∧
      1 ≤ (joining .dead .free).lkc.free ∧
      (onBus .online).ssc.station ≠ .joining ∧ { (onBus .online).syn with claim := .own 90000 }.claim = .own 90000 ∧
      { (onBus .online).syn with claim := .foreign 3 90000 }.claim = .foreign 3 90000 ∧
      (let s := joining .dead (.foreign 3 90000)
       s.ssc.station = .joining ∧ s.btr.berthState = .dead ∧ s.syn.settled = false ∧ s.syn.claimWait = false ∧
         { s.syn with settled := true }.settled = true ∧ claimPending s = false ∧ s.lkc.enabled = true ∧
         s.lkc.queue.length < 8) ∧
      (joining .dead (.own 90000)).syn.energise = some 90000 ∧ (joining .dead (.own 90000)).rwr.queue.length < 16 := by
  decide +kernel
theorem witness_SynchronisingTimersAct :
    (joining .live .free).syn.joinDwell = some 99000 ∧ (joining .live .free).syn.cmdClosed = false ∧
      (joining .live .free).ccAux = false ∧ (joining .abnormal .free).syn.joinLimit = some 90000 ∧
      (onBus .shipSync).ssc.station = .shipSync ∧
      { (onBus .shipSync).syn with shipDwell := some 99000 }.shipDwell = some 99000 ∧ (onBus .shipSync).syn.ready = false ∧
      { (onBus .shipSync).syn with syncLimit := some 99000 }.syncLimit = some 99000 := by decide +kernel
theorem witness_ContactorIsWatched :
    let s := { onBus .online with syn := { (onBus .online).syn with window := some 99000 } }
    s.phase ≠ .rstLow ∧ s.syn.window = some 99000 ∧ s.ccAux = s.syn.cmdClosed ∧
      { s with ccAux := false }.ccAux ≠ s.syn.cmdClosed ∧ canTrip s = true ∧ .contactorFail ∉ s.pru.held ∧
      canTrip (at_ .tripped) = false ∧ (onBus .online).ccAux ≠ false ∧ (onBus .online).syn.window = none ∧
      false ≠ (onBus .online).syn.cmdClosed ∧ (onBus .online).ssc.station.broadcasting = true ∧
      (let u := { joining .live .free with
         syn := { (joining .live .free).syn with cmdClosed := true, window := some 99000 } }
       u.ssc.station = .joining ∧ u.ccAux ≠ true ∧ u.syn.cmdClosed = true ∧ u.syn.window.isSome = true ∧
         u.btr.berthState = .live) := by decide +kernel
/-- SHIP_SYNC with the berth bus's cycle at its 320th sample, or with a crossing of the berth bus at this record that leaves
both buses LIVE 80 mHz apart and 126 units from phase. -/
def judging (meets : Bool) : State :=
  let s := awaiting .shipSync 0 (some 5)
  let t : Tracker := { prev := some (-500, 8), armed := true, tLast := some (2304 - 34088), periods := [34088, 34088, 34088, 34088], freq := some 60080 }
  { s with
    btr := { s.btr with
      berth := if meets then t else s.btr.berth
      ship := { t with prev := some (500, 8), armed := false, tLast := some (2304 - 284), freq := some 60000 } }
    msu := { s.msu with vS := 1000, sumB := ⟨319 * 200000000, 319⟩ } }
/-- The worked join (chapter 7) in JOINING: the berth bus at 59,960 mHz crosses at this record, with the module output a number
of phase units ahead at 59,909 mHz. -/
def joinJudging (ahead : Int) : State :=
  let s := awaiting .joining 0 (some 5)
  let t : Tracker :=
    { prev := some (-500, 8), armed := true, tLast := some (2304 - 34156), periods := List.replicate 4 34156
      freq := some 59960 }
  { s with
    ccAux := false
    btr := { s.btr with
      berth := t
      module := { t with
        prev := some (500, 8), armed := false, tLast := some (2304 - roundAway (ahead * 34156) 65536), freq := some 59909 } }
    msu := { s.msu with sumB := ⟨319 * 200000000, 319⟩ }
    syn := { s.syn with cmdClosed := false } }
/-- R110, R111: the worked join's first two rows, but for a voltage of 1,000: Δφ_join 2,400 fails the phase window, 1,700 meets
all three. -/
theorem witness_LosingAWindowWithdrawsThePermit_joining :
    let t := after (.recordComplete (record 0 24000)) (joinJudging 2400)
    let u := after (.recordComplete (record 0 24000)) (joinJudging 1700)
    (let s := joinJudging 1700
     s.phase = .run ∧ s.ssc.station = .joining ∧ unsettled s = true ∧ s.spt.index = some 9 ∧ s.ssc.session = some session ∧
       (s.btr.berth.crossing 0 9).isSome = true ∧ s.syn.cmdClosed = false ∧ s.syn.joinDwell = none ∧
       (s.btr.module.crossing 0 9).isSome = false ∧ s.msu.sumM.n < 319) ∧
      (t.btr.berthState = .live ∧ t.btr.dphiJoin = some 2400 ∧ t.syn.fSync = -112000 ∧ t.syn.joinPhaseOk = false ∧
        t.syn.joinDwell = none) ∧
      (u.btr.dphiJoin = some 1700 ∧ u.syn.fSync = -91000 ∧ u.syn.joinFreqOk = true ∧ u.syn.joinPhaseOk = true ∧
        u.syn.joinVoltOk = true ∧ u.syn.joinDwell = some 100000) ∧
      (let s := { joinJudging 1700 with syn := { (joinJudging 1700).syn with cmdClosed := true, confirmed := true } }
       (after (.recordComplete (record 0 24000)) s).ssc.station = .online ∧
         (after (.recordComplete (record 0 24000)) { s with sbAux := true }).ssc.station = .handoverIn) ∧
      (let s := { joinJudging 1700 with
         btr := { (joinJudging 1700).btr with berth := Tracker.initial, berthState := .abnormal } }
       let v := after (.recordComplete (record 0 24000)) s
       319 ≤ s.msu.sumB.n ∧ v.btr.berthState ≠ .live ∧ v.syn.fSync = 0) ∧
      (let s := { joinJudging 1700 with btr := { (joinJudging 1700).btr with berth := Tracker.initial }, msu := Msu.initial }
       (s.btr.berth.crossing 0 9).isSome = false ∧ s.msu.sumB.n < 319 ∧ s.msu.sumM.n < 319) := by decide +kernel
theorem witness_LosingAWindowWithdrawsThePermit :
    (let s := judging false
     s.ssc.station = .shipSync ∧ unsettled s = true ∧ s.spt.index = some 9 ∧ (record 0 24000).length = 25 ∧
       (record 0 24000).head? = some 0xA6#8 ∧ crc8 ((record 0 24000).take 24) = (record 0 24000).getD 24 0 ∧
       s.spt.expected = some ((record 0 24000).getD 1 0) ∧ overcurrentMet (sampleOf (record 0 24000)) = false ∧
       dcFaultMet (sampleOf (record 0 24000)) = false ∧ 319 ≤ s.msu.sumB.n ∧ s.syn.cmdClosed = true ∧
       (after (.recordComplete (record 0 24000)) s).syn.busOk = false) ∧
      ((judging true).btr.berth.crossing 0 9).isSome = true ∧
      (let t := after (.recordComplete (record 0 24000)) (judging true)
       t.syn.shipDwell = some 100000 ∧ t.btr.slip = some 80 ∧ (judging true).ssc.session = some session ∧
         t.btr.shipState = .live ∧ t.btr.ship.freq = some 60000 ∧ t.syn.fSync = 80000 ∧
         (after (.recordComplete (record 0 24000))
           { judging true with btr := { (judging true).btr with shipState := .dead } }).syn.fSync = 0) ∧
      (let s := judging false
       (0#8 ≠ 0xFF#8 ∧ 0#8 ≠ 0xA6#8) ∧ { s.spt with lastGood := some (sampleOf (record 0 24000)) }.runCount ≠ 2 ∧
         { s.msu with sumB := ⟨0, 318⟩ }.sumB.n < 319 ∧ s.syn.energise = none) := by decide +kernel
theorem witness_ShipBreakerMovesTheStation :
    (onBus .online).phase = .run ∧ (onBus .online).sbAux = false ∧ (onBus .online).syn.permit = false ∧
      (ready .sbAuxClose).syn.permit = true ∧ (ready .sbAuxClose).sbAux = false ∧ (onBus .supplying).ssc.station ≠ .online ∧
      (let s := { onBus .handoverOut with sbAux := true, hoc := { Hoc.initial with ready := true } }
       s.sbAux = true ∧ s.ssc.station.shipConnected = true ∧ s.rwr.queue.length < 16) ∧
      { at_ .tripped with sbAux := true }.sbAux = true := by decide +kernel
theorem witness_HandoverTickRampsAndSteers :
    (busy .handoverTick).phase = .run ∧ (busy .handoverTick).ssc.station = .handoverIn ∧
      (busy .handoverTick).hoc.tick = some 100000 ∧ (busy .handoverTick).hoc.pTarget = some 600000 ∧
      100000 + 8 ≤ { busy .handoverTick with now := 100008 }.now ∧
      shipFresh { busy .handoverTick with now := 100008 } = true ∧ (busy .handoverTick).pvw.ship.isSome = true ∧
      shipFresh { busy .handoverTick with now := 102401 } = false ∧
      { busy .handoverTick with ssc := { (busy .handoverTick).ssc with station := .handoverOut } }.ssc.station = .handoverOut ∧
      0 ≤ (busy .handoverTick).params.ramp := by decide +kernel
theorem witness_HandoverTimersAbortAndPart :
    (busy .staleTimerExpiry).ssc.station = .handoverIn ∧ (busy .staleTimerExpiry).hoc.timer = some 99000 ∧
      { (busy .staleTimerExpiry).hoc with stale := some 99000 }.stale = some 99000 ∧ (busy .staleTimerExpiry).lkc.enabled = true ∧
      isStation 7 = true ∧ (7#4 ≠ (busy .staleTimerExpiry).addr) ∧ abortedStatus.length = 16 ∧
      (abortedStatus.getD 6 0).toNat ≤ 3 ∧ (abortedStatus.getD 0 0).toNat = 10 ∧ (abortedStatus.getD 1 0).getLsbD 4 = true ∧
      sessionId (busy .staleTimerExpiry) = some 5120 ∧ BitVec.ofNat 32 (fieldNat abortedStatus 2 4) = 5120#32 ∧
      (peerAt 7 (busy .staleTimerExpiry).pvw.peers).map (·.state) = some .supplying ∧
      StationState.supplying ≠ .handoverOut ∧ peerAt 9 (busy .staleTimerExpiry).pvw.peers = none ∧
      (let p : List Byte := [9, 1] ++ beBytes 4 5120 ++ [2] ++ List.replicate 9 0
       (peerAt 7 (onBus .handoverOut).pvw.peers).map (fun e => (BitVec.ofNat 8 e.state.code, e.contactor, e.ready, e.aborted)) =
           some (9, true, false, false) ∧ p.length = 16 ∧ (p.getD 0 0).toNat = StationState.supplying.code ∧
         StationState.supplying.broadcasting = true ∧ (p.getD 1 0).getLsbD 0 = true ∧ (p.getD 1 0).getLsbD 2 = false ∧
         (p.getD 1 0).getLsbD 4 = false) ∧ (List.replicate 6 (0#8)).length = 6 ∧
      (let s := { onBus .handoverOut with sbAux := true
                                          hoc := { Hoc.initial with part := some 99000, trip := some 99000, timer := some 99000 } }
       s.ssc.station = .handoverOut ∧ s.hoc.part = some 99000 ∧ s.hoc.sbtLow = false ∧ s.hoc.ready = false ∧
         { s.hoc with sbtLow := true }.sbtLow = true ∧ { s.hoc with ready := true }.ready = true ∧
         s.hoc.trip = some 99000 ∧ s.hoc.timer = some 99000) := by decide +kernel

/-- HANDOVER_OUT with ready-to-part set and SBT released: of the two peers in SUPPLYING, 1 shows ready as given, 7 does not. -/
def parting (ready : Bool) : State :=
  let s := onBus .handoverOut
  { s with
    hoc := { Hoc.initial with ready := true }
    pvw := { s.pvw with peers := s.pvw.peers.map fun e => { e with ready := ready && e.addr == 1 } } }
/-- The STATUS payload of a peer in SUPPLYING that shows ready-to-part, in the session. -/
def readyStatus : List Byte := [9, 5] ++ beBytes 4 5120 ++ [2] ++ List.replicate 9 0
theorem changesView_status (s : State) (h : s.lkc.enabled = true ∧ s.addr = 4 ∧
    ∀ e, peerAt 7 s.pvw.peers = some e → e.ready = false) : ChangesView s (.statusReceived 7 readyStatus) 7 s.now := by
  refine .inl ⟨h.1, rfl, by rw [h.2.1]; decide, rfl, .inl ⟨_, rfl, rfl, by decide, .inl ⟨.supplying, rfl, rfl, ?_⟩⟩⟩
  intro e he
  exact .inr (.inr (.inl (by rw [h.2.2 e he]; decide)))
/-- Each change of the view by peer 7, and the view it leaves: with peer 1 ready every participant is, else not (R139). -/
theorem witness_HandoverTimersAbortAndPart_view :
    ChangesView (parting true) (.statusReceived 7 readyStatus) 7 100000 ∧
      ChangesView (parting true) (.tripNoticeReceived 7 [1, 9]) 7 100000 ∧
      ChangesView (parting true) (.peerEntryStale 7) 7 100480 ∧ ChangesView (parting true) (.peerEntryRemoved 7) 7 104000 ∧
      ChangesView (parting true) (.statusReceived 9 readyStatus) 9 100000 ∧
      ChangesView (parting true) (.statusReceived 7 (3 :: readyStatus.drop 1)) 7 100000 ∧
      (parting true).hoc.ready = true ∧ (parting true).hoc.sbtLow = false ∧
      (∀ c ∈ [Instr.statusReceived 7 readyStatus, .tripNoticeReceived 7 [1, 9], .peerEntryStale 7, .peerEntryRemoved 7],
        PeersShowReady (after c (parting true))) ∧
      (∀ c ∈ [Instr.statusReceived 7 readyStatus, .tripNoticeReceived 7 [1, 9], .peerEntryStale 7],
        ¬ PeersShowReady (after c (parting false))) := by
  refine ⟨changesView_status _ ⟨rfl, rfl, ?_⟩, .inl ⟨rfl, rfl, by decide, rfl, .inr ⟨_, rfl, rfl, rfl⟩⟩,
    .inr ⟨_, rfl, .inl ⟨rfl, rfl, rfl⟩⟩, .inr ⟨_, rfl, .inr ⟨rfl, rfl⟩⟩,
    .inl ⟨rfl, rfl, by decide, rfl, .inl ⟨_, rfl, rfl, by decide, .inl ⟨.supplying, rfl, rfl, ?_⟩⟩⟩,
    .inl ⟨rfl, rfl, by decide, rfl, .inl ⟨_, rfl, rfl, by decide, .inr ⟨rfl, rfl⟩⟩⟩, rfl, rfl, ?_, ?_⟩
  · rintro e h; cases h; rfl
  · rintro e h; cases h
  · unfold PeersShowReady; decide +kernel
  · unfold PeersShowReady; decide +kernel
/-- A peer's abort shown by its STATUS in HANDOVER_IN, and a view that shows none (R135). -/
theorem witness_HandoverTimersAbortAndPart_abort :
    ChangesView (busy .closingEnd) (.peerEntryRemoved 1) 1 104000 ∧
      PeerShowsAbort (after (.statusReceived 7 abortedStatus) (busy .closingEnd)) ∧
      ¬ PeerShowsAbort (after (.peerEntryRemoved 1) (busy .closingEnd)) :=
  ⟨.inr ⟨_, rfl, .inr ⟨rfl, rfl⟩⟩, by unfold PeerShowsAbort; decide +kernel, by unfold PeerShowsAbort; decide +kernel⟩

/-- The IDLE writer with a record of 48 bytes before it, at an offset. -/
def writing (offset : Nat) : State :=
  { standing with rwr := { Rwr.initial with
      recovered := true, offset := offset
      queue := [{ record := tripRecord { cause := .overcurrent, state := .online, following := [] } none standing, session := none, stamp := some 9 }] } }
theorem witness_WriterTakesWork :
    writerFree (writing 16) = true ∧ (writing 16).fpt.port = none ∧ (writing 208).rwr.offset % 256 + 48 ≤ 256 ∧
      256 < (writing 224).rwr.offset % 256 + 48 ∧ (writing 3839).rwr.offset < 3840 ∧
      256 < (writing 3839).rwr.offset % 256 + 48 ∧ 3840 ≤ (writing 4064).rwr.offset ∧
      256 < (writing 4064).rwr.offset % 256 + 48 ∧ 4096 ≤ (writing 4096).rwr.offset ∧
      (writing 16).rwr.queue.map (·.record.size) = [48] ∧
      { (writing 16).rwr with config := some (List.replicate 28 0) }.config ≠ none ∧
      (let s := { writing 16 with rwr := { (writing 16).rwr with writer := .erasing, op := some .configErase } }
       writerWaits s = true ∧ s.rwr.op = some .configErase) ∧
      (let s := { standing with fpt := { Fpt.initial with readout := some { sector := 1, next := 0, remaining := 1, ended := false } } }
       writerWaits s = false ∧ chunkWaits s = true) := by decide +kernel
theorem witness_ProgramAndEraseComplete :
    (busy .programComplete).mem.wf ∧ (busy .programComplete).rwr.busy = some 99990 ∧
      (busy .programComplete).rwr.op = some (.record 1 4080) ∧ (busy .programComplete).fpt.port = some .writer ∧
      (busy .programComplete).rwr.writer = .programming ∧
      (busy .programComplete).mem.op = some (.program 8176 (List.replicate 16 0)) ∧ 8176 % 256 + 16 ≤ 256 ∧
      { (busy .eraseComplete).rwr with writer := .erasing, op := some (.logErase 2 5) }.op = some (.logErase 2 5) ∧
      { (busy .eraseComplete).mem with op := some (.erase 2) }.op = some (.erase 2) := by decide +kernel
/-- STARTING, its start work at a step. -/
def starting (w : StartWork) (cells : List Host.Cell) : State :=
  { at_ .starting with
    rwr := { Rwr.initial with start := w, startTimer := some 99000 }
    mem := { Memory.erased with cells := cells } }
theorem witness_StoreFaultsAndSettles :
    (busy .busyTimeout).params.tripStore = false ∧
      (let s := { busy .busyTimeout with params := { Params.default with tripStore := true } }
       s.params.tripStore = true ∧ canTrip s = true ∧ .recordStoreFault ∉ s.pru.held) ∧ canTrip (at_ .tripped) = false ∧
      { (busy .busyTimeout).fpt with exitWaits := true }.port = some .writer ∧ (busy .busyTimeout).rwr.busy = some 99990 ∧
      (busy .busyTimeout).rwr.op = some (.record 1 4080) ∧ (busy .busyTimeout).rwr.start ≠ .format ∧
      (let r : Rwr := { Rwr.initial with writer := .faulted, statusTick := some 99000 }
       r.writer = .faulted ∧ r.statusTick = some 99000) ∧ standing.fpt.port ≠ some .chunk ∧
      (let s := { busy .warmResetBusyTimeout with
         fpt := .initial, rwr := { Rwr.initial with
           settling := true, startTimer := some 99000, inFlight := some (.record 1 4080)
           queue := (busy .warmResetBusyTimeout).rwr.queue } }
       s.rwr.settling = true ∧ s.mem.op.isSome = true ∧ s.rwr.startTimer = some 99000 ∧ s.fpt.port = none ∧ s.fpt.exitWaits = false ∧
         s.rwr.writer = .idle ∧ s.rwr.inFlight = some (.record 1 4080) ∧ s.rwr.queue ≠ []) ∧
      some (WriterOp.logErase 2 1) ≠ none ∧ some WriterOp.configProgram ≠ none ∧
      (let s (fault : Bool) : State := { starting .configLoad [] with
         params := { Params.default with tripStore := fault }, mem := { Memory.erased with op := some (.erase 1) }
         rwr := { (starting .configLoad []).rwr with settling := true, inFlight := some .recovery } }
       (s false).rwr.start = .configLoad ∧ (s false).ssc.station = .starting ∧ (s false).rwr.settling = true ∧
         (s false).mem.op.isSome = true ∧ (s false).rwr.startTimer = some 99000 ∧ (s false).rwr.writer = .idle ∧
         (s false).fpt.port = none ∧ (s false).fpt.exitWaits = false ∧ tripHeld (s false) = false ∧
         (s false).pru.waiting = [] ∧ (s true).params.tripStore = true ∧ .recordStoreFault ∉ (s true).pru.held) := by
  decide +kernel
/-- R87, R167: a warm reset in STARTING that cuts off the format's erase waits for the memory before the configuration load,
and a wait that ends busy ends the start work with the recovery unfinished (log 45). -/
theorem test_warm_reset_in_starting_waits :
    let format : State :=
      { starting .format [] with
        mem := { Memory.erased with op := some (.erase 1), latch := true }
        rwr := { Rwr.initial with start := .format, busy := some 99990, writer := .erasing, op := some .formatErase } }
    let s := after .warmResetEnd (after .warmReset format)
    let settled := after .warmResetSettle s
    let late := after .warmResetBusyTimeout s
    after (.configLoadComplete true) s = s ∧ settled.mem.op = none ∧ settled.rwr.start = .configLoad ∧
      (after (.configLoadComplete true) settled).rwr.start = .recovery ∧
      (late.rwr.writer, late.rwr.op, late.ssc.station, late.now) =
        (.faulted, some .recovery, .standby, 104000) := by decide +kernel
theorem witness_StartWorkLoadsAndRecovers :
    (starting .configLoad []).rwr.start = .configLoad ∧ (starting .configLoad []).rwr.settling = false ∧
      (memBytes (starting .configLoad []).mem.finish 0 32).getD 0 0 ≠ 0x0C#8 ∧
      (let bytes :=
         memBytes (starting .configLoad (cellsProgram 0 0 (configRecordBytes (List.replicate 28 20)) [])).mem.finish 0 32
       bytes.getD 0 0 = 0x0C#8 ∧ bytes.getD 1 0 = 0x02#8 ∧ bytes = withCrc16 (bytes.take 30)) ∧
      (∃ w ∈ paramRows, w.stored (List.replicate 28 20) < w.low ∨ w.high < w.stored (List.replicate 28 20)) ∧
      (let block : List Byte :=
         [0, 0, 7, 208, 40, 10, 5, 2, 30, 5, 7, 28, 50, 20, 12, 0, 80, 40, 50, 5, 176, 40, 10, 18, 20, 20, 30, 8]
       ∀ w ∈ paramRows, w.low ≤ w.stored block ∧ w.stored block ≤ w.high) ∧
      (starting .configLoad []).mem.writesConfig = false ∧
      { (starting .configLoad []).mem with op := some (.erase 0) }.writesConfig = true ∧
      { (starting .configLoad []).mem with op := some (.program 0 [1]) }.writesConfig = true ∧
      { (starting .configLoad []).mem with op := some (.program 4096 [1]) }.writesConfig = false ∧
      (let s := { starting .recovery [] with mem := { Memory.erased with op := some (.erase 3) } }
       s.mem.op.isSome = true ∧ s.rwr.startTimer = some 99000 ∧ tripHeld s = false ∧ s.pru.waiting = []) ∧
      (starting .recovery []).rwr.start = .recovery ∧ (starting .recovery []).fpt.exitWaits = false ∧
      (starting .recovery []).fpt.port = none ∧ (∀ r ∈ (starting .recovery []).rwr.queue, r.stamp = none) ∧
      (let s := { starting .format [] with
         fpt := { Fpt.initial with port := some .writer }
         rwr := { Rwr.initial with start := .format, busy := some 99990, writer := .erasing, op := some .formatErase } }
       s.rwr.start = .format ∧ s.fpt.port = some .writer ∧ s.rwr.busy.isSome = true ∧ s.rwr.writer = .erasing ∧
         s.rwr.op = some .formatErase ∧ { s.rwr with writer := .programming }.writer = .programming ∧
         { s.rwr with op := some .formatHead }.op = some .formatHead) := by decide +kernel
/-- An empty memory holds no head. -/
theorem witness_StartWorkLoadsAndRecovers_new_log (n seq next : Nat) :
    ¬ HeadAt (starting .recovery []).mem.finish n seq next := fun h =>
  absurd (show (0xFF#8 : Byte) = 0x01#8 from h.1) (by decide)
/-- The memory with one head, in sector 1. -/
def oneHead : Memory := (starting .recovery (cellsProgram 4096 0 (sectorHeadBytes standing 5 8) [])).mem.finish
theorem witness_StartWorkLoadsAndRecovers_head :
    HeadAt oneHead 1 5 8 ∧
      ∀ n seq next, 1 ≤ n → n ≤ 511 → HeadAt oneHead n seq next → seq < 5 ∨ seq = 5 ∧ 1 ≤ n := by
  refine ⟨by unfold HeadAt; decide +kernel, fun n seq next low high h => ?_⟩
  have others : ∀ n, n < 512 → n = 0 ∨ n = 1 ∨ (memBytes oneHead (n * 4096) 16).getD 0 0 ≠ 0x01#8 := by decide +kernel
  rcases others n (by omega) with rfl | rfl | other
  · omega
  · exact .inr ⟨h.2.2.2.2.trans (by decide +kernel), low⟩
  · exact absurd h.1 other
/-- The worked recovery (chapter 11): sector 141 with nine valid records to offset 256, a torn TRIP there, page 2 erased. -/
theorem test_recovery_walk :
    let event (stamp : Nat) : List Byte := (eventRecord 1 []).bytes stamp
    let interval (stamp : Nat) : List Byte := (intervalRecord 5120 meter 1 0).bytes stamp
    let trip : List Byte := (tripRecord { cause := .overcurrent, state := .online, following := [] } none standing).bytes 88219
    let page := sectorHeadBytes standing 3602 88210 ++ event 88210 ++ interval 88211 ++
      (sessionCloseRecord 5120 meter).bytes 88212 ++ event 88213 ++ interval 88214 ++ interval 88215 ++ event 88216 ++
      interval 88217 ++ event 88218
    let m : Memory := { Memory.erased with
      cells := cellsProgram (141 * 4096 + 256) 0 (trip.set 20 0x55) (cellsProgram (141 * 4096) 0 page []) }
    page.length = 256 ∧ headOf m 141 = some (3602, 88210) ∧ walk m (141 * 4096) 256 16 none = (512, some 88218) := by
  decide +kernel
theorem witness_ReadoutSendsChunks :
    let s (r : Readout) : State := { standing with fpt := { Fpt.initial with port := some .chunk, readout := some r } }
    (s ⟨1, 0, 1, false⟩).phase = .run ∧ (s ⟨1, 0, 1, false⟩).lkc.enabled = true ∧ (s ⟨1, 0, 1, false⟩).mem.op = none ∧
      (s ⟨1, 0, 1, false⟩).fpt.port = some .chunk ∧ (s ⟨1, 0, 1, false⟩).lkc.queue.length ≤ 5 ∧
      (s ⟨1, 24, 0, false⟩).fpt.port ≠ none ∧ standing.fpt.port = none ∧
      5 < (List.replicate 6 (replyEntry 0 0 0 0 [])).length := by decide +kernel
theorem witness_ColdReset :
    State.reset.phase = .rstLow ∧ (∀ a r l x y z, Instr.warmReset ≠ .coldReset a r l x y z) ∧
      (∀ p, Instr.warmReset ≠ .rstNAsserted p) ∧ standing.mem.writesConfig = false ∧
      { standing.mem with op := some (.program 0 [0x0C]) }.writesConfig = true ∧ (1 ≤ (1#4).toNat ∧ (12#4).toNat ≤ 12) ∧ (0#4).toNat = 0 ∧ 12 < (13#4).toNat :=
  ⟨rfl, fun _ _ _ _ _ _ h => Instr.noConfusion h, fun _ h => Instr.noConfusion h, rfl, rfl, by decide, rfl, by decide⟩
/-- R62, R179, 13.4: the EVENT of a warm reset in SUPPLYING names its state, and of the two broadcasts at its end the one of a
station tripped before it says TRIPPED. -/
theorem test_warm_reset_announces :
    let s := after .warmReset (onBus .supplying)
    let t := after .warmResetEnd s
    let u := after .warmResetEnd (after .warmReset (holding .tripped [.tripInput]))
    ((t.rwr.queue[s.rwr.queue.length]?).map fun r => r.record.body) = some [6, 9, 0, 0, 0, 0, 0, 0] ∧
      (t.lkc.queue.map fun e => e.frame.payload.getD 0 0) = [3] ∧
      (u.lkc.queue.map fun e => e.frame.payload.getD 0 0) = [12] := by decide +kernel
theorem witness_WarmReset :
    (onBus .supplying).phase = .run ∧ (onBus .supplying).ssc.station ≠ .invalid ∧ (at_ .invalid).ssc.station = .invalid ∧
      (let s := after .warmReset (onBus .supplying)
       s.phase = .restartLow ∧ s.ssc.station ≠ .starting ∧ tripHeld s = false ∧ s.ssc.session = some session ∧
         s.emt.isSome = true ∧ s.rwr.queue.length < 16) ∧
      (let s := after .warmReset (holding .tripped [.tripInput])
       s.phase = .restartLow ∧ tripHeld s = true ∧ s.pru.first.isSome = true) ∧
      (after .warmReset closing).fpt.port = none ∧
      (after .warmReset closing).ssc.session = some { session with opened := false } ∧
      (after .warmReset (starting .recovery [])).ssc.station = .starting := by decide +kernel
theorem witness_HeldConditionsStay :
    .tripInput ∈ (holding .tripped [.tripInput]).pru.held ∧ isStation (holding .tripped [.tripInput]).addr = true ∧
      causeLive { holding .tripped [.tripInput] with tripIn := true } .tripInput = true ∧
      (∃ t, exec .warmReset (holding .tripped [.tripInput]) = .next t) := by
  refine ⟨by decide +kernel, by decide +kernel, by decide +kernel, _, rfl⟩

end Sys2Proof.Tests
end

/-! PROOFS. The sharing tick (chapter 5): what its sums, its two conditions and its two steps are. -/
section
namespace Sys2Proof.Machine

/-- A timer that is already due does not move the clock (log 1). -/
theorem catchUp_of_due {start length : Nat} {s : State} (due : start + length ≤ s.now) : catchUp start length s = s := by
  simp [catchUp, Nat.max_eq_left due]

/-! ### The sums over the participants (R75) -/

theorem foldl_add_eq_add_sum_map {α : Type} (f : α → Int) (l : List α) (own : Int) :
    l.foldl (fun acc e => acc + f e) own = own + (l.map f).sum := by
  induction l generalizing own with
  | nil => simp
  | cons e l ih => simp [ih, Int.add_assoc]

theorem sumR_eq (s : State) :
    sumR s = ratingKva s.rating + ((peerParticipants s).map fun e => ratingKva e.rating).sum :=
  foldl_add_eq_add_sum_map ..

theorem sumPR_eq (s : State) :
    sumPR s = s.msu.p * ratingKva s.rating + ((peerParticipants s).map fun e => e.p * ratingKva e.rating).sum :=
  foldl_add_eq_add_sum_map ..

theorem sumQR_eq (s : State) :
    sumQR s = s.msu.q * ratingKva s.rating + ((peerParticipants s).map fun e => e.q * ratingKva e.rating).sum :=
  foldl_add_eq_add_sum_map ..

/-! ### The conditions of the two steps (R77, R78) -/

theorem sharesFrequency_iff (s : State) :
    sharesFrequency s = true ↔ s.ccAux = true ∧ peerParticipants s ≠ [] ∧
      (s.ssc.station = .online ∨ s.ssc.station = .shipSync ∨ s.ssc.station = .supplying) := by
  simp only [sharesFrequency, Bool.and_eq_true, Bool.or_eq_true, beq_iff_eq, Bool.not_eq_true', List.isEmpty_eq_false_iff,
    or_assoc]
  exact ⟨fun ⟨⟨station, closed⟩, peers⟩ => ⟨closed, peers, station⟩,
    fun ⟨closed, peers, station⟩ => ⟨⟨station, closed⟩, peers⟩⟩

theorem sharesVoltage_iff (s : State) :
    sharesVoltage s = true ↔ s.ccAux = true ∧ s.ssc.station.onBus = true := by
  simp [sharesVoltage]

/-! ### The tick (R73) -/

theorem exec_sharingTick_of_due {s : State} {start : Nat} (run : s.phase = .run) (tick : s.shc.tick = some start)
    (due : start + 8 ≤ s.now) : exec .sharingTick s = .next (sharingWork s) := by
  have dispatched : exec .sharingTick s = execSharingTick s := rfl
  rw [dispatched, execSharingTick, running_run run, onExpiry_some tick, catchUp_of_due due]

theorem sharingWork_sameBut (s : State) : sameBut [.shc] s (sharingWork s) := by
  intro part other
  cases part with
  | shc => simp at other
  | _ => simp [Part.same]

theorem sharingWork_shc (s : State) :
    (sharingWork s).shc =
      { s.shc with fShare := nextFShare s, vShare := nextVShare s, tick := Timer.restart 8 s.shc.tick } := rfl

/-- Settles O32: the state after the tick is `sharingWork s`, the peers are `peerParticipants s`, and the two trims are the
model's with its sums and conditions written out. -/
theorem sharingTickSteersTheTrims : Obligations.SharingTickSteersTheTrims := by
  intro s start run tick due
  refine ⟨sharingWork s, peerParticipants s, exec_sharingTick_of_due run tick due, sharingWork_sameBut s, rfl,
    ⟨?fShare, ?vShare⟩, rfl, rfl, ?tick⟩
  case fShare =>
    simp only [sharingWork_shc, nextFShare, sharesFrequency_iff, shareIncrement, sumPR_eq, sumR_eq]
  case vShare =>
    simp only [sharingWork_shc, nextVShare, sharesVoltage_iff, shareIncrement, sumQR_eq, sumR_eq]
  case tick => simp [sharingWork_shc, tick, Timer.restart]

end Sys2Proof.Machine
end

/-! PROOFS. The handover tick (chapter 9): what the ramp, the final target, the target and the power loop become at it. -/
section
namespace Sys2Proof.Machine

/-! ### The ramp (R131) -/

/-- A step limited by the ramp on both sides is the goal held between target − ramp and target + ramp. -/
theorem rampStep_eq_limit {ramp : Int} (positive : 0 ≤ ramp) (target goal : Int) :
    rampStep ramp target goal =
      if target + ramp < goal then target + ramp else if goal < target - ramp then target - ramp else goal := by
  unfold rampStep
  split_ifs <;> omega

/-! ### P_final (R130) -/

theorem nextFinal_of_handoverIn_fresh {s : State} {r : ShipRecord} (station : s.ssc.station = .handoverIn)
    (ship : s.pvw.ship = some r) (fresh : shipFresh s = true) : nextFinal s = some (finalTarget s r.load) := by
  simp [nextFinal, ship, station, fresh]

theorem nextFinal_of_stale {s : State} (stale : shipFresh s = false) : nextFinal s = s.hoc.pFinal := by
  cases ship : s.pvw.ship <;> simp [nextFinal, ship, stale]

theorem nextFinal_of_handoverOut {s : State} (station : s.ssc.station = .handoverOut) : nextFinal s = s.hoc.pFinal := by
  cases ship : s.pvw.ship <;> simp [nextFinal, ship, station]

/-! ### P_target (R131, R133, R137) -/

theorem nextTarget_of_handoverIn_fresh {s : State} {r : ShipRecord} {target : Int} (station : s.ssc.station = .handoverIn)
    (held : s.hoc.pTarget = some target) (ship : s.pvw.ship = some r) (fresh : shipFresh s = true) :
    nextTarget s = some (rampStep s.params.ramp target (finalTarget s r.load * 1000)) := by
  simp [nextTarget, held, nextFinal_of_handoverIn_fresh station ship fresh, station, fresh]

theorem nextTarget_of_handoverIn_stale {s : State} {target : Int} (station : s.ssc.station = .handoverIn)
    (held : s.hoc.pTarget = some target) (stale : shipFresh s = false) : nextTarget s = some target := by
  cases final : nextFinal s <;> simp [nextTarget, held, final, station, stale]

theorem nextTarget_of_handoverOut {s : State} {target : Int} (station : s.ssc.station = .handoverOut)
    (held : s.hoc.pTarget = some target) : nextTarget s = some (rampStep s.params.ramp target 0) := by
  cases final : nextFinal s <;> simp [nextTarget, held, final, station]

/-- A tick never takes the target away. -/
theorem exists_nextTarget {s : State} {target : Int} (held : s.hoc.pTarget = some target) :
    ∃ new, nextTarget s = some new := by
  cases final : nextFinal s <;> simp only [nextTarget, held, final] <;> split_ifs <;> exact ⟨_, rfl⟩

/-! ### The tick (R128, R132) -/

theorem exec_handoverTick_of_due {s : State} {start : Nat} (run : s.phase = .run)
    (station : s.ssc.station = .handoverIn ∨ s.ssc.station = .handoverOut) (tick : s.hoc.tick = some start)
    (due : start + 8 ≤ s.now) : exec .handoverTick s = .next (handoverTicked s) := by
  have dispatched : exec .handoverTick s = execHandoverTick s := rfl
  rw [dispatched, execHandoverTick, running_run run, if_pos station, onExpiry_some tick, catchUp_of_due due]

theorem handoverTicked_sameBut (s : State) : sameBut [.hoc] s (handoverTicked s) := by
  intro part other
  cases part with
  | hoc => simp at other
  | _ => simp [Part.same, handoverTicked]

theorem handoverTicked_hoc {s : State} {new : Int} (moved : nextTarget s = some new) :
    (handoverTicked s).hoc =
      { s.hoc with
        pFinal := nextFinal s, pTarget := some new, tick := Timer.restart 8 s.hoc.tick
        fHo := powerLoop s.params.kh s.msu.p new s.hoc.fHo } := by
  simp [handoverTicked, handoverWork, moved]

/-- Settles O51: the state after the tick is `handoverTicked s`; its target is the model's, whose ramp step is the limit of
R131 in HANDOVER_IN with a fresh ship record and in HANDOVER_OUT, and no step with the record stale or absent. -/
theorem handoverTickRampsAndSteers : Obligations.HandoverTickRampsAndSteers := by
  intro s start target run station tick due held
  obtain ⟨new, moved⟩ := exists_nextTarget held
  have hoc := handoverTicked_hoc moved
  have final : (handoverTicked s).hoc.pFinal = nextFinal s := by rw [hoc]
  have new_eq {value : Int} (h : nextTarget s = some value) : new = value := Option.some.inj (moved.symm.trans h)
  refine ⟨handoverTicked s, new, exec_handoverTick_of_due run station tick due, handoverTicked_sameBut s, by rw [hoc],
    ?fresh, ?stale, ?out, ?block⟩
  case fresh =>
    rintro r goal inward ramp ship fresh rfl
    exact ⟨final.trans (nextFinal_of_handoverIn_fresh inward ship fresh),
      (new_eq (nextTarget_of_handoverIn_fresh inward held ship fresh)).trans (rampStep_eq_limit ramp ..)⟩
  case stale =>
    intro inward stale
    exact ⟨new_eq (nextTarget_of_handoverIn_stale inward held stale), final.trans (nextFinal_of_stale stale)⟩
  case out =>
    intro outward ramp
    exact ⟨final.trans (nextFinal_of_handoverOut outward),
      (new_eq (nextTarget_of_handoverOut outward held)).trans (rampStep_eq_limit ramp ..)⟩
  case block => rw [hoc, tick]; rfl

end Sys2Proof.Machine
end

/-! PROOFS. What a submission with room leaves (R52, R53, R161), and how SSC takes a REQUEST that names the station (R44,
R99). -/
section
namespace Sys2Proof.Machine

/-! ### The transmit queue with room (R52 to R54) -/

/-- LKC with a frame put at the tail of its queue (R52). -/
def Lkc.push (f : Frame) (l : Lkc) : Lkc :=
  { l with queue := l.queue ++ [{ frame := f, retry := 0, inAttempt := false }] }

/-- A frame that is no status broadcast, submitted to a queue with room: not taken, or put at the tail. -/
theorem enqueue_of_room (listening : Bool) {f : Frame} {l : Lkc} (plain : f.isStatus = false) (room : l.queue.length < 8) :
    l.enqueue listening f = (l, .refused) ∨ l.enqueue listening f = (l.push f, .accepted) := by
  simp only [Lkc.enqueue, plain, if_pos room, Bool.false_and, Bool.false_eq_true, if_false]
  split_ifs with disabled listeningOnly crowdedLog
  · exact .inl rfl
  · exact .inl rfl
  · exact .inl rfl
  · exact .inr rfl

/-- LKC, while enabled, takes every REPLY for which the queue has room, in listening mode too (R54). -/
theorem enqueue_reply (listening : Bool) {f : Frame} {l : Lkc} (reply : f.kind = .reply) (enabled : l.enabled = true)
    (room : l.queue.length < 8) : l.enqueue listening f = (l.push f, .accepted) := by
  simp [Lkc.enqueue, Lkc.push, enabled, Frame.acceptedListening, Frame.isStatus, reply, room]

/-- The submission of a frame that is no status broadcast to a queue with room raises no LINK_OVERRUN: it changes LKC
alone (R53). -/
theorem submit_of_room {f : Frame} {s : State} (plain : f.isStatus = false) (room : s.lkc.queue.length < 8) :
    submit f s = { s with lkc := (submit f s).lkc } := by
  obtain result | result := enqueue_of_room s.ssc.station.listening plain room <;> simp [submit, submitted, result]

theorem submit_lkc_of_room {f : Frame} {s : State} (plain : f.isStatus = false) (room : s.lkc.queue.length < 8) :
    (submit f s).lkc = s.lkc ∨ (submit f s).lkc = s.lkc.push f :=
  (enqueue_of_room s.ssc.station.listening plain room).imp (congrArg Prod.fst) (congrArg Prod.fst)

theorem submit_enabled_of_room {f : Frame} {s : State} (plain : f.isStatus = false) (room : s.lkc.queue.length < 8) :
    (submit f s).lkc.enabled = s.lkc.enabled := by
  obtain same | pushed := submit_lkc_of_room plain room
  · rw [same]
  · rw [pushed, Lkc.push]

theorem submit_length_of_room {f : Frame} {s : State} (plain : f.isStatus = false) (room : s.lkc.queue.length < 8) :
    (submit f s).lkc.queue.length ≤ s.lkc.queue.length + 1 := by
  obtain same | pushed := submit_lkc_of_room plain room
  · simp [same]
  · simp [pushed, Lkc.push]

/-! ### The record queue with room (R161) -/

/-- A record that joins the queue changes RWR alone: it is not counted as dropped (R153). -/
theorem submitRecord_of_room {s : State} (r : LogRecord) (id : Option SessionId) (room : s.rwr.queue.length < 16) :
    submitRecord r id s = { s with rwr := (submitRecord r id s).rwr } := by
  simp [submitRecord, room]

theorem submitEvent_of_room {s : State} (subkind : Byte) (data : List Byte) (room : s.rwr.queue.length < 16) :
    submitEvent subkind data s = { s with rwr := (submitEvent subkind data s).rwr } :=
  submitRecord_of_room _ _ room

theorem submitRecord_drop_of_room {s : State} (r : LogRecord) (id : Option SessionId) (room : s.rwr.queue.length < 16) :
    ((submitRecord r id s).rwr.queue.drop s.rwr.queue.length).map (fun q => q.record) = [r] := by
  simp [submitRecord, room]

/-! ### A REQUEST that names the station (R40, R44, R51) -/

theorem Named.run {target : Byte} {s : State} (named : Named target s) : s.phase = .run := named.1

theorem Named.enabled {target : Byte} {s : State} (named : Named target s) : s.lkc.enabled = true := named.2.1

/-- The panel's address is no converter station's, so that a REQUEST makes no duplicate address (R51). -/
theorem requestFrame_sender_ne {payload : List Byte} {s : State} (station : isStation s.addr = true) :
    (requestFrame payload).sender ≠ s.addr := by
  intro same
  rw [← same] at station
  exact absurd station (show ¬ isStation 15 = true by decide)

/-- A REQUEST that names the station is taken by SSC, the receiver in HUNT. -/
theorem onLink_request_of_named {target : Byte} {s : State} (rest : List Byte) (named : Named target s) :
    onLink (frameEnded (requestFrame (target :: rest))) s = requestTaken (target :: rest) (withRx .hunt s) := by
  obtain ⟨-, enabled, station, here⟩ := named
  have delivered :
      deliver (requestFrame (target :: rest)) (withRx .hunt s) = requestTaken (target :: rest) (withRx .hunt s) := by
    have code : FrameKind.ofCode (requestFrame (target :: rest)).kind.toNat = some .request := rfl
    have cls : (requestFrame (target :: rest)).cls.toNat = FrameKind.request.cls := rfl
    simp only [deliver, code, cls]
    simp [requestFrame, here]
  have good : goodSender (requestFrame (target :: rest)).sender = true := rfl
  have unique : duplicateChecked (requestFrame (target :: rest)).sender (withRx .hunt s) = withRx .hunt s :=
    if_neg (requestFrame_sender_ne (s := withRx .hunt s) station)
  rw [onLink, if_pos enabled, frameEnded, if_pos good, unique, delivered]

theorem exec_mark_of_named {target : Byte} {s : State} (number : Byte) (params : List Byte) (named : Named target s) :
    exec (.mark target number params) s = .next (markTaken number params (withRx .hunt s)) := by
  have dispatched : exec (.mark target number params) s = execMark target number params s := rfl
  rw [dispatched, execMark, running_run named.run, onLink_request_of_named _ named]
  rfl

theorem exec_readMeter_of_named {target : Byte} {s : State} (number : Byte) (params : List Byte) (named : Named target s) :
    exec (.readMeter target number params) s = .next (readMeterTaken number params (withRx .hunt s)) := by
  have dispatched : exec (.readMeter target number params) s = execReadMeter target number params s := rfl
  rw [dispatched, execReadMeter, running_run named.run, onLink_request_of_named _ named]
  rfl

/-- An acceptance puts its REPLY at the tail and changes nothing else (R99). -/
theorem answer_accepted_of_room {s : State} (number : Byte) (kind : Nat) (data : List Byte) (enabled : s.lkc.enabled = true)
    (room : s.lkc.queue.length < 8) :
    answer number (BitVec.ofNat 8 kind) .accepted data s =
      { s with lkc := { s.lkc with queue := s.lkc.queue ++ [replyEntry number kind 0 0 data] } } := by
  have queued : (submit (replyFrame number (BitVec.ofNat 8 kind) .accepted data) s).lkc = s.lkc.push _ :=
    congrArg Prod.fst (enqueue_reply s.ssc.station.listening rfl enabled room)
  rw [answer, submit_of_room rfl room, queued]
  rfl

/-! ### The numbers in a request's parameters (R180) -/

theorem fieldNat_beBytes_two {n : Nat} (small : n < 65536) (rest : List Byte) :
    fieldNat (beBytes 2 n ++ rest) 0 2 = n := by
  have bytes : field (beBytes 2 n ++ rest) 0 2 = [BitVec.ofNat 8 (n / 256), BitVec.ofNat 8 n] := by
    simp [field, beBytes, List.range_succ]
  simp only [fieldNat, bytes, beNat, List.foldl_cons, List.foldl_nil, BitVec.toNat_ofNat]
  omega

end Sys2Proof.Machine
end

/-! PROOFS. The Energy Meter (chapter 10): the interval close that opens the next interval, MARK, READ_METER, the interval
tick and the meter's own close. -/
section
namespace Sys2Proof.Machine

/-! ### The open session -/

theorem sessionOpen_eq {s : State} {c : Session} (held : s.ssc.session = some c) : sessionOpen s = c.opened := by
  simp [sessionOpen, held]

/-! ### The interval close (R147) -/

/-- The meter after an interval close that opens the next interval, field by field: whole Wh carried, the fraction kept. -/
def Meter.rollover (number : Nat) (tariff : Byte) (now : Nat) (m : Meter) : Meter :=
  { m with
    closedFwd := m.closedFwd + m.intervalFwd / 28800000, intervalFwd := m.intervalFwd % 28800000
    closedRev := m.closedRev + m.intervalRev / 28800000, intervalRev := m.intervalRev % 28800000
    number := min 65535 number, tariff := tariff, flags := .clear, elapsed := 0, tick := some now
    closedCount := min 65535 (m.closedCount + 1) }

/-- The INTERVAL record of a close under the flags that its cause leaves. -/
def closeRecord (id : SessionId) (flags : IntervalFlags) (m : Meter) : LogRecord :=
  intervalRecord id { m with flags := flags } (m.intervalFwd / 28800000) (m.intervalRev / 28800000)

/-- The INTERVAL_REPORT of a close under the flags that its cause leaves. -/
def closeReport (id : SessionId) (flags : IntervalFlags) (m : Meter) : Frame :=
  intervalReportFrame id { m with flags := flags } (m.intervalFwd / 28800000) (m.intervalRev / 28800000)

/-- With room in both queues an interval close (R147, steps 1 to 3) queues its record, submits its report, carries the whole
Wh and counts the interval; nothing else changes. -/
theorem closeInterval_of_room {s : State} (id : SessionId) (flags : IntervalFlags) (m : Meter)
    (records : s.rwr.queue.length < 16) (frames : s.lkc.queue.length < 8) :
    closeInterval id flags m s =
      { s with
        lkc := (submit (closeReport id flags m) s).lkc
        rwr := (submitRecord (closeRecord id flags m) (some id) s).rwr
        emt := some { m.carry with flags := flags, closedCount := min 65535 (m.closedCount + 1) } } := by
  unfold closeInterval
  extract_lets fwd rev closing recorded reported
  have record_queued : recorded =
      { s with emt := some closing.carry, rwr := (submitRecord (closeRecord id flags m) (some id) s).rwr } :=
    submitRecord_of_room _ _ records
  have report_submitted : reported = { recorded with lkc := (submit (closeReport id flags m) s).lkc } :=
    submit_of_room rfl frames
  rw [report_submitted, record_queued]
  rfl

/-- A close that opens the next interval (R147, step 4): the same, and the meter rolled over. -/
theorem closeAndOpen_of_room {s : State} {c : Session} {m : Meter} (held : s.ssc.session = some c) (meter : s.emt = some m)
    (records : s.rwr.queue.length < 16) (frames : s.lkc.queue.length < 8) (flags : IntervalFlags) (number : Nat)
    (tariff : Byte) :
    closeAndOpen flags number tariff s =
      { s with
        lkc := (submit (closeReport c.id flags m) s).lkc
        rwr := (submitRecord (closeRecord c.id flags m) (some c.id) s).rwr
        emt := some (m.rollover number tariff s.now) } := by
  simp only [closeAndOpen, held, meter, closeInterval_of_room c.id flags m records frames]
  rfl

/-! ### MARK (R101, R148 to R150) -/

/-- The flags under which a MARK closes the interval: GAP where its number lies above the open one's (R150). -/
def markFlags (number : Nat) (m : Meter) : IntervalFlags :=
  if m.number < number then { m.flags with gap := true } else m.flags

/-- LKC once a MARK that closes the interval has been received and the close's report submitted. -/
def markReported (id : SessionId) (number : Nat) (m : Meter) (s : State) : Lkc :=
  (submit (closeReport id (markFlags number m) m) (withRx .hunt s)).lkc

theorem takeMark_of_closes {s : State} {m : Meter} {number : Nat} (meter : s.emt = some m) (closes : m.number ≤ number)
    (tariff : Byte) : takeMark number tariff s = closeAndOpen (markFlags number m) (number + 1) tariff s := by
  obtain equal | above := closes.eq_or_lt
  · simp [takeMark, markFlags, meter, equal]
  · simp [takeMark, markFlags, meter, above, above.ne', above.not_gt]

theorem takeMark_of_late {s : State} {m : Meter} {number : Nat} (meter : s.emt = some m) (late : number < m.number)
    (tariff : Byte) :
    takeMark number tariff s = submitEvent 7 (beBytes 2 number ++ satBytes 2 m.number) (hold .markLate s) := by
  have alarm : raise .markLate s = hold .markLate s := raise_alarm rfl
  simp [takeMark, meter, late, late.ne, alarm]

theorem markTaken_accepted {s : State} {n : Nat} (number tariff : Byte) (started : s.ssc.station ≠ .starting)
    (session : sessionOpen s = true) (positive : 0 < n) (small : n < 65536) :
    markTaken number (beBytes 2 n ++ [tariff]) s =
      answer number 5 .accepted
        (satBytes 2 (openNumber (takeMark n tariff s)) ++ [BitVec.ofNat 8 (markCloses n s).toNat])
        (takeMark n tariff s) := by
  have n_eq : fieldNat (beBytes 2 n ++ [tariff]) 0 2 = n := fieldNat_beBytes_two small _
  have length : (beBytes 2 n ++ [tariff]).length = 3 := rfl
  have accepted : markReason (beBytes 2 n ++ [tariff]) s = .accepted := by
    simp [markReason, earlyReason, started, length, n_eq, positive.ne', session]
  simp only [markTaken, accepted, n_eq]
  rfl

section OpenSessionMark

variable {s : State} {target : Byte} {c : Session} {m : Meter} {n : Nat} (number tariff : Byte) (named : Named target s)
  (started : s.ssc.station ≠ .starting) (held : s.ssc.session = some c) (opened : c.opened = true)
  (meter : s.emt = some m) (positive : 0 < n) (small : n < 65536)
include named started held opened positive small

/-- An accepted MARK, its REPLY at the tail of what EMT leaves (R101). -/
theorem exec_mark_accepted {v : State} {x : Meter} (handled : takeMark n tariff (withRx .hunt s) = v)
    (left : v.emt = some x) (enabled : v.lkc.enabled = true) (room : v.lkc.queue.length < 8) :
    exec (.mark target number (beBytes 2 n ++ [tariff])) s =
      .next { v with lkc := { v.lkc with queue := v.lkc.queue ++
        [replyEntry number 5 0 0 (satBytes 2 x.number ++ [BitVec.ofNat 8 (markCloses n s).toNat])] } } := by
  have session : sessionOpen (withRx .hunt s) = true := (sessionOpen_eq held).trans opened
  have next_number : openNumber v = x.number := by simp [openNumber, left]
  rw [exec_mark_of_named _ _ named, markTaken_accepted (s := withRx .hunt s) number tariff started session positive small,
    handled, next_number]
  exact congrArg _ (answer_accepted_of_room number 5 _ enabled room)

include meter

/-- A late MARK (R149): MARK_LATE held and its EVENT queued, the meter as it stood. -/
theorem exec_mark_of_late (records : s.rwr.queue.length < 16) (frames : s.lkc.queue.length < 8) (late : n < m.number) :
    exec (.mark target number (beBytes 2 n ++ [tariff])) s =
      .next { s with
        lkc := { s.lkc.receive .hunt with
          queue := s.lkc.queue ++ [replyEntry number 5 0 0 (satBytes 2 m.number ++ [0])] }
        rwr := (submitEvent 7 (beBytes 2 n ++ satBytes 2 m.number) s).rwr
        pru := (hold .markLate s).pru } := by
  have handled := (takeMark_of_late (s := withRx .hunt s) meter late tariff).trans (submitEvent_of_room _ _ records)
  have declined : markCloses n s = false := by simp [markCloses, meter, late]
  rw [exec_mark_accepted number tariff named started held opened positive small handled meter named.enabled frames, declined]
  rfl

/-- A MARK that closes the open interval (R148, R150), its report and its REPLY queued in that order. -/
theorem exec_mark_of_closes (records : s.rwr.queue.length < 16) (frames : s.lkc.queue.length < 7)
    (closes : m.number ≤ n) :
    exec (.mark target number (beBytes 2 n ++ [tariff])) s =
      .next { s with
        lkc := { markReported c.id n m s with
          queue := (markReported c.id n m s).queue ++
            [replyEntry number 5 0 0 (satBytes 2 (min 65535 (n + 1)) ++ [1])] }
        rwr := (submitRecord (closeRecord c.id (markFlags n m) m) (some c.id) s).rwr
        emt := some (m.rollover (n + 1) tariff s.now) } := by
  have room : (withRx .hunt s).lkc.queue.length < 8 := Nat.lt_succ_of_lt frames
  have handled : takeMark n tariff (withRx .hunt s) =
      { s with
        lkc := markReported c.id n m s
        rwr := (submitRecord (closeRecord c.id (markFlags n m) m) (some c.id) s).rwr
        emt := some (m.rollover (n + 1) tariff s.now) } :=
    (takeMark_of_closes (s := withRx .hunt s) meter closes tariff).trans
      (closeAndOpen_of_room (s := withRx .hunt s) held meter records room _ _ _)
  have enabled : (markReported c.id n m s).enabled = true := (submit_enabled_of_room rfl room).trans named.enabled
  have still_room : (markReported c.id n m s).queue.length < 8 :=
    Nat.lt_of_le_of_lt (submit_length_of_room rfl room) (Nat.succ_lt_succ frames)
  have taken : markCloses n s = true := by simp [markCloses, meter, closes]
  rw [exec_mark_accepted number tariff named started held opened positive small handled rfl enabled still_room, taken]
  rfl

end OpenSessionMark

/-- The blocks that a MARK can change: LKC, EMT, RWR and PRU. -/
theorem with_meterBlocks_sameBut (s : State) (l : Lkc) (e : Option Meter) (r : Rwr) (p : Pru) :
    sameBut [.lkc, .emt, .rwr, .pru] s { s with lkc := l, emt := e, rwr := r, pru := p } := by
  intro part other
  cases part with
  | lkc | emt | rwr | pru => simp at other
  | _ => simp [Part.same]

/-- Settles O38, by the MARK's number against the open interval's: late (R149), or a close (R148, R150). -/
theorem markClosesSkipsOrDeclines : Obligations.MarkClosesSkipsOrDeclines := by
  intro s target number n tariff c m named started held opened meter positive small records frames
  obtain late | closes := Nat.lt_or_ge n m.number
  · refine ⟨_, exec_mark_of_late number tariff named started held opened meter positive small (by omega) (by omega) late,
      with_meterBlocks_sameBut s _ _ _ _, fun _ => ⟨meter, mem_held_hold .markLate s, rfl, ?event⟩,
      fun above => absurd late above.not_gt⟩
    case event => exact submitRecord_drop_of_room _ _ (by omega)
  · refine ⟨_, exec_mark_of_closes number tariff named started held opened meter positive small (by omega) (by omega)
      closes, with_meterBlocks_sameBut s _ _ _ _, fun below => absurd below closes.not_gt,
      fun _ => ⟨rfl, rfl, ?reply, ?record⟩⟩
    case reply => simp
    case record => exact submitRecord_drop_of_room _ _ (by omega)

/-! ### READ_METER (R155) -/

theorem readMeterTaken_accepted {s : State} {m : Meter} (number : Byte) (started : s.ssc.station ≠ .starting)
    (session : sessionOpen s = true) (meter : s.emt = some m) :
    readMeterTaken number [] s = answer number 7 .accepted (meterData m) s := by
  have accepted : readMeterReason [] s = .accepted := by simp [readMeterReason, earlyReason, started, session]
  simp only [readMeterTaken, accepted, meter]

/-- R147's law in whole Wh: the closed intervals' Wh and the open interval's make up the session's. -/
theorem closed_add_open_eq_session {session closed rest : Nat} (law : session = 28800000 * closed + rest) :
    closed + rest / 28800000 = session / 28800000 := by omega

/-- Settles O39: READ_METER is answered from the fields as they stand, and the REPLY is all that it leaves. -/
theorem readMeterReportsWholeWattHours : Obligations.ReadMeterReportsWholeWattHours := by
  intro s target number c m named started held opened meter room
  have session : sessionOpen (withRx .hunt s) = true := (sessionOpen_eq held).trans opened
  constructor
  · rw [exec_readMeter_of_named number [] named,
      readMeterTaken_accepted (s := withRx .hunt s) number started session meter]
    exact congrArg _ (answer_accepted_of_room (s := withRx .hunt s) number 7 (meterData m) named.enabled room)
  · intro law
    obtain ⟨forward, reverse⟩ := law m meter
    exact ⟨closed_add_open_eq_session forward, closed_add_open_eq_session reverse⟩

/-! ### The interval tick and the meter's own close (R146, R151) -/

theorem exec_intervalTick_of_due {s : State} {start : Nat} (run : s.phase = .run) (tick : meterTick s = some start)
    (due : start + 8000 ≤ s.now) : exec .intervalTick s = .next { s with emt := s.emt.map Meter.second } := by
  have dispatched : exec .intervalTick s = execIntervalTick s := rfl
  rw [dispatched, execIntervalTick, running_run run, onExpiry_some tick, catchUp_of_due due]

theorem exec_intervalTick_of_stopped {s : State} (run : s.phase = .run) (tick : meterTick s = none) :
    exec .intervalTick s = .next s := by
  have dispatched : exec .intervalTick s = execIntervalTick s := rfl
  rw [dispatched, execIntervalTick, running_run run, onExpiry_none tick]

theorem meterTick_of_open {s : State} {m : Meter} (session : sessionOpen s = true) (meter : s.emt = some m) :
    meterTick s = m.tick := by
  simp [meterTick, session, meter]

theorem meterTick_of_not_open {s : State} (session : sessionOpen s = false) : meterTick s = none := by
  cases meter : s.emt <;> simp [meterTick, session, meter]

theorem exec_intervalSelfClose_of_run {s : State} (run : s.phase = .run) :
    exec .intervalSelfClose s = .next (selfClose s) :=
  running_run run

theorem selfClose_of_reached {s : State} {c : Session} {m : Meter} (held : s.ssc.session = some c)
    (opened : c.opened = true) (meter : s.emt = some m) (reached : c.minutes * 60 + 60 ≤ m.elapsed) :
    selfClose s = closeAndOpen { m.flags with selfClosed := true } (m.number + 1) m.tariff s := by
  simp [selfClose, held, opened, meter, reached]

theorem selfClose_of_short {s : State} {c : Session} {m : Meter} (held : s.ssc.session = some c) (meter : s.emt = some m)
    (short : m.elapsed < c.minutes * 60 + 60) : selfClose s = s := by
  simp [selfClose, held, meter, short]

theorem closeAndOpen_sameBut {s : State} {c : Session} {m : Meter} (held : s.ssc.session = some c) (meter : s.emt = some m)
    (records : s.rwr.queue.length < 16) (frames : s.lkc.queue.length < 8) (flags : IntervalFlags) (number : Nat)
    (tariff : Byte) : sameBut [.lkc, .emt, .rwr] s (closeAndOpen flags number tariff s) := by
  rw [closeAndOpen_of_room held meter records frames]
  intro part other
  cases part with
  | lkc | emt | rwr => simp at other
  | _ => simp [Part.same]

/-- Settles O43: the tick runs while the session is OPEN, and the meter's own close is a close that opens the next interval
with the tariff kept. -/
theorem intervalTickAndOwnClose : Obligations.IntervalTickAndOwnClose := by
  refine ⟨fun s c m start run held meter => ⟨fun opened tick due => ?ticks, fun closed => ?stopped⟩,
    fun s c m run held opened meter records frames => ⟨fun reached => ?reached, fun short => ?short⟩⟩
  case ticks =>
    have runs : meterTick s = some start := (meterTick_of_open ((sessionOpen_eq held).trans opened) meter).trans tick
    simp [exec_intervalTick_of_due run runs due, meter, Meter.second, tick, Timer.restart]
  case stopped =>
    exact exec_intervalTick_of_stopped run (meterTick_of_not_open ((sessionOpen_eq held).trans closed))
  case reached =>
    refine ⟨_, exec_intervalSelfClose_of_run run, ?_⟩
    rw [selfClose_of_reached held opened meter reached]
    refine ⟨closeAndOpen_sameBut held meter (by omega) (by omega) _ _ _, ?_⟩
    rw [closeAndOpen_of_room held meter (by omega) (by omega)]
    exact ⟨rfl, submitRecord_drop_of_room _ _ (by omega)⟩
  case short =>
    rw [exec_intervalSelfClose_of_run run, selfClose_of_short held meter short]

end Sys2Proof.Machine
end

/-! PROOFS. What a step is made of: every command but the resets is a sequence of pieces of work, each of which keeps the
laws of `Safety.lean`. -/
section
namespace Sys2Proof.Machine

/-! ### Sizes (R160, 13.4) -/

@[simp] theorem beBytes_length (width n : Nat) : (beBytes width n).length = width := by
  induction width with
  | zero => rfl
  | succ width ih => simp [beBytes, ih]

@[simp] theorem satBytes_length (width n : Nat) : (satBytes width n).length = width := by simp [satBytes]

@[simp] theorem sBytes_length (i : Int) : (sBytes i).length = 2 := by simp [sBytes]

@[simp] theorem heldSetBytes_length (s : State) : (heldSetBytes s).length = 3 := by simp [heldSetBytes]

theorem eventRecord_size (subkind : Byte) (data : List Byte) : (eventRecord subkind data).size = 16 := by
  simp [eventRecord, LogRecord.size, field]

theorem tripRecord_size (r : FirstCause) (id : Option SessionId) (s : State) : (tripRecord r id s).size = 48 := by
  simp [tripRecord, LogRecord.size]

theorem intervalRecord_size (id : SessionId) (m : Meter) (fwd rev : Nat) : (intervalRecord id m fwd rev).size = 32 := by
  simp [intervalRecord, intervalContents, LogRecord.size]

theorem sessionCloseRecord_size (id : SessionId) (m : Meter) : (sessionCloseRecord id m).size = 48 := by
  simp [sessionCloseRecord, LogRecord.size]

theorem sessionOpenRecord_size (s : State) (c : Session) (m : Meter) (resumed : Bool) :
    (sessionOpenRecord s c m resumed).size = 32 := by
  simp [sessionOpenRecord, LogRecord.size]

/-! ### Pieces of work -/

/-- The pieces of work that only some commands do: the contactor commanded closed (R106, R111), held conditions cleared
(R177), the period work (R19), the configuration load (R158), a sample integrated (R145), the wake with its session opened
(R89). -/
inductive Leave where
  | closes | clears | drives | loads | meters | opens

/-- R147's balance of one meter. -/
def Meter.Balanced (m : Meter) : Prop :=
  m.sessionFwd = 28800000 * m.closedFwd + m.intervalFwd ∧ m.sessionRev = 28800000 * m.closedRev + m.intervalRev

/-- R131's bounds of HOC's two powers. -/
def Hoc.Within (h : Hoc) : Prop :=
  (∀ t, h.pTarget = some t → 0 ≤ t ∧ t ≤ 1000000) ∧ ∀ g, h.pFinal = some g → 0 ≤ g ∧ g ≤ 1000

/-- LKC's queue has lost entries or kept them, no status broadcast having joined, and the receive state is IDLE exactly with
an idle link, or both stand as they were (R40, R52). -/
def Lkc.Tidied (old new : Lkc) : Prop :=
  new.enabled = old.enabled ∧ new.queue.length ≤ old.queue.length ∧
    (new.queue.countP fun e => e.frame.isStatus) ≤ (old.queue.countP fun e => e.frame.isStatus) ∧
    (new.rx = old.rx ∧ new.linkIdle = old.linkIdle ∨ (new.linkIdle = true ↔ new.rx = .idle))

/-- SYN with contactor command, permit drive, ready and ship dwell as they were. -/
def Syn.Aside (old new : Syn) : Prop :=
  new.cmdClosed = old.cmdClosed ∧ new.permit = old.permit ∧ new.ready = old.ready ∧ new.shipDwell = old.shipDwell

/-- The entries of the view stay in rising order, and each is of an address that had one or of a station heard (R63). -/
def ViewKept (s : State) (ps : List Peer) : Prop :=
  (s.pvw.peers.Pairwise (fun x y => x.addr < y.addr) → ps.Pairwise (fun x y => x.addr < y.addr)) ∧
    ∀ e ∈ ps, (∃ x ∈ s.pvw.peers, x.addr = e.addr) ∨
      isStation e.addr = true ∧ e.addr ≠ s.addr ∧ s.lkc.enabled = true

/-- What a command may be made of, outside the resets. `leave`: the pieces that only some commands do. -/
inductive Work (leave : List Leave) : State → State → Prop where
  | refl (s : State) : Work leave s s
  | trans {s t u : State} : Work leave s t → Work leave t u → Work leave s u
  /-- Blocks of which no law of `Safety.lean` speaks. -/
  | aside (s : State) (pending : List Instr) (pair : List Bool) (freeCount : Nat) (sbAux tripIn : Bool) (spt : Spt) (msu : Msu)
      (btr : Btr) (shc : Shc) :
      Work leave s { s with
        pending := pending, pair := pair, freeCount := freeCount, sbAux := sbAux, tripIn := tripIn, spt := spt, msu := msu
        btr := btr, shc := shc }
  | clock (s : State) (now : Nat) : s.now ≤ now → Work leave s { s with now := now }
  | lkc (s : State) (l : Lkc) : Lkc.Tidied s.lkc l → Work leave s { s with lkc := l }
  | submit (f : Frame) (s : State) : Work leave s (submit f s)
  | cadence (s : State) (v : Pvw) : v.peers = s.pvw.peers → Work leave s { s with pvw := v }
  | peers (s : State) (ps : List Peer) : ViewKept s ps → Work leave s (withPeers ps s)
  | record (r : LogRecord) (id : Option SessionId) (s : State) : r.size ≤ 48 → Work leave s (submitRecord r id s)
  /-- A condition held without a trip (R172). -/
  | hold (c : Condition) (s : State) :
      ¬ (isHeld s c = false ∧ tripClass s.params c = true ∧ canTrip s = true) → Work leave s (hold c s)
  | cause (s : State) (p : Pru) : p.held = s.pru.held → Work leave s { s with pru := p }
  | clear (s : State) : .clears ∈ leave → Work leave s (clearHeld s)
  /-- The change into TRIPPED (R174). -/
  | tripped (s : State) (p : Pru) : s.phase = .run → s.ssc.station ≠ .invalid → (∀ x ∈ s.pru.held, x ∈ p.held) →
      Work leave s (enterTripped { s with pru := p })
  | params (s : State) (p : Params) : .loads ∈ leave → s.ssc.station = .starting → 1 ≤ p.rate → 1 ≤ p.ramp →
      Work leave s { s with params := p }
  | drive (s : State) : .drives ∈ leave → Work leave s (periodWork s)
  | syn (s : State) (y : Syn) : Syn.Aside s.syn y → Work leave s { s with syn := y }
  | openContactor (s : State) : Work leave s (orderContactor false s)
  | closeContactor (s : State) : .closes ∈ leave → s.phase = .run → s.ssc.station = .joining →
      Work leave s (orderContactor true s)
  | ccAux (s : State) (closed confirmed : Bool) :
      Work leave s (setPermit { s with ccAux := closed, syn := { s.syn with confirmed := confirmed } })
  | shipJudged (s : State) : Work leave s (shipJudged s)
  /-- The ship dwell has run out (R121). -/
  | shipReady (s : State) (start : Nat) : s.phase = .run → s.ssc.station = .shipSync → s.syn.shipDwell = some start →
      start + ms s.params.shipDwell ≤ s.now → Work leave s (shipDwellDone s)
  | hoc (s : State) (h : Hoc) : (1 ≤ s.params.ramp → s.hoc.Within → h.Within) → Work leave s { s with hoc := h }
  /-- A change between two of the states from PREPARED to HANDOVER_OUT but SHIP_SYNC (R92 to R94). -/
  | serve (s : State) (new : StationState) (y : Syn) (c : Shc) (h : Hoc) : s.ssc.station.serving = true →
      new.serving = true → new ≠ .shipSync → y.cmdClosed = s.syn.cmdClosed →
      (y.ready = true → s.syn.ready = true ∧ s.ssc.station ≠ .shipSync) → (s.hoc.Within → h.Within) →
      Work leave s (settled { moveTo new s with syn := y, shc := c, hoc := h })
  | seek (s : State) : s.ssc.station = .online → Work leave s (enterShipSync s)
  | wake (s : State) : s.ssc.station = .standby → s.ssc.session.isSome = true → .opens ∈ leave →
      Work leave s (enterPrepared s)
  /-- The session closed and the change into CLOSING (R95). -/
  | closing (s : State) : s.ssc.station.serving = true →
      Work leave s (enterClosing
        { s with ssc := { s.ssc with session := s.ssc.session.map fun c => { c with opened := false } } })
  | standby (s : State) : s.ssc.station = .starting ∨ s.ssc.station = .closing ∨ s.ssc.station = .tripped →
      tripHeld s = false ∨ s.ssc.station = .closing → Work leave s (enterStandby s)
  | meter (s : State) (e : Option Meter) : e.isSome = s.emt.isSome →
      (∀ n, e = some n → ∃ m, s.emt = some m ∧ (m.Balanced → n.Balanced) ∧ n.sessionFwd = m.sessionFwd ∧
        n.sessionRev = m.sessionRev) → Work leave s { s with emt := e }
  | integrate (p : Int) (s : State) : .meters ∈ leave → Work leave s (integrate p s)
  /-- The retained session is taken again (R90). -/
  | renew (s : State) (f : Session → Session) : (∀ c, (f c).opened = c.opened ∧ (f c).id = c.id) →
      Work leave s { s with ssc := { s.ssc with session := s.ssc.session.map f } }
  /-- A session context given or taken away in STANDBY (R89, R91). -/
  | session (s : State) (c : Option Session) (e : Option Meter) : .opens ∈ leave → s.ssc.station = .standby →
      e.isSome = c.isSome → (∀ x, c = some x → x.opened = true) → (∀ m, e = some m → m.Balanced) →
      Work leave s { s with ssc := { s.ssc with session := c }, emt := e }
  /-- Work of the record store, whose law is proved with the store. -/
  | store (s : State) (r : Rwr) (x : Fpt) (m : Memory) (freeCount : Nat) :
      (StoreInv s → StoreInv { s with rwr := r, fpt := x, mem := m, freeCount := freeCount }) →
      Work leave s { s with rwr := r, fpt := x, mem := m, freeCount := freeCount }

/-- Two pieces of work, the second named first. -/
theorem Work.after {leave : List Leave} {s t u : State} (second : Work leave t u) (first : Work leave s t) : Work leave s u :=
  first.trans second

/-! ### What every piece keeps -/

@[simp] theorem enterStandby_phase (s : State) : (enterStandby s).phase = s.phase := by
  simp only [enterStandby, settled_phase, standbyStatus]; split <;> rfl

@[simp] theorem shipJudged_phase (s : State) : (shipJudged s).phase = s.phase := by unfold shipJudged; split <;> rfl
@[simp] theorem shipJudged_ssc (s : State) : (shipJudged s).ssc = s.ssc := by unfold shipJudged; split <;> rfl
@[simp] theorem shipJudged_lkc (s : State) : (shipJudged s).lkc = s.lkc := by unfold shipJudged; split <;> rfl

theorem enqueue_enabled (listening : Bool) (f : Frame) (l : Lkc) : (l.enqueue listening f).1.enabled = l.enabled := by
  unfold Lkc.enqueue
  repeat' split
  all_goals rfl

@[simp] theorem submit_enabled (f : Frame) (s : State) : (submit f s).lkc.enabled = s.lkc.enabled := enqueue_enabled ..

@[simp] theorem moveTo_enabled (new : StationState) (s : State) : (moveTo new s).lkc.enabled = s.lkc.enabled := by
  simp only [moveTo]; split <;> rfl

@[simp] theorem enterShipSync_phase (s : State) : (enterShipSync s).phase = s.phase := by simp [enterShipSync]

@[simp] theorem shipJudged_addr (s : State) : (shipJudged s).addr = s.addr := by unfold shipJudged; split <;> rfl
@[simp] theorem enterShipSync_addr (s : State) : (enterShipSync s).addr = s.addr := by simp [enterShipSync]
@[simp] theorem enterStandby_addr (s : State) : (enterStandby s).addr = s.addr := by
  simp only [enterStandby, settled_addr, standbyStatus]; split <;> rfl
@[simp] theorem enterTripped_addr (s : State) : (enterTripped s).addr = s.addr := by
  simp [enterTripped]
@[simp] theorem enterClosing_addr (s : State) : (enterClosing s).addr = s.addr := by
  simp [enterClosing]
@[simp] theorem enterClosing_phase (s : State) : (enterClosing s).phase = s.phase := by
  simp [enterClosing]

theorem Work.phase {leave : List Leave} {s t : State} (w : Work leave s t) : t.phase = s.phase := by
  induction w with
  | trans _ _ first second => exact second.trans first
  | standby s => exact enterStandby_phase s
  | shipJudged s => exact shipJudged_phase s
  | seek s => exact enterShipSync_phase s
  | tripped s p => exact enterTripped_phase _
  | closing s => exact enterClosing_phase _
  | _ => rfl

theorem Work.addr {leave : List Leave} {s t : State} (w : Work leave s t) : t.addr = s.addr := by
  induction w with
  | trans _ _ first second => exact second.trans first
  | standby s => exact enterStandby_addr s
  | shipJudged s => exact shipJudged_addr s
  | seek s => exact enterShipSync_addr s
  | tripped s p => exact enterTripped_addr _
  | closing s => exact enterClosing_addr _
  | _ => rfl

theorem enterTripped_lkc (s : State) : (enterTripped s).lkc = if s.ssc.station = .joining then s.lkc.dropClaim else s.lkc := by
  simp only [enterTripped, settled_lkc, clearClosed_lkc, moveTo, commandContactor_ssc, commandContactor_lkc, gatesOff_ssc,
    gatesOff_lkc]
  rfl

theorem enterClosing_lkc (s : State) : (enterClosing s).lkc = if s.ssc.station = .joining then s.lkc.dropClaim else s.lkc := by
  simp only [enterClosing, settled_lkc, moveTo, commandContactor_ssc, commandContactor_lkc, gatesOff_ssc, gatesOff_lkc]
  rfl

theorem enterPrepared_lkc (s : State) : (enterPrepared s).lkc = if s.ssc.station = .joining then s.lkc.dropClaim else s.lkc := by
  simp only [enterPrepared, settled_lkc, moveTo]

theorem enterShipSync_lkc (s : State) : (enterShipSync s).lkc = if s.ssc.station = .joining then s.lkc.dropClaim else s.lkc := by
  simp only [enterShipSync, settled_lkc, shipJudged_lkc, moveTo]

theorem Work.enabled {leave : List Leave} {s t : State} (w : Work leave s t) : t.lkc.enabled = s.lkc.enabled := by
  induction w with
  | trans _ _ first second => exact second.trans first
  | lkc s l tidied => exact tidied.1
  | submit f s => exact submit_enabled f s
  | tripped s p => rw [enterTripped_lkc]; split <;> rfl
  | serve s new => simp only [settled_lkc]; exact moveTo_enabled new s
  | seek s => rw [enterShipSync_lkc]; split <;> rfl
  | wake s => rw [enterPrepared_lkc]; split <;> rfl
  | closing s => rw [enterClosing_lkc]; split <;> rfl
  | standby s =>
    simp only [enterStandby, settled_lkc, standbyStatus, Lkc.dropClaim]
    split <;> simp
  | shipJudged s => simp
  | _ => rfl

end Sys2Proof.Machine
end

/-! PROOFS. What a step is made of, block by block: the trip, the measurement path, the changes of state, the link. -/
section
namespace Sys2Proof.Machine

/-! ### Records, announcements, raising and the trip -/

section
variable {leave : List Leave} {s t : State}

theorem event_work (subkind : Byte) (data : List Byte) (s : State) : Work leave s (submitEvent subkind data s) :=
  .record _ _ _ (by simp [eventRecord_size])

theorem triggerStatus_work (s : State) : Work leave s (triggerStatus s) :=
  .after (.cadence (submit (statusFrame s) s) { (submit (statusFrame s) s).pvw with cadence := some s.now, slot := 0 } rfl)
    (.submit (statusFrame s) s)

theorem announce_eq (before after : State) :
    announce before after = if announces before after then triggerStatus after else after := by
  unfold announce
  split <;> rfl

theorem announce_work (before : State) (w : Work leave s t) : Work leave s (announce before t) := by
  rw [announce_eq]
  split
  · exact w.trans (triggerStatus_work t)
  · exact w

theorem announcing_work {f : State → State} (w : Work leave s (f s)) : Work leave s (announcing f s) := announce_work s w

/-- A trip (R174), the held set of PRU grown or as it was. -/
theorem tripWith_work (r : FirstCause) (p : Pru) (run : s.phase = .run) (valid : s.ssc.station ≠ .invalid)
    (kept : ∀ x ∈ s.pru.held, x ∈ p.held) : Work leave s (tripWith r { s with pru := p }) :=
  .after (.record _ _ _ (by simp [tripRecord_size]))
    (.after (.submit _ _) (announce_work _ (.tripped s { p with first := some r } run valid kept)))

theorem canTrip_iff (s : State) :
    canTrip s = true ↔ s.phase = .run ∧ s.ssc.station ≠ .starting ∧ s.ssc.station ≠ .invalid ∧ s.ssc.station ≠ .tripped := by
  simp [canTrip, and_assoc]

theorem hold_grows (c : Condition) (s : State) : ∀ x ∈ s.pru.held, x ∈ (hold c s).pru.held :=
  fun _ h => (held_hold c _ s).mpr (.inr h)

theorem raise_work (c : Condition) (s : State) : Work leave s (raise c s) := by
  unfold raise
  split
  next trips =>
    obtain ⟨run, -, valid, -⟩ := (canTrip_iff s).mp trips.2.2
    exact tripWith_work _ (hold c s).pru run valid (hold_grows c s)
  next quiet => exact .hold c s quiet

theorem raiseIf_work (met : Bool) (c : Condition) (s : State) : Work leave s (raiseIf met c s) := by
  unfold raiseIf
  split
  · exact raise_work c s
  · exact .refl s

theorem onExpiry_work {timer : Timer} {length : Nat} {f : State → State}
    (w : ∀ start, timer = some start → Work leave (catchUp start length s) (f (catchUp start length s))) :
    Work leave s (onExpiry timer length f s) := by
  cases timer with
  | none => exact .refl s
  | some start => exact .after (w start rfl) (.clock s _ (Nat.le_max_left ..))

end

/-! ### The link: bad frames and the receiver -/

section
variable {leave : List Leave}

theorem Lkc.Tidied.of_same {old new : Lkc} (enabled : new.enabled = old.enabled) (queue : new.queue = old.queue)
    (rx : new.rx = old.rx) (idle : new.linkIdle = old.linkIdle) : Lkc.Tidied old new :=
  ⟨enabled, by rw [queue], by rw [queue], .inl ⟨rx, idle⟩⟩

theorem Lkc.Tidied.of_filter {old new : Lkc} (keep : TxEntry → Bool) (enabled : new.enabled = old.enabled)
    (queue : new.queue = old.queue.filter keep) (rx : new.rx = old.rx) (idle : new.linkIdle = old.linkIdle) :
    Lkc.Tidied old new :=
  ⟨enabled, by rw [queue]; exact List.length_filter_le .., by rw [queue]; exact (List.filter_sublist ..).countP_le,
    .inl ⟨rx, idle⟩⟩

theorem dropClaim_tidied (l : Lkc) : Lkc.Tidied l l.dropClaim := .of_filter _ rfl rfl rfl rfl

theorem countBad_work (s : State) : Work leave s (countBad s) := by
  unfold countBad
  split
  · exact .after (raiseIf_work ..) (.lkc s _ (.of_same rfl rfl rfl rfl))
  · exact .refl s

theorem countBads_work (n : Nat) (s : State) : Work leave s (countBads n s) := by
  induction n generalizing s with
  | zero => exact .refl s
  | succ n ih => exact (countBad_work s).trans (ih _)

theorem withRx_work (rx : RxState) (s : State) : Work leave s (withRx rx s) :=
  .lkc s _ ⟨rfl, le_rfl, le_rfl, .inr beq_iff_eq⟩

theorem heardBad_work (s : State) : Work leave s (heardBad s) := by
  unfold heardBad
  split
  · exact countBad_work s
  · exact .lkc s _ (.of_same rfl rfl rfl rfl)

theorem discardPartial_work (rx : RxState) (s : State) : Work leave s (discardPartial rx s) := by
  unfold discardPartial
  split
  · exact withRx_work rx s
  · exact .after (withRx_work rx _) (heardBad_work s)

theorem frameBad_work (s : State) : Work leave s (frameBad s) := .after (withRx_work _ _) (heardBad_work s)

theorem syncJudged_work (run : Nat) (tailRecessive : Bool) (s : State) : Work leave s (syncJudged run tailRecessive s) := by
  have measured : Work leave s { s with lkc := { s.lkc with rxRun := run } } := .lkc s _ (.of_same rfl rfl rfl rfl)
  unfold syncJudged
  dsimp only
  split
  · exact .after (withRx_work ..) measured
  · exact .after (withRx_work ..) (.after (heardBad_work _) measured)

theorem onLink_work {f : State → State} {s : State} (w : s.lkc.enabled = true → Work leave s (f s)) :
    Work leave s (onLink f s) := by
  unfold onLink
  split
  next enabled => exact w enabled
  next => exact .refl s

/-! ### Claims and the contactor -/

theorem raiseClaim_work (s : State) : Work leave s (raiseClaim s) := by
  unfold raiseClaim
  split
  · exact .after (.syn _ _ ⟨rfl, rfl, rfl, rfl⟩) (.submit (claimFrame s) s)
  · exact .refl s

/-- A change of SYN that leaves contactor command, permit, ready and ship dwell alone, before another piece of work. -/
theorem Work.after_syn {s t : State} (y : Syn) (w : Work leave { s with syn := y } t) (aside : Syn.Aside s.syn y) :
    Work leave s t := (Work.syn s y aside).trans w

theorem berthChanged_work (old : BusState) (s : State) : Work leave s (berthChanged old s) := by
  refine Work.after_syn (s := s) (berthChanged old s).syn (.lkc _ (berthChanged old s).lkc ?_) ⟨rfl, rfl, rfl, rfl⟩
  unfold berthChanged
  dsimp only
  split
  · exact dropClaim_tidied s.lkc
  · exact .of_same rfl rfl rfl rfl

theorem foreignClaim_work (sender : Addr) (s : State) : Work leave s (foreignClaim sender s) := by
  have recorded (y : Syn) (aside : Syn.Aside s.syn y) : Work leave s { s with syn := y, lkc := s.lkc.dropClaim } :=
    .after (.lkc { s with syn := y } _ (dropClaim_tidied s.lkc)) (.syn s y aside)
  unfold foreignClaim
  split
  · exact .refl s
  · exact .after (.openContactor _) (recorded _ ⟨rfl, rfl, rfl, rfl⟩)
  · exact recorded _ ⟨rfl, rfl, rfl, rfl⟩

theorem expireClaimOf_work (sender : Addr) (s : State) : Work leave s (expireClaimOf sender s) := by
  unfold expireClaimOf
  split
  · split
    · exact Work.after_syn (s := s) _ (raiseClaim_work _) ⟨rfl, rfl, rfl, rfl⟩
    · exact .refl s
  · exact .refl s

theorem joinJudged_aside (s : State) : Syn.Aside s.syn (joinJudged s).syn := by
  unfold joinJudged
  dsimp only
  split_ifs <;> exact ⟨rfl, rfl, rfl, rfl⟩

theorem joinJudged_work (s : State) : Work leave s (joinJudged s) := .syn s _ (joinJudged_aside s)

theorem energiseFailed_work (s : State) : Work leave s (energiseFailed s) :=
  .after (raiseClaim_work _) (.after (.syn _ _ ⟨rfl, rfl, rfl, rfl⟩)
    (.after (event_work _ _ _) (.after (raise_work _ _) (.openContactor s))))

/-! ### Changes of state among the serving states -/

theorem moved_cmdClosed (old new : StationState) (y : Syn) : (y.moved old new).cmdClosed = y.cmdClosed := by
  unfold Syn.moved; split_ifs <;> rfl

theorem moved_ready {old new : StationState} {y : Syn} (ready : (y.moved old new).ready = true) :
    y.ready = true ∧ old ≠ .shipSync := by
  unfold Syn.moved at ready
  split_ifs at ready with joining seeking
  · exact ⟨ready, by rw [joining]; decide⟩
  · cases ready
  · exact ⟨ready, seeking⟩

theorem Hoc.initial_within : Hoc.initial.Within := ⟨nofun, nofun⟩

theorem moved_within {old new : StationState} {h : Hoc} (within : h.Within) : (h.moved old new).Within := by
  unfold Hoc.moved
  split
  · exact Hoc.initial_within
  · exact within

theorem targetOf_bounds (p : Int) : 0 ≤ targetOf p ∧ targetOf p ≤ 1000000 := by
  unfold targetOf clamp
  split_ifs <;> omega

/-- HOC with a target taken from the own P‰ (R129, R137). -/
theorem within_of_target {old new : Hoc} (p : Int) (target : new.pTarget = some (targetOf p)) (final : new.pFinal = old.pFinal)
    (within : old.Within) : new.Within := by
  refine ⟨fun t ht => ?_, by rw [final]; exact within.2⟩
  obtain rfl := Option.some.inj (target.symm.trans ht)
  exact targetOf_bounds p

section
variable {s : State} (serving : s.ssc.station.serving = true)
include serving

theorem moveOnline_work : Work leave s (settled (moveTo .online s)) :=
  .serve s .online (moveTo .online s).syn (moveTo .online s).shc (moveTo .online s).hoc serving rfl (by decide)
    (moved_cmdClosed ..) moved_ready moved_within

theorem enterHandoverIn_work : Work leave s (enterHandoverIn s) :=
  .after (event_work _ _ _)
    (.serve s .handoverIn (moveTo .handoverIn s).syn (moveTo .handoverIn s).shc _ serving rfl (by decide)
      (moved_cmdClosed ..) moved_ready
      (fun within => within_of_target (old := s.hoc.moved s.ssc.station .handoverIn) s.msu.p rfl rfl (moved_within within)))

theorem enterHandoverOut_work : Work leave s (enterHandoverOut s) := by
  have moved : Work leave s (settled { moveTo .handoverOut s with
      hoc := s.hoc.enterOut s.msu.p s.params.partReady s.now }) :=
    .serve s .handoverOut (moveTo .handoverOut s).syn (moveTo .handoverOut s).shc _ serving rfl (by decide)
      (moved_cmdClosed ..) moved_ready (within_of_target s.msu.p rfl rfl)
  unfold enterHandoverOut
  dsimp only
  split
  · exact .after (event_work _ _ _) moved
  · exact moved

theorem enterSupplying_work : Work leave s (enterSupplying s) := by
  have moved : Work leave s (settled { moveTo .supplying s with
      hoc := { s.hoc with
        pTarget := none, pFinal := none, fHo := 0, timer := none, stale := none, tick := none }
      shc := { s.shc with rest := some s.now } }) :=
    .serve s .supplying (moveTo .supplying s).syn _ _ serving rfl (by decide) (moved_cmdClosed ..) moved_ready
      (fun _ => ⟨nofun, nofun⟩)
  refine .after (.meter _ _ (by simp) ?_) (.after (event_work _ _ _) moved)
  intro n h
  obtain ⟨m, meter, rfl⟩ := Option.map_eq_some_iff.mp h
  exact ⟨m, meter, id, rfl, rfl⟩

theorem enterJoining_work : Work leave s (enterJoining s) :=
  .serve s .joining _ (moveTo .joining s).shc (moveTo .joining s).hoc serving rfl (by decide)
    (moved_cmdClosed s.ssc.station .joining s.syn) (moved_ready (old := s.ssc.station) (new := .joining)) moved_within

theorem enterOnline_work : Work leave s (enterOnline s) := by
  unfold enterOnline
  split
  · exact .after (enterHandoverIn_work rfl) (moveOnline_work serving)
  · exact moveOnline_work serving

end

theorem reportClosed_work (s : State) : Work leave s (reportClosed s) := by
  unfold reportClosed
  split
  next joined => exact enterOnline_work (by rw [joined.2.1]; rfl)
  next => exact .refl s

/-! ### Handover -/

theorem pull_within {now : Nat} {h : Hoc} (within : h.Within) : (h.pull now).Within := by
  unfold Hoc.pull
  split <;> exact within

theorem judgePart_within {p threshold : Int} {now : Nat} {h : Hoc} (within : h.Within) :
    (h.judgePart p threshold now).Within := by
  unfold Hoc.judgePart
  split <;> exact within

theorem judgeTrip_work (s : State) : Work leave s (judgeTrip s) := by
  refine .hoc s _ fun _ within => ?_
  split_ifs
  · exact pull_within within
  · exact within

theorem partJudged_work (s : State) : Work leave s (partJudged s) := by
  refine .hoc s _ fun _ within => ?_
  split_ifs
  · exact judgePart_within within
  · exact within

theorem partReached_work (s : State) : Work leave s (partReached s) := by
  have ready : Work leave s { s with hoc := { s.hoc with ready := true, part := none } } := .hoc s _ fun _ within => within
  unfold partReached
  dsimp only
  split
  · exact ready
  · exact .after (judgeTrip_work _) ready

/-- The seconds of a handover are handed to the meter (R154). -/
theorem addHandover_work (seconds : Nat) (s : State) :
    Work leave s { s with emt := s.emt.map (Meter.addHandover seconds) } := by
  refine .meter s _ (by simp) fun n h => ?_
  obtain ⟨m, meter, rfl⟩ := Option.map_eq_some_iff.mp h
  exact ⟨m, meter, id, rfl, rfl⟩

theorem abortHandover_work (cause peer : Byte) {s : State} (serving : s.ssc.station.serving = true) :
    Work leave s (abortHandover cause peer s) := by
  have alarm (u : State) : raise .handoverAborted u = hold .handoverAborted u := raise_alarm rfl
  unfold abortHandover
  dsimp only
  refine .after (enterHandoverOut_work ?_) (.after (addHandover_work _ _) (.after (event_work _ _ _)
    (.after (raise_work _ _) (.hoc s _ fun _ within => within))))
  rw [submitEvent_ssc, alarm]
  exact serving

theorem viewJudged_work (s : State) : Work leave s (viewJudged s) := by
  unfold viewJudged
  split
  next inward =>
    split
    · exact abortHandover_work _ _ (by rw [inward.2]; rfl)
    · exact .refl s
  next => exact judgeTrip_work s

theorem judgedIf_work (changed : Bool) (s : State) : Work leave s (judgedIf changed s) := by
  unfold judgedIf
  split
  · exact viewJudged_work s
  · exact .refl s

theorem handoverOutExpired_work (s : State) : Work leave s (handoverOutExpired s) :=
  .after (.hoc _ _ fun _ within => pull_within within) (.after (event_work _ _ _) (raise_work .handoverAborted s))

theorem tripReached_work (s : State) : Work leave s (tripReached s) :=
  .after (raiseIf_work ..) (.hoc s _ fun _ within => within)

/-! ### Targets (R130, R131) -/

theorem rampStep_bounds {ramp target goal : Int} (forward : 1 ≤ ramp) (target_in : 0 ≤ target ∧ target ≤ 1000000)
    (goal_in : 0 ≤ goal ∧ goal ≤ 1000000) : 0 ≤ rampStep ramp target goal ∧ rampStep ramp target goal ≤ 1000000 := by
  unfold rampStep
  split_ifs <;> omega

theorem ratingKva_pos (r : BitVec 2) : 0 < ratingKva r := by unfold ratingKva; omega

theorem sumR_pos (s : State) : 0 < sumR s := by
  have peers : 0 ≤ ((peerParticipants s).map fun e => ratingKva e.rating).sum :=
    List.sum_nonneg fun x hx => by
      obtain ⟨e, -, rfl⟩ := List.mem_map.mp hx
      exact (ratingKva_pos e.rating).le
  have := ratingKva_pos s.rating
  rw [sumR_eq]
  omega

theorem roundAway_nonneg {a b : Int} (ha : 0 ≤ a) (hb : 0 < b) : 0 ≤ roundAway a b := by
  rw [roundAway, if_pos ha]
  exact Int.ediv_nonneg (by omega) (by omega)

theorem finalTarget_bounds (s : State) (load : Nat) : 0 ≤ finalTarget s load ∧ finalTarget s load ≤ 1000 := by
  have := roundAway_nonneg (a := (load : Int) * 10 * 1000) (by positivity) (sumR_pos s)
  unfold finalTarget
  omega

theorem nextFinal_bounds {s : State} (within : s.hoc.Within) : ∀ g, nextFinal s = some g → 0 ≤ g ∧ g ≤ 1000 := by
  intro g h
  unfold nextFinal at h
  split at h
  · split at h
    · obtain rfl := Option.some.inj h
      exact finalTarget_bounds ..
    · exact within.2 g h
  · exact within.2 g h

theorem nextTarget_bounds {s : State} (forward : 1 ≤ s.params.ramp) (within : s.hoc.Within) :
    ∀ t, nextTarget s = some t → 0 ≤ t ∧ t ≤ 1000000 := by
  intro t h
  have zero : (0 : Int) ≤ 0 ∧ (0 : Int) ≤ 1000000 := by decide
  unfold nextTarget at h
  split at h
  next target goal held final =>
    have held_in := within.1 target held
    have goal_in := nextFinal_bounds within goal final
    split_ifs at h <;> obtain rfl := Option.some.inj h
    · exact rampStep_bounds forward held_in (by omega)
    · exact held_in
    · exact rampStep_bounds forward held_in zero
  next target held final =>
    split_ifs at h <;> obtain rfl := Option.some.inj h
    · exact within.1 _ held
    · exact rampStep_bounds forward (within.1 _ held) zero
  next => cases h

theorem handoverTicked_work (s : State) : Work leave s (handoverTicked s) :=
  .hoc s _ fun forward within => ⟨nextTarget_bounds forward within, nextFinal_bounds within⟩

section
variable {s : State}

/-! ### The measurement path -/

theorem checked_work (r : Sample) (isNew : Bool) (s : State) : Work leave s (checked r isNew s) :=
  .after (raiseIf_work _ .dcFault _) (raiseIf_work _ .overcurrent s)

theorem judgeBand_work (s : State) : Work leave s (judgeBand s) := .aside s ..

theorem steered_work (old : BusState) (e : SampleEvents) (s : State) : Work leave s (steered old e s) := by
  have branch {c : Bool} {f : State → State} (u : State) (w : Work leave u (f u)) : Work leave u (if c then f u else u) := by
    split
    · exact w
    · exact .refl u
  unfold steered
  dsimp only
  exact .after (judgeBand_work _) (.after (branch _ (partJudged_work _)) (.after (reportClosed_work _)
    (.after (branch _ (.shipJudged _)) (.after (branch _ (joinJudged_work _)) (berthChanged_work old s)))))

/-- A sample after its integration (R9 to R17). -/
theorem sampleSteered_work (r : Sample) (k : Nat) (e : SampleEvents) (s : State) :
    Work leave s (announcing (fun t => steered s.btr.berthState e (tracked r k e t)) s) :=
  announcing_work (.after (steered_work _ e _) (.aside s ..))

@[simp] theorem raiseIf_aux (met : Bool) (c : Condition) (s : State) :
    (raiseIf met c s).sbAux = s.sbAux ∧ (raiseIf met c s).ccAux = s.ccAux := by
  unfold raiseIf
  split
  · rcases raise_cases c s with same | ⟨-, -, -, same⟩ <;> rw [same]
    · exact ⟨rfl, rfl⟩
    · simp [tripWith, announcing, enterTripped]
  · exact ⟨rfl, rfl⟩

theorem checked_aux (r : Sample) (isNew : Bool) (s : State) :
    (checked r isNew s).sbAux = s.sbAux ∧ (checked r isNew s).ccAux = s.ccAux := by
  simp [checked]

/-- A sample integrated, where the auxiliaries report closed (R145). -/
theorem integrate_work (meters : s.sbAux = true ∧ s.ccAux = true → .meters ∈ leave) (p : Int) :
    Work leave s (integrate p s) := by
  by_cases both : s.sbAux = true ∧ s.ccAux = true
  · exact .integrate p s (meters both)
  · have closed : energyGate s = false := by
      by_contra gate
      simp only [energyGate, Bool.not_eq_false, Bool.and_eq_true] at gate
      exact both ⟨gate.1.2, gate.2⟩
    have same : integrate p s = s := by simp [integrate, closed]
    rw [same]
    exact .refl s

theorem takeSample_work (meters : s.sbAux = true ∧ s.ccAux = true → .meters ∈ leave) (r : Sample) (isNew : Bool) (k : Nat) :
    Work leave s (takeSample r isNew k s) := by
  have checks : Work leave s (checked r isNew { s with msu := s.msu.take r isNew }) :=
    .after (checked_work r isNew _) (.aside s ..)
  obtain ⟨sb, cc⟩ := checked_aux r isNew { s with msu := s.msu.take r isNew }
  exact .after (sampleSteered_work ..) (.after (integrate_work (by rw [sb, cc]; exact meters) _) checks)

theorem settlePeriod_work (meters : s.sbAux = true ∧ s.ccAux = true → .meters ∈ leave) (record : Option (List Byte)) :
    Work leave s (settlePeriod record s) := by
  have lost (met : Bool) : Work leave s (raiseIf met .measurementLost { s with spt := s.spt.settle record }) :=
    .after (raiseIf_work ..) (.aside s ..)
  unfold settlePeriod
  dsimp only
  split
  · exact lost _
  · refine .after (takeSample_work ?_ ..) (lost _)
    rw [(raiseIf_aux ..).1, (raiseIf_aux ..).2]
    exact meters

theorem recordBytes_work (meters : s.sbAux = true ∧ s.ccAux = true → .meters ∈ leave) (bytes : List Byte) :
    Work leave s (recordBytes bytes s) := by
  unfold recordBytes
  split
  · exact .refl s
  · split_ifs
    · exact settlePeriod_work meters ..
    · exact .refl s
    · exact settlePeriod_work meters ..

theorem settleLate_work (meters : s.sbAux = true ∧ s.ccAux = true → .meters ∈ leave) : Work leave s (settleLate s) := by
  unfold settleLate
  split
  · exact settlePeriod_work meters ..
  · exact .refl s

theorem carrierWork_work (drives : .drives ∈ leave) (s : State) : Work leave s (carrierWork s) := by
  unfold carrierWork
  split
  next done =>
    refine .after (announcing_work (enterJoining_work ?_)) (.drive s drives)
    rw [periodWork_ssc, done.2.1]
    rfl
  next => exact .drive s drives

theorem carrierWork_aux (s : State) : (carrierWork s).sbAux = s.sbAux ∧ (carrierWork s).ccAux = s.ccAux := by
  unfold carrierWork
  split
  · simp [announcing, enterJoining]
  · simp

theorem carrierStart_work (meters : s.sbAux = true ∧ s.ccAux = true → .meters ∈ leave) (drives : .drives ∈ leave)
    (workFirst : Bool) :
    Work leave s (carrierStart workFirst s) := by
  have strobed (u : State) : Work leave u (strobe u) := .aside u ..
  unfold carrierStart
  split
  · refine .after (strobed _) (.after (settleLate_work ?_) (carrierWork_work drives s))
    rw [(carrierWork_aux s).1, (carrierWork_aux s).2]
    exact meters
  · exact .after (strobed _) (.after (carrierWork_work drives _) (settleLate_work meters))

end

end

end Sys2Proof.Machine
end

/-! PROOFS. What a step is made of, the record store: its law (R161, R162, R169, R170) block by block, then its work. -/
section
namespace Sys2Proof.Machine

/-! ### The law of the store, by its two halves -/

/-- The memory and its port: what `StoreInv` says of FPT and of the record memory. -/
structure Fits (x : Fpt) (m : Memory) : Prop where
  wf : m.wf
  paged : ∀ a d, m.op = some (.program a d) → a % 256 + d.length ≤ 256
  waits : x.exitWaits = true → x.port.isSome = true
  ends : ∀ r, x.readout = some r → r.ended = true → x.exitWaits = true

/-- The queue and the configuration write: what `StoreInv` says of RWR whatever its operation. -/
def Rwr.Filled (r : Rwr) : Prop :=
  r.queue.length ≤ 16 ∧ (∀ q ∈ r.queue, q.record.size ≤ 48) ∧ ∀ b, r.config = some b → b.length = 28

/-- The operation in hand has what it works on. -/
def Rwr.Placed (r : Rwr) : Prop := ∀ op, r.op = some op → op.placed r.queue

/-- What is in flight has what it works on, and is kept only until it is settled (R167). -/
def Rwr.Flying (p : ResetPhase) (r : Rwr) : Prop :=
  (∀ op, r.inFlight = some op → op.placed r.queue) ∧
    ∀ op, r.inFlight = some op → op ≠ .recovery → r.writer = .idle ∧ r.start = .none ∧ (p = .restartLow ∨ r.settling = true)

/-- Nothing that matters is in flight: the writer may begin any operation. -/
def Rwr.Loose (r : Rwr) : Prop := ∀ op, r.inFlight = some op → op = .recovery

theorem storeInv_iff (s : State) :
    StoreInv s ↔ Fits s.fpt s.mem ∧ s.rwr.Filled ∧ s.rwr.Placed ∧ s.rwr.Flying s.phase := by
  constructor
  · rintro ⟨⟨length, wf, paged, waits⟩, sizes, config, op, flight, kept, ends⟩
    exact ⟨⟨wf, paged, waits, ends⟩, ⟨length, sizes, config⟩, op, flight, kept⟩
  · rintro ⟨⟨wf, paged, waits, ends⟩, ⟨length, sizes, config⟩, op, flight, kept⟩
    exact ⟨⟨length, wf, paged, waits⟩, sizes, config, op, flight, kept, ends⟩

theorem Rwr.Loose.flying {r : Rwr} (p : ResetPhase) (loose : r.Loose) : r.Flying p :=
  ⟨fun op h => by rw [loose op h]; trivial, fun op h other => absurd (loose op h) other⟩

/-- What is in flight is loose where the writer has begun something else, or where no settling is to come (R167). -/
theorem Rwr.Flying.loose {p : ResetPhase} {r : Rwr} (flying : r.Flying p)
    (begun : r.writer ≠ .idle ∨ r.start ≠ .none ∨ p = .run ∧ r.settling = false) : r.Loose := by
  intro op h
  by_contra other
  obtain ⟨idle, none, waits⟩ := flying.2 op h other
  rcases begun with busy | started | ⟨running, settled⟩
  · exact busy idle
  · exact started none
  · rcases waits with low | settling
    · rw [running] at low; cases low
    · rw [settled] at settling; cases settling

/-- The store between two operations: the writer may begin one. -/
def StoreReady (s : State) : Prop := Fits s.fpt s.mem ∧ s.rwr.Filled ∧ s.rwr.Loose

theorem StoreReady.inv {s : State} (ready : StoreReady s) (placed : s.rwr.Placed) : StoreInv s :=
  (storeInv_iff s).mpr ⟨ready.1, ready.2.1, placed, ready.2.2.flying _⟩

theorem StoreInv.ready {s : State} (inv : StoreInv s)
    (begun : s.rwr.writer ≠ .idle ∨ s.rwr.start ≠ .none ∨ s.phase = .run ∧ s.rwr.settling = false) :
    StoreReady s ∧ s.rwr.Placed := by
  obtain ⟨fits, filled, placed, flying⟩ := (storeInv_iff s).mp inv
  exact ⟨⟨fits, filled, flying.loose begun⟩, placed⟩

/-! ### The port and the memory -/

theorem finish_op (m : Memory) : m.finish.op = none := by
  unfold Memory.finish
  split
  next none => exact none
  next => rfl
  next => rfl

theorem Fits.finished {x : Fpt} {m : Memory} (fits : Fits x m) : Fits x m.finish :=
  ⟨Memory.finish_wf fits.wf, fun a d h => (by rw [finish_op] at h; cases h), fits.waits, fits.ends⟩

/-- The memory in another read mode, its content and operation as they were. -/
theorem Fits.cont {x : Fpt} {m : Memory} (c : Bool) (fits : Fits x m) : Fits x { m with cont := c } :=
  ⟨fits.wf, fits.paged, fits.waits, fits.ends⟩

theorem Fits.exitMade {s : State} (wf : s.mem.wf)
    (paged : ∀ a d, s.mem.op = some (.program a d) → a % 256 + d.length ≤ 256) :
    Fits (exitMade s).fpt (exitMade s).mem := by
  refine ⟨wf, paged, nofun, fun r h ended => ?_⟩
  have open_ := (Option.filter_eq_some_iff.mp h).2
  rw [ended] at open_
  cases open_

theorem Fits.requestExit {s : State} (wf : s.mem.wf)
    (paged : ∀ a d, s.mem.op = some (.program a d) → a % 256 + d.length ≤ 256) :
    Fits (requestExit s).fpt (requestExit s).mem := by
  cases port : s.fpt.port with
  | none => rw [requestExit_free port]; exact .exitMade wf paged
  | some user =>
    rw [requestExit_held (by rw [port]; nofun)]
    exact ⟨wf, paged, fun _ => by show s.fpt.port.isSome = true; rw [port]; rfl, fun _ _ _ => rfl⟩

theorem Fits.releasePort {s : State} (fits : Fits s.fpt s.mem) : Fits (releasePort s).fpt (releasePort s).mem := by
  cases waits : s.fpt.exitWaits with
  | false =>
    rw [releasePort_quiet waits]
    refine ⟨fits.wf, fits.paged, fun h => ?_, fits.ends⟩
    rw [show s.fpt.exitWaits = true from h] at waits
    cases waits
  | true => rw [releasePort_exit waits]; exact .exitMade fits.wf fits.paged

theorem Fits.readoutCut {s : State} (fits : Fits s.fpt s.mem) : Fits (readoutCut s).fpt (readoutCut s).mem := by
  cases active : s.fpt.readout with
  | none => rw [readoutCut_inactive active]; exact fits
  | some r =>
    unfold Machine.readoutCut
    simp only [active, Option.isSome_some, if_true]
    exact .requestExit fits.wf fits.paged

/-! ### The writer begins an operation -/

theorem sectorHeadBytes_length (s : State) (seq next : Nat) : (sectorHeadBytes s seq next).length = 16 := by
  simp [sectorHeadBytes, withCrc16]

theorem logRecord_bytes_length (r : LogRecord) (stamp : Nat) : (r.bytes stamp).length = r.size := by
  simp [LogRecord.bytes, LogRecord.size, withCrc16]
  omega

theorem configRecordBytes_length (block : List Byte) : (configRecordBytes block).length = block.length + 4 := by
  simp [configRecordBytes, withCrc16]

/-- Every program of the writer lies within one page (R162). -/
theorem memOp_paged {s : State} {op : WriterOp} (config : ∀ b, s.rwr.config = some b → b.length = 28)
    (placed : op.placed s.rwr.queue) {a : Nat} {d : List Byte} (h : op.memOp s = .program a d) :
    a % 256 + d.length ≤ 256 := by
  cases op <;> simp only [WriterOp.memOp, MemOp.program.injEq, reduceCtorEq] at h
  case head => obtain ⟨rfl, rfl⟩ := h; rw [sectorHeadBytes_length]; omega
  case formatHead => obtain ⟨rfl, rfl⟩ := h; rw [sectorHeadBytes_length]; omega
  case recovery => obtain ⟨rfl, rfl⟩ := h; decide
  case configProgram =>
    obtain ⟨rfl, rfl⟩ := h
    rw [configRecordBytes_length]
    cases block : s.rwr.config with
    | none => simp
    | some b => simp [config b block]
  case record sector offset =>
    obtain ⟨rfl, rfl⟩ := h
    obtain ⟨r, head, fits⟩ := placed
    obtain ⟨rest, queue⟩ := List.head?_eq_some_iff.mp head
    simp only [headRecordBytes, queue, logRecord_bytes_length]
    omega

theorem issueOp_inv {op : WriterOp} {s : State} (ready : StoreReady s) (placed : op.placed s.rwr.queue) :
    StoreInv (issueOp op s) := by
  obtain ⟨fits, filled, loose⟩ := ready
  refine StoreReady.inv ⟨⟨fits.wf, fun a d h => ?_, fun _ => rfl, fits.ends⟩, filled, loose⟩ ?_
  · exact memOp_paged filled.2.2 placed (Option.some.inj h)
  · intro other h
    rw [← Option.some.inj (show some op = some other from h)]
    exact placed

theorem startOp_inv {op : WriterOp} {s : State} (ready : StoreReady s) (placed : op.placed s.rwr.queue) :
    StoreInv (startOp op s) := by
  unfold startOp
  split
  · exact issueOp_inv ready placed
  · refine StoreReady.inv ready fun other h => ?_
    rw [← Option.some.inj (show some op = some other from h)]
    exact placed

theorem takeNext_inv {s : State} (ready : StoreReady s) : StoreInv (takeNext s) := by
  unfold takeNext
  split
  next => exact startOp_inv ready trivial
  next r rest config queue =>
    have size : r.record.size ≤ 48 := ready.2.1.2.1 r (by rw [queue]; exact List.mem_cons_self)
    split
    next offset place =>
      refine startOp_inv ready ⟨r, by rw [queue]; rfl, ?_⟩
      exact (placement_in_page (by omega) place).1
    next => exact startOp_inv ready (by rw [WriterOp.placed, queue]; nofun)
  next => exact StoreReady.inv ready nofun

theorem recordWritten_ready {s : State} (sector offset : Nat) (ready : StoreReady s) :
    StoreReady (recordWritten sector offset s) := by
  obtain ⟨fits, ⟨length, sizes, config⟩, loose⟩ := ready
  refine ⟨fits, ⟨?_, fun q member => sizes q (List.mem_of_mem_tail member), config⟩, loose⟩
  exact (by simp : s.rwr.queue.tail.length ≤ s.rwr.queue.length).trans length

theorem startRecovery_inv {s : State} (ready : StoreReady s) : StoreInv (startRecovery s) :=
  StoreReady.inv ⟨.requestExit ready.1.wf ready.1.paged, ready.2⟩ nofun

theorem readBack_inv (sector offset : Nat) {s : State} (ready : StoreReady s) : StoreInv (readBack sector offset s) := by
  unfold readBack
  split
  · exact takeNext_inv (recordWritten_ready sector offset ready)
  · exact takeNext_inv ready

theorem resumeOp_inv {op : Option WriterOp} {s : State} (ready : StoreReady s)
    (placed : ∀ o, op = some o → o.placed s.rwr.queue) : StoreInv (resumeOp op s) := by
  cases op with
  | none => exact takeNext_inv ready
  | some op =>
    have has := placed op rfl
    cases op with
    | record sector offset => exact readBack_inv sector offset ready
    | logErase sector seq => exact startOp_inv ready has
    | head sector seq => exact startOp_inv ready has
    | configErase => exact startOp_inv ready trivial
    | configProgram => exact startOp_inv ready trivial
    | formatErase => exact startRecovery_inv ready
    | formatHead => exact startRecovery_inv ready
    | recovery => exact startRecovery_inv ready

theorem memReady_ready {s : State} (ready : StoreReady s) : StoreReady (memReady s) := ⟨ready.1.finished, ready.2⟩

theorem freePort_ready {s : State} (ready : StoreReady s) : StoreReady (freePort s) := by
  unfold freePort
  split
  · exact ⟨ready.1.releasePort, ready.2⟩
  · exact ready

/-! ### Nothing but the store moves -/

/-- The second state is the first but for RWR, FPT, the record memory and the count of free values. -/
def OnlyStore (s t : State) : Prop :=
  ∃ (r : Rwr) (x : Fpt) (m : Memory) (n : Nat), t = { s with rwr := r, fpt := x, mem := m, freeCount := n }

theorem OnlyStore.trans {s t u : State} : OnlyStore s t → OnlyStore t u → OnlyStore s u := by
  rintro ⟨r, x, m, n, rfl⟩ ⟨r', x', m', n', rfl⟩
  exact ⟨r', x', m', n', rfl⟩

theorem OnlyStore.work {leave : List Leave} {s t : State} (only : OnlyStore s t) (keeps : StoreInv s → StoreInv t) :
    Work leave s t := by
  obtain ⟨r, x, m, n, rfl⟩ := only
  exact .store s r x m n keeps

theorem issueOp_only (op : WriterOp) (s : State) : OnlyStore s (issueOp op s) := ⟨_, _, _, _, rfl⟩

theorem startOp_only (op : WriterOp) (s : State) : OnlyStore s (startOp op s) := by
  unfold startOp
  split
  · exact issueOp_only op s
  · exact ⟨_, _, _, _, rfl⟩

theorem takeNext_only (s : State) : OnlyStore s (takeNext s) := by
  unfold takeNext
  split
  next => exact startOp_only ..
  next => split <;> exact startOp_only ..
  next => exact ⟨_, _, _, _, rfl⟩

theorem startRecovery_only (s : State) : OnlyStore s (startRecovery s) := ⟨_, _, _, _, rfl⟩

theorem recordWritten_only (sector offset : Nat) (s : State) : OnlyStore s (recordWritten sector offset s) := ⟨_, _, _, _, rfl⟩

theorem memReady_only (s : State) : OnlyStore s (memReady s) := ⟨_, _, _, _, rfl⟩

theorem resumeOp_only (op : Option WriterOp) (s : State) : OnlyStore s (resumeOp op s) := by
  unfold resumeOp
  split
  next sector offset =>
    unfold readBack
    split
    · exact (recordWritten_only sector offset s).trans (takeNext_only _)
    · exact OnlyStore.trans ⟨_, _, _, _, rfl⟩ (takeNext_only _)
  all_goals first | exact startOp_only .. | exact startRecovery_only s | exact takeNext_only s

theorem freePort_only (s : State) : OnlyStore s (freePort s) := by
  unfold freePort
  split
  · exact ⟨_, _, _, _, rfl⟩
  · exact ⟨_, _, _, _, rfl⟩

end Sys2Proof.Machine
end

/-! PROOFS. What a step is made of, the commands of the record store. -/
section
namespace Sys2Proof.Machine

section
variable {leave : List Leave} {s : State}

/-! ### The end of the start work -/

theorem tripHeld_of_waitingCause {state : StationState} (none : waitingCause state s = none) : tripHeld s = false := by
  unfold waitingCause at none
  split at none
  next found =>
    rw [List.find?_eq_none] at found
    simp only [tripHeld, List.any_eq_false]
    exact fun c held => found c (List.mem_append_right _ held)
  next => cases none

theorem endStarting_work (run : s.phase = .run) : Work leave s (endStarting s) := by
  unfold endStarting
  split
  next starting =>
    split
    next quiet =>
      exact .after (.cause (enterStandby s) { (enterStandby s).pru with waiting := [] } rfl)
        (.standby s (.inl starting) (.inl (tripHeld_of_waitingCause quiet)))
    next r _ =>
      exact .after (.cause (tripWith r s) { (tripWith r s).pru with waiting := [] } rfl)
        (tripWith_work r s.pru run (by rw [starting]; decide) fun _ h => h)
  next => exact .refl s

theorem stampQueue_length (n : Nat) (q : List QueuedRecord) : (stampQueue n q).length = q.length := by
  induction q generalizing n with
  | nil => rfl
  | cons r rest ih =>
    unfold stampQueue
    split <;> simp [ih]

theorem stampQueue_record {n : Nat} {q : List QueuedRecord} {x : QueuedRecord} (member : x ∈ stampQueue n q) :
    ∃ y ∈ q, x.record = y.record := by
  induction q generalizing n with
  | nil => cases member
  | cons r rest ih =>
    unfold stampQueue at member
    split at member <;> rcases List.mem_cons.mp member with rfl | later
    · exact ⟨_, List.mem_cons_self, rfl⟩
    · obtain ⟨y, inside, same⟩ := ih later
      exact ⟨y, List.mem_cons_of_mem _ inside, same⟩
    · exact ⟨_, List.mem_cons_self, rfl⟩
    · obtain ⟨y, inside, same⟩ := ih later
      exact ⟨y, List.mem_cons_of_mem _ inside, same⟩

theorem finishRecovery_work (sector offset secSeq recSeq : Nat) (run : s.phase = .run)
    (ready : StoreInv s → StoreReady s) : Work leave s (finishRecovery sector offset secSeq recSeq s) := by
  refine .after (endStarting_work run) (OnlyStore.work ⟨_, _, _, _, rfl⟩ fun inv => ?_)
  obtain ⟨fits, ⟨length, sizes, config⟩, loose⟩ := ready inv
  refine StoreReady.inv ⟨fits, ⟨?_, fun q member => ?_, config⟩, loose⟩ nofun
  · exact (stampQueue_length ..).trans_le length
  · obtain ⟨y, inside, same⟩ := stampQueue_record member
    rw [same]
    exact sizes y inside

/-! ### The writer's faults -/

theorem writerFaults_work {op : Option WriterOp}
    (ready : StoreInv s → StoreReady s ∧ ∀ o, op = some o → o.placed s.rwr.queue) : Work leave s (writerFaults op s) :=
  .after (raise_work _ _) (OnlyStore.work ⟨_, _, _, _, rfl⟩ fun inv => StoreReady.inv (ready inv).1 (ready inv).2)

theorem startWorkFails_work (run : s.phase = .run) : Work leave s (startWorkFails s) := by
  refine .after (endStarting_work run) (OnlyStore.work ⟨_, _, _, _, rfl⟩ fun inv => ?_)
  obtain ⟨fits, filled, placed, flight, kept⟩ := (storeInv_iff s).mp inv
  refine (storeInv_iff _).mpr ⟨fits, filled, placed, flight, fun op h other => ?_⟩
  obtain ⟨idle, -, waits⟩ := kept op h other
  exact ⟨idle, rfl, waits⟩

/-! ### Programs and erases -/

@[simp] theorem freePort_rwr (s : State) : (freePort s).rwr = s.rwr := by unfold freePort; split <;> rfl
@[simp] theorem freePort_phase (s : State) : (freePort s).phase = s.phase := by unfold freePort; split <;> rfl

/-- The memory done and the port given back (R163). -/
theorem ended_ready (busy : s.rwr.writer ≠ .idle) (inv : StoreInv s) :
    StoreReady (freePort { s with mem := s.mem.finish }) :=
  freePort_ready (memReady_ready (inv.ready (.inl busy)).1)

theorem ended_only (s : State) : OnlyStore s (freePort { s with mem := s.mem.finish }) :=
  (memReady_only s).trans (freePort_only _)

theorem ended_placed (busy : s.rwr.writer ≠ .idle) (inv : StoreInv s) {op : WriterOp} (h : s.rwr.op = some op) :
    op.placed (freePort { s with mem := s.mem.finish }).rwr.queue := by
  rw [freePort_rwr]
  exact (inv.ready (.inl busy)).2 op h

theorem head_then_record {q : List QueuedRecord} (sizes : ∀ r ∈ q, r.record.size ≤ 48) (waits : q ≠ []) (sector : Nat) :
    (WriterOp.record sector 16).placed q := by
  cases q with
  | nil => exact absurd rfl waits
  | cons r rest =>
    have := sizes r List.mem_cons_self
    exact ⟨r, rfl, by omega⟩

theorem programEnded_work (run : s.phase = .run) (busy : s.rwr.writer ≠ .idle) : Work leave s (programEnded s) := by
  have ready := ended_ready busy
  have only := ended_only s
  unfold programEnded
  dsimp only
  split
  next sector seq op =>
    refine OnlyStore.work (only.trans (OnlyStore.trans ⟨_, _, _, _, rfl⟩ (startOp_only ..))) fun inv => ?_
    refine startOp_inv (ready inv) ?_
    exact head_then_record (ready inv).2.1.2.1 (ended_placed busy inv op) sector
  next sector offset op =>
    exact OnlyStore.work (only.trans ((recordWritten_only ..).trans (takeNext_only _))) fun inv =>
      takeNext_inv (recordWritten_ready _ _ (ready inv))
  next op =>
    refine OnlyStore.work (only.trans (OnlyStore.trans ⟨_, _, _, _, rfl⟩ (takeNext_only _))) fun inv => takeNext_inv ?_
    obtain ⟨fits, ⟨length, sizes, -⟩, loose⟩ := ready inv
    exact ⟨fits, ⟨length, sizes, nofun⟩, loose⟩
  next op =>
    have ended : Work leave s (freePort { s with mem := s.mem.finish }) :=
      OnlyStore.work only fun inv => StoreReady.inv (ready inv) fun o h =>
        ended_placed busy inv (by rw [freePort_rwr] at h; exact h)
    refine .after (finishRecovery_work _ _ _ _ (by rw [freePort_phase]; exact run) fun inv => ?_) ended
    exact (inv.ready (.inl (by rw [freePort_rwr]; exact busy))).1
  next =>
    exact OnlyStore.work only fun inv => StoreReady.inv (ready inv) fun o h =>
        ended_placed busy inv (by rw [freePort_rwr] at h; exact h)

theorem eraseEnded_work (busy : s.rwr.writer ≠ .idle) : Work leave s (eraseEnded s) := by
  have ready := ended_ready busy
  have only := ended_only s
  unfold eraseEnded
  dsimp only
  split
  next sector seq op =>
    exact OnlyStore.work (only.trans (OnlyStore.trans ⟨_, _, _, _, rfl⟩ (startOp_only ..))) fun inv =>
      startOp_inv (ready inv) (ended_placed (op := .logErase sector seq) busy inv op)
  next => exact OnlyStore.work (only.trans (startOp_only ..)) fun inv => startOp_inv (ready inv) trivial
  next => exact OnlyStore.work (only.trans (startOp_only ..)) fun inv => startOp_inv (ready inv) trivial
  next =>
    exact OnlyStore.work only fun inv => StoreReady.inv (ready inv) fun o h =>
        ended_placed busy inv (by rw [freePort_rwr] at h; exact h)

theorem busyExpired_work (run : s.phase = .run) (busy : s.rwr.writer ≠ .idle) : Work leave s (busyExpired s) := by
  have ready (inv : StoreInv s) := inv.ready (.inl busy)
  have freed : Work leave s (freePort s) := OnlyStore.work (freePort_only s) fun inv =>
    StoreReady.inv (freePort_ready (ready inv).1) (by rw [Rwr.Placed, freePort_rwr]; exact (ready inv).2)
  have faulted : Work leave s (writerFaults s.rwr.op (freePort s)) := by
    refine .after (writerFaults_work fun inv => ?_) freed
    have := inv.ready (.inl (by rw [freePort_rwr]; exact busy))
    exact ⟨this.1, fun o h => this.2 o (by rw [freePort_rwr]; exact h)⟩
  unfold busyExpired
  dsimp only
  split
  · exact .after (startWorkFails_work (faulted.phase.trans run)) faulted
  · exact faulted

theorem writerTakes_work (run : s.phase = .run) (free : writerFree s = true) : Work leave s (takeNext s) :=
  OnlyStore.work (takeNext_only s) fun inv => by
    simp only [writerFree, Bool.and_eq_true, Bool.not_eq_true'] at free
    exact takeNext_inv (inv.ready (.inr (.inr ⟨run, free.2⟩))).1

theorem grantPort_work (s : State) : Work leave s (grantPort s) := by
  unfold grantPort
  split
  · exact .refl s
  next free =>
    have port : s.fpt.port = none := by simpa using free
    split
    next waits =>
      split
      next op h =>
        refine OnlyStore.work (issueOp_only op s) fun inv => ?_
        have busy : s.rwr.writer ≠ .idle := fun idle => by simp [writerWaits, idle] at waits
        obtain ⟨ready, placed⟩ := inv.ready (.inl busy)
        exact issueOp_inv ready (placed op h)
      next => exact .refl s
    next =>
      split
      · refine OnlyStore.work ⟨_, _, _, _, rfl⟩ fun inv => ?_
        obtain ⟨fits, rest⟩ := (storeInv_iff s).mp inv
        exact (storeInv_iff _).mpr ⟨⟨fits.wf, fits.paged, fun _ => rfl, fits.ends⟩, rest⟩
      · exact .refl s

/-- A store whose port and memory alone have moved. -/
theorem StoreInv.refit {x : Fpt} {m : Memory} (n : Nat) (inv : StoreInv s) (fits : Fits s.fpt s.mem → Fits x m) :
    StoreInv { s with fpt := x, mem := m, freeCount := n } := by
  obtain ⟨old, rest⟩ := (storeInv_iff s).mp inv
  exact (storeInv_iff _).mpr ⟨fits old, rest⟩

theorem statusRead_work (busy : Bool) (s : State) : Work leave s (statusRead busy s) := by
  refine OnlyStore.work ⟨_, _, _, _, rfl⟩ fun inv => ?_
  obtain ⟨fits, rest⟩ := (storeInv_iff s).mp inv
  refine (storeInv_iff _).mpr ⟨?_, rest⟩
  show Fits s.fpt (if (busy && s.mem.op.isSome) = true then s.mem else s.mem.finish)
  split
  · exact fits
  · exact fits.finished

/-! ### Start work and warm reset -/

theorem loadValue_bounds (bs : List Byte) (offset len : Nat) (unit : Int) {lo hi : Int} (range : lo ≤ hi) :
    lo ≤ loadValue bs offset len unit lo hi ∧ loadValue bs offset len unit lo hi ≤ hi := by
  unfold loadValue
  dsimp only
  split_ifs <;> omega

/-- The memory read, then the parameters taken (R158). -/
theorem paramsTaken_work (loads : .loads ∈ leave) (m : Memory) (n : Nat) (p : Params) (starting : s.ssc.station = .starting)
    (fits : Fits s.fpt s.mem → Fits s.fpt m) (rate : 1 ≤ p.rate) (ramp : 1 ≤ p.ramp) :
    Work leave s { s with mem := m, freeCount := n, params := p } :=
  .after (.params { s with mem := m, freeCount := n } p loads starting rate ramp)
    (OnlyStore.work (s := s) ⟨s.rwr, s.fpt, m, n, rfl⟩ fun inv => inv.refit n fits)

theorem loaded_forward (good : Bool) (block : List Byte) :
    1 ≤ (if good then loadParams block else Params.default).rate ∧
      1 ≤ (if good then loadParams block else Params.default).ramp := by
  split
  · exact ⟨(loadValue_bounds block 2 2 1 (by decide)).1, (loadValue_bounds block 24 1 1 (by decide)).1⟩
  · decide

theorem raiseIf_rwr {met : Bool} {c : Condition} (quiet : canTrip s = false) : (raiseIf met c s).rwr = s.rwr := by
  unfold raiseIf
  split
  · rw [raise_cannot_trip quiet, hold_rwr]
  · rfl

theorem loadConfig_work (loads : .loads ∈ leave) (busy : Bool) (starting : s.ssc.station = .starting)
    (start : s.rwr.start = .configLoad) : Work leave s (loadConfig busy s) := by
  unfold loadConfig
  dsimp only
  refine .after (OnlyStore.work (startRecovery_only _) fun inv => startRecovery_inv ?_)
    (.after (raiseIf_work ..) (paramsTaken_work loads _ _ _ starting (fun fits => ?_) ?_ ?_))
  · refine (inv.ready (.inr (.inl ?_))).1
    rw [raiseIf_rwr (by simp [canTrip, starting])]
    show s.rwr.start ≠ _
    rw [start]
    decide
  · split
    · exact fits
    · exact fits.finished
  · exact (loaded_forward ..).1
  · exact (loaded_forward ..).2

theorem recoverLog_work (run : s.phase = .run) (start : s.rwr.start = .recovery) : Work leave s (recoverLog s) := by
  have ready (inv : StoreInv s) := inv.ready (.inr (.inl (by rw [start]; decide)))
  unfold recoverLog
  dsimp only
  split
  next =>
    refine OnlyStore.work ((memReady_only s).trans (OnlyStore.trans ⟨_, _, _, _, rfl⟩ (startOp_only ..))) fun inv => ?_
    exact startOp_inv (memReady_ready (ready inv).1) trivial
  next =>
    refine .after (finishRecovery_work _ _ _ _ run fun inv => ?_) (OnlyStore.work (memReady_only s) fun inv => ?_)
    · exact (inv.ready (.inr (.inl (by show s.rwr.start ≠ _; rw [start]; decide)))).1
    · exact StoreReady.inv (memReady_ready (ready inv).1) (ready inv).2

theorem recoveryTimedOut_work (run : s.phase = .run) (start : s.rwr.start = .recovery) :
    Work leave s (recoveryTimedOut s) := by
  have faulted : Work leave s (writerFaults (some .recovery) s) := writerFaults_work fun inv =>
    ⟨(inv.ready (.inr (.inl (by rw [start]; decide)))).1, by rintro o ⟨rfl⟩; trivial⟩
  exact .after (startWorkFails_work (faulted.phase.trans run)) faulted

/-- The store with the status wait over (R167): nothing is in flight. -/
theorem settled_ready (inv : StoreInv s) : StoreReady { s with rwr := s.rwr.settled } := by
  obtain ⟨fits, filled, -, -⟩ := (storeInv_iff s).mp inv
  exact ⟨fits, filled, nofun⟩

theorem settleWriter_work (s : State) : Work leave s (settleWriter s) := by
  have settledOnly : OnlyStore s (memReady { s with rwr := s.rwr.settled }) := ⟨_, _, _, _, rfl⟩
  have placed (inv : StoreInv s) : s.rwr.Placed := ((storeInv_iff s).mp inv).2.2.1
  rcases settleWriter_cases s with ⟨-, same⟩ | ⟨-, -, same⟩ | ⟨-, -, op, flight, same⟩ <;> rw [same]
  · exact OnlyStore.work ⟨_, _, _, _, rfl⟩ fun inv => StoreReady.inv (memReady_ready (settled_ready inv)) (placed inv)
  · exact OnlyStore.work settledOnly fun inv => StoreReady.inv (memReady_ready (settled_ready inv)) (placed inv)
  · refine OnlyStore.work (settledOnly.trans (resumeOp_only ..)) fun inv =>
      resumeOp_inv (memReady_ready (settled_ready inv)) fun o h => ?_
    rw [← Option.some.inj h]
    exact ((storeInv_iff s).mp inv).2.2.2.1 op flight

theorem settleTimedOut_work (run : s.phase = .run) : Work leave s (settleTimedOut s) := by
  have faulted : Work leave s (writerFaults (if s.rwr.writer = .faulted then s.rwr.op else s.rwr.inFlight)
      { s with rwr := s.rwr.settled }) := by
    refine .after (raise_work _ _) (OnlyStore.work ⟨_, _, _, _, rfl⟩ fun inv => ?_)
    obtain ⟨-, -, placed, flight, -⟩ := (storeInv_iff s).mp inv
    have ready := settled_ready inv
    refine StoreReady.inv ready fun o h => ?_
    change (if s.rwr.writer = .faulted then s.rwr.op else s.rwr.inFlight) = some o at h
    split at h
    · exact placed o h
    · exact flight o h
  unfold settleTimedOut
  dsimp only
  split
  · exact .after (startWorkFails_work (faulted.phase.trans run)) faulted
  · exact faulted

/-- A CLEAR lets a FAULTED writer go on (R164). -/
theorem resumeWriter_work (s : State) : Work leave s (resumeWriter s) := by
  unfold resumeWriter
  split
  next faulted =>
    have ended : OnlyStore s (writerIdle { s with rwr := { s.rwr with faultBusy := false, statusTick := none } }) :=
      ⟨_, _, _, _, rfl⟩
    refine OnlyStore.work (ended.trans (resumeOp_only ..)) fun inv => ?_
    obtain ⟨ready, placed⟩ := inv.ready (.inl (by rw [faulted]; decide))
    exact resumeOp_inv ready placed
  next => exact .refl s

/-! ### The readout and the end of CLOSING -/

theorem readChunk_work {r : Readout} (active : s.fpt.readout = some r) : Work leave s (readChunk r s) := by
  let f := logDataFrame r.sector r.next (memReadBytes s (r.sector * 4096 + r.next) (min 24 r.remaining))
  refine .after (OnlyStore.work (s := submit f s) ⟨_, _, _, _, rfl⟩ fun inv => ?_) (.submit f s)
  refine inv.refit _ fun fits => ?_
  refine Fits.releasePort (s := { submit _ s with freeCount := _, mem := _, fpt := _ })
    ⟨fits.wf, fits.paged, fits.waits, fun q h ended => fits.ends r active ?_⟩
  change (if _ then some { r with next := _, remaining := _ } else some r) = some q at h
  split at h <;> rw [← Option.some.inj h] at ended <;> exact ended

theorem endReadout_work (r : Readout) (s : State) : Work leave s (endReadout r s) := by
  unfold endReadout
  dsimp only
  split
  · exact .after (OnlyStore.work (s := submit (logDataFrame r.sector r.next []) s) ⟨_, _, _, _, rfl⟩ fun inv =>
      inv.refit _ fun fits => .requestExit fits.wf fits.paged) (.submit (logDataFrame r.sector r.next []) s)
  · exact .submit _ s

theorem closingJudged_work (s : State) : Work leave s (closingJudged s) := by
  unfold closingJudged
  split
  next closing => exact .standby s (.inr (.inl closing.1)) (.inr closing.1)
  next => exact .refl s

end

end Sys2Proof.Machine
end

/-! PROOFS. What a step is made of, the meter, the view, the requests and the frames of the link. -/
section
namespace Sys2Proof.Machine

section
variable {leave : List Leave} {s t : State}

/-! ### The meter -/

/-- The session's energy and its balance stand (R147). -/
def Meter.SameEnergy (m n : Meter) : Prop :=
  (m.Balanced → n.Balanced) ∧ n.sessionFwd = m.sessionFwd ∧ n.sessionRev = m.sessionRev

theorem meterSet_work {m n : Meter} (held : s.emt = some m) (same : m.SameEnergy n) : Work leave s { s with emt := some n } :=
  .meter s (some n) (by rw [held]; rfl) fun x h => by
    obtain rfl := Option.some.inj h
    exact ⟨m, held, same⟩

theorem meterMap_work {f : Meter → Meter} (same : ∀ m, Meter.SameEnergy m (f m)) :
    Work leave s { s with emt := s.emt.map f } :=
  .meter s _ (by simp) fun x h => by
    obtain ⟨m, held, rfl⟩ := Option.map_eq_some_iff.mp h
    exact ⟨m, held, same m⟩

/-- A change of the meter beside its energies. -/
theorem Meter.sameEnergy_rfl {m n : Meter} (f : n.sessionFwd = m.sessionFwd) (r : n.sessionRev = m.sessionRev)
    (cf : n.closedFwd = m.closedFwd) (cr : n.closedRev = m.closedRev) (jf : n.intervalFwd = m.intervalFwd)
    (jr : n.intervalRev = m.intervalRev) : m.SameEnergy n := by
  refine ⟨?_, f, r⟩
  unfold Meter.Balanced
  rw [f, r, cf, cr, jf, jr]
  exact id

/-- The carry moves whole Wh out of the open interval (R147). -/
theorem Meter.carry_sameEnergy (m : Meter) (flags : IntervalFlags) : m.SameEnergy { m with flags := flags }.carry := by
  refine ⟨?_, rfl, rfl⟩
  rintro ⟨fwd, rev⟩
  simp only [Meter.Balanced, Meter.carry, wattSamplesPerWh]
  omega

theorem closeInterval_work (id : SessionId) (flags : IntervalFlags) {m : Meter} (held : s.emt = some m) :
    Work leave s (closeInterval id flags m s) := by
  unfold closeInterval
  dsimp only
  refine .after (meterMap_work fun x => Meter.sameEnergy_rfl rfl rfl rfl rfl rfl rfl) (.after (.submit _ _)
    (.after (.record _ _ _ ?_) (meterSet_work held (m.carry_sameEnergy flags))))
  rw [intervalRecord_size]
  decide

theorem closeAndOpen_work (flags : IntervalFlags) (number : Nat) (tariff : Byte) (s : State) :
    Work leave s (closeAndOpen flags number tariff s) := by
  unfold closeAndOpen
  split
  next c m _ held =>
    exact .after (meterMap_work fun x => Meter.sameEnergy_rfl rfl rfl rfl rfl rfl rfl) (closeInterval_work c.id flags held)
  next => exact .refl s

theorem closeSession_work (abandoned : Bool) (s : State) : Work leave s (closeSession abandoned s) := by
  unfold closeSession
  split
  next c m _ held =>
    have closed : Work leave s (closeInterval c.id { m.flags with final := true } m s) := closeInterval_work _ _ held
    dsimp only
    split
    next x left =>
      refine .after (.record _ _ _ ?_) (.after (meterSet_work left (Meter.sameEnergy_rfl rfl rfl rfl rfl rfl rfl)) closed)
      rw [sessionCloseRecord_size]
    next => exact closed
  next => exact .refl s

theorem takeMark_work (number : Nat) (tariff : Byte) (s : State) : Work leave s (takeMark number tariff s) := by
  unfold takeMark
  split
  · exact .refl s
  · split_ifs
    · exact closeAndOpen_work ..
    · exact .after (event_work ..) (raise_work ..)
    · exact closeAndOpen_work ..

theorem selfClose_work (s : State) : Work leave s (selfClose s) := by
  unfold selfClose
  split
  · split
    · exact closeAndOpen_work ..
    · exact .refl s
  · exact .refl s

/-! ### The view (R63 to R69) -/

theorem peerAt_some {a : Addr} {ps : List Peer} {e : Peer} (h : peerAt a ps = some e) : e ∈ ps ∧ e.addr = a := by
  refine ⟨List.mem_of_find?_eq_some h, ?_⟩
  have := List.find?_some h
  simpa using this

theorem putPeer_mem {e x : Peer} {ps : List Peer} (h : x ∈ putPeer e ps) : x = e ∨ x ∈ ps := by
  induction ps with
  | nil => exact .inl (List.mem_singleton.mp h)
  | cons y ys ih =>
    unfold putPeer at h
    split_ifs at h
    · rcases List.mem_cons.mp h with rfl | later
      · exact .inl rfl
      · exact .inr (List.mem_cons_of_mem _ later)
    · rcases List.mem_cons.mp h with rfl | later
      · exact .inr List.mem_cons_self
      · exact (ih later).imp id (List.mem_cons_of_mem _)
    · rcases List.mem_cons.mp h with rfl | later
      · exact .inl rfl
      · exact .inr later

theorem putPeer_pairwise {e : Peer} {ps : List Peer} (rising : ps.Pairwise fun x y => x.addr < y.addr) :
    (putPeer e ps).Pairwise fun x y => x.addr < y.addr := by
  induction ps with
  | nil => exact List.pairwise_singleton ..
  | cons y ys ih =>
    obtain ⟨first, rest⟩ := List.pairwise_cons.mp rising
    unfold putPeer
    split_ifs with same below
    · exact List.pairwise_cons.mpr ⟨by rw [← same]; exact first, rest⟩
    · refine List.pairwise_cons.mpr ⟨fun x h => ?_, ih rest⟩
      rcases putPeer_mem h with rfl | old
      · exact below
      · exact first x old
    · have above : e.addr < y.addr := by bv_omega
      refine List.pairwise_cons.mpr ⟨fun x h => ?_, rising⟩
      rcases List.mem_cons.mp h with rfl | old
      · exact above
      · exact BitVec.lt_trans above (first x old)

theorem putPeer_kept {e : Peer}
    (known : (∃ x ∈ s.pvw.peers, x.addr = e.addr) ∨ isStation e.addr = true ∧ e.addr ≠ s.addr ∧ s.lkc.enabled = true) :
    ViewKept s (putPeer e s.pvw.peers) := by
  refine ⟨putPeer_pairwise, fun x h => ?_⟩
  rcases putPeer_mem h with rfl | old
  · exact known
  · exact .inl ⟨x, old, rfl⟩

theorem dropPeer_kept (a : Addr) (s : State) : ViewKept s (dropPeer a s.pvw.peers) :=
  ⟨List.Pairwise.filter _, fun x h => .inl ⟨x, (List.mem_filter.mp h).1, rfl⟩⟩

/-- Entries changed beside their addresses. -/
theorem mapPeers_kept {f : Peer → Peer} (addr : ∀ e, (f e).addr = e.addr) (s : State) :
    ViewKept s (s.pvw.peers.map f) := by
  refine ⟨fun rising => List.pairwise_map.mpr ?_, fun x h => ?_⟩
  · simpa only [addr] using rising
  · obtain ⟨e, member, rfl⟩ := List.mem_map.mp h
    exact .inl ⟨e, member, (addr e).symm⟩

theorem statusTaken_work {sender : Addr} (p : List Byte) (station : isStation sender = true) (enabled : s.lkc.enabled = true) :
    Work leave s (statusTaken sender p s) := by
  unfold statusTaken
  split
  · exact .refl s
  next good =>
    have other : sender ≠ s.addr := fun same => good (.inl same)
    split
    · exact .refl s
    · split_ifs
      · exact .after (judgedIf_work _ _) (.peers s _ (dropPeer_kept sender s))
      · exact .after (judgedIf_work _ _) (.peers s _ (putPeer_kept (.inr ⟨station, other, enabled⟩)))
      · exact .refl s

theorem Peer.continued_addr (p : List Byte) (now : Nat) (e : Peer) : (e.continued p now).addr = e.addr := by
  unfold Peer.continued; split <;> rfl

theorem contStatusTaken_work (sender : Addr) (p : List Byte) (s : State) : Work leave s (contStatusTaken sender p s) := by
  unfold contStatusTaken
  split
  · exact .refl s
  · split
    · exact .refl s
    next e found =>
      exact .peers s _ (putPeer_kept (.inl ⟨e, (peerAt_some found).1, (Peer.continued_addr p s.now e).symm⟩))

theorem tripNoticeTaken_work (sender : Addr) (p : List Byte) (s : State) : Work leave s (tripNoticeTaken sender p s) := by
  unfold tripNoticeTaken
  split
  · exact .refl s
  · refine .after (judgedIf_work _ _) (.after (expireClaimOf_work _ _) ?_)
    split
    next e found => exact .peers s _ (putPeer_kept (.inl ⟨e, (peerAt_some found).1, rfl⟩))
    next => exact .refl s

theorem peerStale_work (a : Addr) (s : State) : Work leave s (peerStale a s) :=
  .after (judgedIf_work _ _) (.peers s _ (mapPeers_kept (fun e => by split <;> rfl) s))

theorem peerRemoved_work (a : Addr) (s : State) : Work leave s (peerRemoved a s) :=
  .after (viewJudged_work _) (.peers s _ (dropPeer_kept a s))

theorem gensetsJudged_work (gensets : Nat) (s : State) : Work leave s (gensetsJudged gensets s) := by
  unfold gensetsJudged
  split_ifs with inward outward
  · exact enterSupplying_work (by rw [inward.1]; rfl)
  · exact enterHandoverOut_work (by rw [outward.1]; rfl)
  · exact .refl s

/-- PVW beside its entries, and HOC beside its powers. -/
theorem viewBeside_work (v : Pvw) (h : Hoc) (peers : v.peers = s.pvw.peers) (within : s.hoc.Within → h.Within) :
    Work leave s { s with pvw := v, hoc := h } :=
  .after (.hoc { s with pvw := v } h fun _ => within) (.cadence s v peers)

theorem shipStatusTaken_work (p : List Byte) (s : State) : Work leave s (shipStatusTaken p s) := by
  unfold shipStatusTaken
  split
  · exact .after (gensetsJudged_work _ _) (viewBeside_work _ _ rfl id)
  · exact .refl s

theorem shipAged_work (s : State) : Work leave s (shipAged s) := viewBeside_work _ _ rfl id

theorem slotBroadcast_work (slot : Nat) (s : State) : Work leave s (slotBroadcast slot s) := by
  unfold slotBroadcast
  split_ifs
  · exact .submit ..
  · exact .refl s
  · exact .submit ..
  · exact .submit ..

theorem cadenceWork_work (s : State) : Work leave s (cadenceWork s) :=
  .after (slotBroadcast_work _ _) (.cadence s _ rfl)

/-! ### Requests (R99) -/

theorem answer_work (number kind : Byte) (reason : Reason) (data : List Byte) (s : State) :
    Work leave s (answer number kind reason data s) := .submit _ s

theorem recordOpening_work (resumed : Bool) (s : State) : Work leave s (recordOpening resumed s) := by
  unfold recordOpening
  split
  · exact .record _ _ _ (by rw [sessionOpenRecord_size]; decide)
  · exact .refl s

theorem Meter.opening_balanced (now : Nat) : (Meter.opening now).Balanced := by
  simp [Meter.Balanced, Meter.opening]

theorem openSession_work (opens : .opens ∈ leave) (p : PrepareParams) (standby : s.ssc.station = .standby) :
    Work leave s (openSession p s) := by
  refine .after (recordOpening_work _ _) (.session s (some (preparedSession p)) (some (Meter.opening s.now)) opens standby rfl
    ?_ ?_)
  · rintro x ⟨rfl⟩; rfl
  · rintro m ⟨rfl⟩; exact Meter.opening_balanced s.now

theorem resumeSession_work (p : PrepareParams) (s : State) : Work leave s (resumeSession p s) :=
  .after (recordOpening_work _ _)
    (.after (meterMap_work (f := fun m => { m with flags := { m.flags with partialIvl := true } })
        fun _ => Meter.sameEnergy_rfl rfl rfl rfl rfl rfl rfl)
      (.renew s (fun c => { c with voltage := clamp 950 1050 p.voltage }) fun _ => ⟨rfl, rfl⟩))

/-- What a session or interval close leaves of SSC: all. -/
theorem closeInterval_ssc (id : SessionId) (flags : IntervalFlags) (m : Meter) (s : State) :
    (closeInterval id flags m s).ssc = s.ssc := by
  simp only [closeInterval, submit_ssc, submitRecord_ssc]

@[simp] theorem closeSession_ssc (abandoned : Bool) (s : State) : (closeSession abandoned s).ssc = s.ssc := by
  unfold closeSession
  split
  · dsimp only
    split
    · simp only [submitRecord_ssc, closeInterval_ssc]
    · exact closeInterval_ssc ..
  · rfl

theorem settleSession_work (opens : .opens ∈ leave) (p : PrepareParams) (standby : s.ssc.station = .standby) :
    Work leave s (settleSession p s) := by
  unfold settleSession
  split
  · exact openSession_work opens p standby
  · split
    · exact resumeSession_work p s
    · have left : (closeSession true s).ssc.station = .standby := by rw [closeSession_ssc]; exact standby
      exact .after (openSession_work opens p left) (.after (.session (closeSession true s) none none opens left rfl nofun nofun)
        (closeSession_work true s))

theorem recordOpening_ssc (resumed : Bool) (s : State) : (recordOpening resumed s).ssc = s.ssc := by
  unfold recordOpening; split <;> rfl

/-- A context is held once the PREPARE has settled it (R89 to R91). -/
theorem settleSession_ssc (p : PrepareParams) (s : State) :
    (settleSession p s).ssc.session.isSome = true ∧ (settleSession p s).ssc.station = s.ssc.station := by
  have opened (u : State) : (openSession p u).ssc.session.isSome = true ∧ (openSession p u).ssc.station = u.ssc.station := by
    unfold openSession
    rw [recordOpening_ssc]
    exact ⟨rfl, rfl⟩
  unfold settleSession
  split
  · exact opened s
  next i held =>
    split
    · unfold resumeSession
      rw [recordOpening_ssc]
      refine ⟨?_, rfl⟩
      cases session : s.ssc.session with
      | none => rw [sessionId, session] at held; cases held
      | some c => rfl
    · obtain ⟨held, same⟩ := opened { closeSession true s with
        ssc := { (closeSession true s).ssc with session := none }, emt := none }
      exact ⟨held, same.trans (by simp)⟩

theorem woken_work (opens : .opens ∈ leave) (p : PrepareParams) (standby : s.ssc.station = .standby) :
    Work leave s (announcing (fun x => enterPrepared (settleSession p x)) s) := by
  obtain ⟨held, same⟩ := settleSession_ssc p s
  exact announcing_work (.after (.wake _ (same.trans standby) held opens) (settleSession_work opens p standby))

theorem prepareTaken_work (opens : s.ssc.station = .standby → .opens ∈ leave) (number : Byte) (params : List Byte) :
    Work leave s (prepareTaken number params s) := by
  unfold prepareTaken
  dsimp only
  split
  · refine .after (answer_work _ _ _ _ _) ?_
    split
    next standby => exact woken_work (opens standby) _ standby
    next => exact .refl s
  · exact answer_work ..

theorem shipSyncTaken_work (number : Byte) (params : List Byte) (s : State) :
    Work leave s (shipSyncTaken number params s) := by
  unfold shipSyncTaken
  split
  · refine .after (answer_work _ _ _ _ _) ?_
    split
    next online => exact announcing_work (.seek s online)
    next => exact .refl s
  · exact answer_work ..

theorem returnTaken_work (number : Byte) (params : List Byte) (s : State) : Work leave s (returnTaken number params s) := by
  unfold returnTaken
  split
  · exact .after (answer_work _ _ _ _ _) (announcing_work (.hoc s _ fun _ => id))
  · exact answer_work ..

theorem disconnected_work (serving : s.ssc.station.serving = true) : Work leave s (disconnected s) :=
  .after (.closing (closeSession false s) (by rw [closeSession_ssc]; exact serving)) (closeSession_work false s)

theorem unloaded_serving {x : StationState} (unloaded : x.unloaded = true) : x.serving = true := by
  cases x <;> first | rfl | cases unloaded

theorem disconnectReason_accepted {params : List Byte} (accepted : disconnectReason params s = .accepted) :
    s.ssc.station.unloaded = true ∨ s.ssc.station = .closing := by
  unfold disconnectReason at accepted
  split at accepted
  next r early =>
    unfold earlyReason at early
    split_ifs at early <;> rw [← Option.some.inj early] at accepted <;> cases accepted
  next =>
    split at accepted
    next states => exact states
    next => cases accepted

theorem disconnectTaken_work (number : Byte) (params : List Byte) (s : State) :
    Work leave s (disconnectTaken number params s) := by
  unfold disconnectTaken
  split
  next accepted =>
    refine .after (answer_work _ _ _ _ _) ?_
    split
    · exact .refl s
    next other =>
      have unloaded := (disconnectReason_accepted accepted).resolve_right other
      exact announcing_work (disconnected_work (unloaded_serving unloaded))
  next => exact answer_work ..

theorem markTaken_work (number : Byte) (params : List Byte) (s : State) : Work leave s (markTaken number params s) := by
  unfold markTaken
  dsimp only
  split
  · exact .after (answer_work _ _ _ _ _) (takeMark_work ..)
  · exact answer_work ..

theorem readMeterTaken_work (number : Byte) (params : List Byte) (s : State) :
    Work leave s (readMeterTaken number params s) := by
  unfold readMeterTaken
  split <;> exact answer_work ..

/-- What a CLEAR does after the clearing. -/
theorem cleared_tail (s : State) : Work leave (clearHeld s) (cleared s) := by
  have left : Work leave (clearHeld s) (if s.ssc.station = .tripped ∧ tripHeld (clearHeld s) = false then
      forgetCause (enterStandby (clearHeld s)) else clearHeld s) := by
    split
    next free =>
      exact .after (.cause (enterStandby (clearHeld s)) _ rfl) (.standby (clearHeld s) (.inr (.inr free.1)) (.inl free.2))
    next => exact .refl _
  unfold cleared
  dsimp only
  split
  · exact .after (resumeWriter_work _) left
  · exact left

theorem cleared_work (clears : .clears ∈ leave) (s : State) : Work leave s (cleared s) :=
  .after (cleared_tail s) (.clear s clears)

theorem clearTaken_work (clears : .clears ∈ leave) (number : Byte) (params : List Byte) (s : State) :
    Work leave s (clearTaken number params s) := by
  unfold clearTaken
  split
  · exact .after (answer_work _ _ _ _ _) (cleared_work clears s)
  · exact answer_work ..

/-- A readout that begins has not ended. -/
theorem startReadout_work {r : Readout} (s : State) (open_ : r.ended = false) : Work leave s (startReadout r s) :=
  OnlyStore.work (s := s) ⟨s.rwr, { s.fpt with readout := some r }, s.mem, s.freeCount, rfl⟩ fun inv =>
    inv.refit s.freeCount fun fits => ⟨fits.wf, fits.paged, fits.waits, fun q h ended => by
      rw [← Option.some.inj (show some r = some q from h), open_] at ended
      cases ended⟩

theorem readLogTaken_work (number : Byte) (params : List Byte) (s : State) :
    Work leave s (readLogTaken number params s) := by
  unfold readLogTaken
  split
  · exact .after (startReadout_work _ rfl) (answer_work _ _ _ _ _)
  · exact answer_work ..

theorem configStoreReason_accepted {params : List Byte} (accepted : configStoreReason params s = .accepted) :
    params.length = 28 := by
  unfold configStoreReason earlyReason at accepted
  by_contra other
  split_ifs at accepted

theorem configStoreTaken_work (number : Byte) (params : List Byte) (s : State) :
    Work leave s (configStoreTaken number params s) := by
  unfold configStoreTaken
  split
  next accepted =>
    refine .after (answer_work _ _ _ _ _) (OnlyStore.work (s := s)
      ⟨{ s.rwr with config := some params }, s.fpt, s.mem, s.freeCount, rfl⟩ fun inv => ?_)
    obtain ⟨fits, ⟨length, sizes, -⟩, placed, flying⟩ := (storeInv_iff s).mp inv
    refine (storeInv_iff _).mpr ⟨fits, ⟨length, sizes, ?_⟩, placed, flying⟩
    rintro b ⟨rfl⟩
    exact configStoreReason_accepted accepted
  next => exact answer_work ..

theorem requestTaken_work (payload : List Byte)
    (opens : (payload.getD 2 0).toNat = 1 → s.ssc.station = .standby → .opens ∈ leave)
    (clears : (payload.getD 2 0).toNat = 6 → .clears ∈ leave) : Work leave s (requestTaken payload s) := by
  unfold requestTaken
  dsimp only
  split
  next one => exact prepareTaken_work (opens one) ..
  next => exact shipSyncTaken_work ..
  next => exact returnTaken_work ..
  next => exact disconnectTaken_work ..
  next => exact markTaken_work ..
  next six => exact clearTaken_work (clears six) ..
  next => exact readMeterTaken_work ..
  next => exact readLogTaken_work ..
  next => exact configStoreTaken_work ..
  next => exact answer_work ..

/-! ### Good frames (R44, R51, R54) -/

theorem duplicateChecked_work (sender : Addr) (s : State) : Work leave s (duplicateChecked sender s) := by
  unfold duplicateChecked
  split
  · exact .after (raise_work _ _) (.lkc s _ (.of_same rfl rfl rfl rfl))
  · exact .refl s

theorem claimTaken_work (sender : Addr) (p : List Byte) (s : State) : Work leave s (claimTaken sender p s) := by
  unfold claimTaken
  split
  · exact foreignClaim_work ..
  · exact .refl s

/-- A frame is a REQUEST of a kind (R44, R181). -/
def Received.asks (kind : Nat) (r : Received) : Prop :=
  FrameKind.ofCode r.kind.toNat = some .request ∧ (r.payload.getD 2 0).toNat = kind

theorem deliver_work {r : Received} (opens : r.asks 1 → s.ssc.station = .standby → .opens ∈ leave) (clears : r.asks 6 → .clears ∈ leave)
    (enabled : s.lkc.enabled = true) : Work leave s (deliver r s) := by
  have station (passes : fromStation r.sender s = true) : isStation r.sender = true := by
    simp only [fromStation, Bool.and_eq_true] at passes
    exact passes.1
  unfold deliver
  split
  · exact .refl s
  next k kind =>
    split
    · exact .refl s
    · cases k <;> dsimp only
      case tripNotice => split; exacts [announcing_work (tripNoticeTaken_work ..), .refl s]
      case request =>
        split
        · exact requestTaken_work _ (fun one => opens ⟨kind, one⟩) fun six => clears ⟨kind, six⟩
        · exact .refl s
      case claim => split; exacts [announcing_work (claimTaken_work ..), .refl s]
      case shipStatus => split; exacts [announcing_work (shipStatusTaken_work ..), .refl s]
      case status =>
        split
        next passes => exact announcing_work (statusTaken_work _ (station passes) enabled)
        next => exact .refl s
      case contStatus => split; exacts [contStatusTaken_work .., .refl s]
      case reply => exact .refl s
      case intervalReport => exact .refl s
      case logData => exact .refl s

theorem frameEnded_work {r : Received} (opens : r.asks 1 → .opens ∈ leave) (clears : r.asks 6 → .clears ∈ leave)
    (enabled : s.lkc.enabled = true) : Work leave s (frameEnded r s) := by
  have heard : Work leave s (duplicateChecked r.sender (withRx .hunt s)) :=
    .after (duplicateChecked_work _ _) (withRx_work _ s)
  unfold frameEnded
  split
  · exact .after (deliver_work (fun asks _ => opens asks) clears (heard.enabled.trans enabled)) heard
  · exact frameBad_work s

end

end Sys2Proof.Machine
end

/-! PROOFS. What a step is made of, the transmitter and the commands of the table. -/
section
namespace Sys2Proof.Machine

section
variable {leave : List Leave} {s t : State}

/-! ### The transmitter (R46 to R50) -/

/-- How many entries are status broadcasts, where each entry maps to one of the same kind. -/
theorem countP_status_map {f : TxEntry → TxEntry} (same : ∀ e, (f e).frame.isStatus = e.frame.isStatus) (q : List TxEntry) :
    ((q.map f).countP fun e => e.frame.isStatus) = q.countP fun e => e.frame.isStatus := by
  rw [List.countP_map]
  congr 1
  exact funext same

/-- LKC in a receive state other than IDLE on a busy link, its queue with entries lost or changed beside their kind. -/
theorem Lkc.Tidied.of_busy {old new : Lkc} (enabled : new.enabled = old.enabled)
    (length : new.queue.length ≤ old.queue.length)
    (status : (new.queue.countP fun e => e.frame.isStatus) ≤ old.queue.countP fun e => e.frame.isStatus)
    (rx : new.rx ≠ .idle) (idle : new.linkIdle = false) : Lkc.Tidied old new :=
  ⟨enabled, length, status, .inr ⟨fun h => absurd (h.symm.trans idle) nofun, fun h => absurd h rx⟩⟩

theorem markEntry_length (i : Nat) (q : List TxEntry) : (markEntry i q).length = q.length := by
  induction q generalizing i with
  | nil => cases i <;> rfl
  | cons e rest ih => cases i <;> simp [markEntry, ih]

theorem markEntry_status (i : Nat) (q : List TxEntry) :
    ((markEntry i q).countP fun e => e.frame.isStatus) = q.countP fun e => e.frame.isStatus := by
  induction q generalizing i with
  | nil => cases i <;> rfl
  | cons e rest ih => cases i <;> simp [markEntry, List.countP_cons, ih]

theorem transmit_work (s : State) : Work leave s (transmit s) := by
  unfold transmit
  split
  · exact .refl s
  next i _ =>
    split
    · exact .refl s
    · exact .lkc s _ (.of_busy rfl (markEntry_length i _).le (markEntry_status i _).le nofun rfl)

theorem settleEntries_status (q : List TxEntry) :
    ((settleEntries q).countP fun e => e.frame.isStatus) = q.countP fun e => e.frame.isStatus :=
  countP_status_map (f := fun e => { e with inAttempt := false }) (fun _ => rfl) q

theorem settleEntries_length (q : List TxEntry) : (settleEntries q).length = q.length := by simp [settleEntries]

theorem endAttempt_tidied (l : Lkc) : Lkc.Tidied l l.endAttempt :=
  ⟨rfl, (settleEntries_length _).le, (settleEntries_status _).le, .inl ⟨rfl, rfl⟩⟩

theorem attemptLeft_work (a : Attempt) (s : State) : Work leave s (attemptLeft a s) :=
  .after (countBads_work a.bad _) (.lkc s _ (endAttempt_tidied s.lkc))

theorem retryEntries_status (q : List TxEntry) :
    ((retryEntries q).countP fun e => e.frame.isStatus) = q.countP fun e => e.frame.isStatus :=
  countP_status_map (fun e => by split <;> rfl) q

theorem retryEntries_length (q : List TxEntry) : (retryEntries q).length = q.length := by simp [retryEntries]

theorem removeAttempted_status (q : List TxEntry) :
    ((removeAttempted q).countP fun e => e.frame.isStatus) ≤ q.countP fun e => e.frame.isStatus :=
  (List.filter_sublist ..).countP_le

theorem removeAttempted_length (q : List TxEntry) : (removeAttempted q).length ≤ q.length := List.length_filter_le ..

theorem aborted_work {q : List TxEntry} (s : State) (length : q.length ≤ s.lkc.queue.length)
    (status : (q.countP fun e => e.frame.isStatus) ≤ s.lkc.queue.countP fun e => e.frame.isStatus) :
    Work leave s { s with lkc := s.lkc.aborted q } :=
  .lkc s _ (.of_busy rfl ((settleEntries_length q).trans_le length) ((settleEntries_status q).trans_le status) nofun rfl)

theorem bitErrorTaken_work (a : Attempt) (s : State) : Work leave s (bitErrorTaken a s) := by
  unfold bitErrorTaken
  split_ifs
  · exact aborted_work s le_rfl le_rfl
  · exact aborted_work s (retryEntries_length _).le (retryEntries_status _).le
  · exact .after (raiseClaim_work _) (.after (raise_work _ _)
      (aborted_work s (removeAttempted_length _) (removeAttempted_status _)))

theorem seen_tidied (a : Attempt) (l : Lkc) : Lkc.Tidied l (l.seen a) := by
  refine .of_busy rfl ((settleEntries_length _).trans_le ?_) ((settleEntries_status _).trans_le ?_) nofun rfl
  · split
    · exact le_rfl
    · exact removeAttempted_length _
  · split
    · exact le_rfl
    · exact removeAttempted_status _

theorem restamp_kind (seq : Byte) (f : Frame) : (f.restamp seq).kind = f.kind := by
  unfold Frame.restamp
  split <;> rfl

theorem restampQueue_status (seq : Byte) (q : List TxEntry) :
    ((restampQueue seq q).countP fun e => e.frame.isStatus) = q.countP fun e => e.frame.isStatus :=
  countP_status_map (fun e => by
    split
    · simp only [Frame.isStatus, restamp_kind]
    · rfl) q

theorem restampQueue_length (seq : Byte) (q : List TxEntry) : (restampQueue seq q).length = q.length := by
  simp [restampQueue]

theorem ownClaimSeen_work (closes : .closes ∈ leave) (run : s.phase = .run) : Work leave s (ownClaimSeen s) := by
  unfold ownClaimSeen
  split
  next joining =>
    exact .after (.closeContactor _ closes run joining.1) (.syn s _ ⟨rfl, rfl, rfl, rfl⟩)
  next => exact .refl s

theorem sentNotice_work (closes : .closes ∈ leave) (run : s.phase = .run) (a : Attempt) :
    Work leave s (sentNotice a s) := by
  unfold sentNotice
  split
  · refine .after (.lkc { s with pvw := { s.pvw with seq := s.pvw.seq + 1 } } _ ?_) (.cadence s _ rfl)
    split
    · exact ⟨rfl, (restampQueue_length _ _).le, (restampQueue_status _ _).le, .inl ⟨rfl, rfl⟩⟩
    · exact .of_same rfl rfl rfl rfl
  · split
    · exact announcing_work (ownClaimSeen_work closes run)
    · exact .refl s

theorem ownFrameSeen_work (closes : .closes ∈ leave) (run : s.phase = .run) (a : Attempt) :
    Work leave s (ownFrameSeen a s) := by
  have counted : Work leave s (countBads a.bad { s with lkc := s.lkc.seen a }) :=
    .after (countBads_work a.bad _) (.lkc s _ (seen_tidied a s.lkc))
  exact .after (sentNotice_work closes (counted.phase.trans run) a) counted

/-- A command of the transmitter acts where an attempt is in progress. -/
theorem inAttempt_work {f : Attempt → State → State} (w : ∀ a, Work leave s (f a s)) :
    Work leave s (match s.lkc.attempt with
      | none => s
      | some a => f a s) := by
  split
  · exact .refl s
  · exact w _

/-! ### Joining and ship synchronising -/

theorem joinDwellDone_work (closes : .closes ∈ leave) (run : s.phase = .run) (joining : s.ssc.station = .joining) :
    Work leave s (joinDwellDone s) :=
  .after (reportClosed_work _) (.after (.closeContactor _ closes run joining) (.syn s _ ⟨rfl, rfl, rfl, rfl⟩))

theorem windowEnded_work (s : State) : Work leave s (windowEnded s) :=
  .after (raiseIf_work ..) (.syn s _ ⟨rfl, rfl, rfl, rfl⟩)

theorem ccAuxTaken_work (closed : Bool) (s : State) : Work leave s (ccAuxTaken closed s) :=
  .after (reportClosed_work _) (.ccAux s closed _)

theorem sbAux_work (s : State) (closed : Bool) : Work leave s { s with sbAux := closed } := .aside s ..

theorem breakerCloses_work (s : State) : Work leave s (breakerCloses s) := by
  have judged : Work leave s (raiseIf (!s.syn.permit) .shipBreakerFail { s with sbAux := true }) :=
    .after (raiseIf_work ..) (sbAux_work s true)
  unfold breakerCloses
  dsimp only
  split
  next states =>
    refine .after (enterHandoverIn_work ?_) judged
    rcases states.2 with station | station <;> rw [station] <;> rfl
  next => exact judged

theorem shipConnected_serving {x : StationState} (connected : x.shipConnected = true) : x.serving = true := by
  cases x <;> first | rfl | cases connected

theorem breakerOpens_work (s : State) : Work leave s (breakerOpens s) := by
  have opened : Work leave s { s with sbAux := false } := sbAux_work s false
  unfold breakerOpens
  dsimp only
  split
  next connected =>
    have serving := shipConnected_serving connected.2
    split
    · exact .after (enterOnline_work serving) (.after (event_work _ _ _) opened)
    · exact .after (enterOnline_work serving) (.after (event_work _ _ _) opened)
  next => exact opened

theorem syncLimitReached_work (seeking : s.ssc.station = .shipSync) : Work leave s (syncLimitReached s) := by
  have alarm : raise .syncTimeout s = hold .syncTimeout s := raise_alarm rfl
  refine .after (enterOnline_work ?_) (raise_work _ s)
  rw [alarm, hold_ssc, seeking]
  rfl

theorem carrierPeriod_work (meters : s.sbAux = true ∧ s.ccAux = true → .meters ∈ leave) (drives : .drives ∈ leave) (workFirst : Bool) :
    Work leave s (carrierStart workFirst { s with now := s.now + 1 }) := by
  have later : Work leave s { s with now := s.now + 1 } := .clock s (s.now + 1) (Nat.le_succ _)
  exact later.trans (carrierStart_work (s := { s with now := s.now + 1 }) meters drives workFirst)

/-! ### The dispatch -/

theorem writerBusyWith_writer {w : WriterState} (busy : writerBusyWith w s = true) (working : w ≠ .idle) :
    s.rwr.writer ≠ .idle := by
  simp only [writerBusyWith, Bool.and_eq_true, beq_iff_eq] at busy
  rw [busy.1.1]
  exact working

theorem running_work {f : State → State} (h : running f s = .next t) (w : s.phase = .run → Work leave s (f s)) :
    Work leave s t := by
  obtain rfl := Host.Outcome.next.inj h
  split
  next run => exact w run
  next => exact .refl s

theorem taken_work {f : State → State} (h : taken f s = .next t) (w : Work leave s (f s)) : Work leave s t := by
  obtain rfl := Host.Outcome.next.inj h
  split
  · exact .refl s
  · exact w

theorem ite_work {c : Prop} [Decidable c] {u : State} (w : c → Work leave s u) : Work leave s (if c then u else s) := by
  split
  next met => exact w met
  next => exact .refl s

/-- A frame reported by a command of the link (R44). -/
theorem frame_work {r : Received} (h : running (onLink (frameEnded r)) s = .next t) (opens : r.asks 1 → .opens ∈ leave)
    (clears : r.asks 6 → .clears ∈ leave) : Work leave s t :=
  running_work h fun _ => onLink_work fun enabled => frameEnded_work opens clears enabled

/-- A REQUEST of a kind that neither opens a session nor clears. -/
theorem request_work {target number kind : Byte} {params : List Byte}
    (h : running (onLink (frameEnded (requestFrame (target :: number :: kind :: params)))) s = .next t)
    (opens : kind.toNat = 1 → .opens ∈ leave) (clears : kind.toNat = 6 → .clears ∈ leave) : Work leave s t :=
  frame_work h (fun asks => opens asks.2) (fun asks => clears asks.2)

/-- A frame that is no REQUEST. -/
theorem noRequest_work {r : Received} (h : running (onLink (frameEnded r)) s = .next t)
    (other : FrameKind.ofCode r.kind.toNat ≠ some .request) : Work leave s t :=
  frame_work h (fun asks => absurd asks.1 other) (fun asks => absurd asks.1 other)

end

/-- A sample is integrated only where both auxiliaries report closed (R145). -/
def metering (s : State) : List Leave := if s.sbAux = true ∧ s.ccAux = true then [.meters] else []

theorem meters_mem {s : State} (both : s.sbAux = true ∧ s.ccAux = true) : .meters ∈ metering s := by
  rw [metering, if_pos both]
  exact List.mem_singleton.mpr rfl

/-- The pieces of work that a command may do beyond those of every command. -/
def leaveOf (c : Instr) (s : State) : List Leave :=
  match c with
  | .joinDwellComplete => [.closes]
  | .ownFrameSeen => [.closes]
  | .carrierPeriodStart _ => .drives :: metering s
  | .recordComplete _ => metering s
  | .startMarkerWrong _ => metering s
  | .configLoadComplete _ => [.loads]
  | .prepare _ _ _ => [.opens]
  | .clear _ _ _ => [.clears]
  | .malformedRequest _ => [.opens, .clears]
  | .badFrame _ => [.opens, .clears]
  | .frameDropped _ _ _ _ => [.opens, .clears]
  | _ => []

/-- The four commands of the reset lines (R85, R87). -/
def isReset : Instr → Bool
  | .coldReset _ _ _ _ _ _ => true
  | .rstNAsserted _ => true
  | .warmReset => true
  | .warmResetEnd => true
  | _ => false

section
variable {s t : State}

theorem tripInAsserted_work (h : execTripInAsserted s = .next t) : Work [] s t :=
  taken_work h (by split; exacts [.refl s, .after (raise_work _ _) (.aside s ..)])

theorem tripInReleased_work (h : execTripInReleased s = .next t) : Work [] s t :=
  taken_work h (.aside s ..)

theorem ccAuxChange_work (closed : Bool) (h : execCcAuxChange closed s = .next t) : Work [] s t :=
  taken_work h (by split; exacts [.refl s, .after (raiseIf_work ..) (announcing_work (ccAuxTaken_work closed s))])

theorem sbAuxClose_work (h : execSbAuxClose s = .next t) : Work [] s t :=
  taken_work h (announcing_work (by split; exacts [.refl s, breakerCloses_work s]))

theorem sbAuxOpen_work (h : execSbAuxOpen s = .next t) : Work [] s t :=
  taken_work h (announcing_work (by split; exacts [breakerOpens_work s, .refl s]))

theorem carrierPeriodStart_work (workFirst : Bool) (h : execCarrierPeriodStart workFirst s = .next t) : Work (.drives :: metering s) s t :=
  taken_work h (carrierPeriod_work (fun both => List.mem_cons_of_mem _ (meters_mem both)) List.mem_cons_self workFirst)

theorem recordComplete_work (bytes : List Byte) (h : execRecordComplete bytes s = .next t) : Work (metering s) s t :=
  running_work h (fun _ => ite_work fun _ => recordBytes_work meters_mem bytes)

theorem startMarkerWrong_work (first : Byte) (h : execStartMarkerWrong first s = .next t) : Work (metering s) s t :=
  running_work h (fun _ => ite_work fun _ => settlePeriod_work meters_mem none)

theorem busFrequencyTimer_work (h : execBusFrequencyTimer s = .next t) : Work [] s t :=
  running_work h (fun _ => onExpiry_work fun _ _ => .after (raise_work _ _) (.aside _ ..))

theorem syncError_work (run : Nat) (tail : Bool) (h : execSyncError run tail s = .next t) : Work [] s t :=
  running_work h (fun _ => onLink_work fun _ => syncJudged_work run tail s)

theorem syncAccepted_work (run : Nat) (tail : Bool) (h : execSyncAccepted run tail s = .next t) : Work [] s t :=
  running_work h (fun _ => onLink_work fun _ => syncJudged_work run tail s)

theorem stopBitDominant_work (h : execStopBitDominant s = .next t) : Work [] s t :=
  running_work h (fun _ => onLink_work fun _ => ite_work fun _ => frameBad_work s)

theorem lengthAbove32_work (length : Byte) (h : execLengthAbove32 length s = .next t) : Work [] s t :=
  running_work h (fun _ => onLink_work fun _ => ite_work fun _ => frameBad_work s)

theorem partialFrameDiscarded_work (byBreak : Bool) (h : execPartialFrameDiscarded byBreak s = .next t) : Work [] s t :=
  running_work h (fun _ => onLink_work fun _ => ite_work fun _ => discardPartial_work _ s)

theorem linkIdle_work (h : execLinkIdle s = .next t) : Work [] s t :=
  running_work h (fun _ => onLink_work fun _ => by
      split; exacts [discardPartial_work _ s, withRx_work _ s])

theorem breakDetected_work (h : execBreakDetected s = .next t) : Work [] s t :=
  running_work h (fun _ => onLink_work fun _ => by
      split; exacts [discardPartial_work _ s, withRx_work _ s])

theorem badFrame_work (bytes : List Byte) (h : execBadFrame bytes s = .next t) : Work [.opens, .clears] s t :=
  running_work h (fun _ => onLink_work fun enabled => by
      split
      · exact frameEnded_work (fun _ => by simp) (fun _ => by simp) enabled
      · exact frameBad_work s)

theorem badFrameWindow_work (h : execBadFrameWindow s = .next t) : Work [] s t :=
  running_work h (fun _ => onExpiry_work fun _ _ => .lkc _ _ (.of_same rfl rfl rfl rfl))

theorem duplicateAddressTimer_work (h : execDuplicateAddressTimer s = .next t) : Work [] s t :=
  running_work h (fun _ => onExpiry_work fun _ _ => .lkc _ _ (.of_same rfl rfl rfl rfl))

theorem transmitStart_work (h : execTransmitStart s = .next t) : Work [] s t :=
  running_work h (fun _ => onLink_work fun _ => ite_work fun _ => transmit_work s)

theorem alignmentDropout_work (h : execAlignmentDropout s = .next t) : Work [] s t :=
  running_work h (fun _ => onLink_work fun _ => inAttempt_work fun a => attemptLeft_work a s)

theorem arbitrationLost_work (h : execArbitrationLost s = .next t) : Work [] s t :=
  running_work h (fun _ => onLink_work fun _ => inAttempt_work fun a => attemptLeft_work a s)

theorem bitError_work (h : execBitError s = .next t) : Work [] s t :=
  running_work h (fun _ => onLink_work fun _ => inAttempt_work fun a => bitErrorTaken_work a s)

theorem ownFrame_work (h : execOwnFrameSeen s = .next t) : Work [.closes] s t :=
  running_work h (fun run => onLink_work fun _ => inAttempt_work fun a =>
      ownFrameSeen_work (by simp) run a)

theorem statusReceived_work (sender : Addr) (payload : List Byte) (h : execStatusReceived sender payload s = .next t) : Work [] s t :=
  noRequest_work h nofun

theorem contStatusReceived_work (sender : Addr) (payload : List Byte) (h : execContStatusReceived sender payload s = .next t) : Work [] s t :=
  noRequest_work h nofun

theorem tripNoticeReceived_work (sender : Addr) (payload : List Byte) (h : execTripNoticeReceived sender payload s = .next t) : Work [] s t :=
  noRequest_work h nofun

theorem shipStatusReceived_work (payload : List Byte) (h : execShipStatusReceived payload s = .next t) : Work [] s t :=
  noRequest_work h nofun

theorem claimReceived_work (sender : Addr) (payload : List Byte) (h : execClaimReceived sender payload s = .next t) : Work [] s t :=
  noRequest_work h nofun

theorem frameDropped_work (cls sender : BitVec 4) (kind : Byte) (payload : List Byte) (h : execFrameDropped cls sender kind payload s = .next t) : Work [.opens, .clears] s t :=
  frame_work h (fun _ => by simp) (fun _ => by simp)

theorem malformedRequest_work (payload : List Byte) (h : execMalformedRequest payload s = .next t) : Work [.opens, .clears] s t :=
  frame_work h (fun _ => by simp) (fun _ => by simp)

theorem prepare_work (target number : Byte) (params : List Byte) (h : execPrepare target number params s = .next t) : Work [.opens] s t :=
  request_work h (fun _ => by simp) nofun

theorem shipSync_work (target number : Byte) (params : List Byte) (h : execShipSync target number params s = .next t) : Work [] s t :=
  request_work h nofun nofun

theorem returnLoad_work (target number : Byte) (params : List Byte) (h : execReturnLoad target number params s = .next t) : Work [] s t :=
  request_work h nofun nofun

theorem disconnect_work (target number : Byte) (params : List Byte) (h : execDisconnect target number params s = .next t) : Work [] s t :=
  request_work h nofun nofun

theorem mark_work (target number : Byte) (params : List Byte) (h : execMark target number params s = .next t) : Work [] s t :=
  request_work h nofun nofun

theorem clear_work (target number : Byte) (params : List Byte) (h : execClear target number params s = .next t) : Work [.clears] s t :=
  request_work h nofun (fun _ => by simp)

theorem readMeter_work (target number : Byte) (params : List Byte) (h : execReadMeter target number params s = .next t) : Work [] s t :=
  request_work h nofun nofun

theorem readLog_work (target number : Byte) (params : List Byte) (h : execReadLog target number params s = .next t) : Work [] s t :=
  request_work h nofun nofun

theorem configStore_work (target number : Byte) (params : List Byte) (h : execConfigStore target number params s = .next t) : Work [] s t :=
  request_work h nofun nofun

theorem cadenceExpiry_work (h : execCadenceExpiry s = .next t) : Work [] s t :=
  running_work h (fun _ => ite_work fun _ => onExpiry_work fun _ _ => cadenceWork_work _)

theorem peerEntryStale_work (addr : Addr) (h : execPeerEntryStale addr s = .next t) : Work [] s t :=
  running_work h (fun _ => announcing_work (onExpiry_work fun _ _ => peerStale_work _ _))

theorem peerEntryRemoved_work (addr : Addr) (h : execPeerEntryRemoved addr s = .next t) : Work [] s t :=
  running_work h (fun _ => announcing_work (onExpiry_work fun _ _ => peerRemoved_work _ _))

theorem shipRecordStale_work (h : execShipRecordStale s = .next t) : Work [] s t :=
  running_work h (fun _ => onExpiry_work fun _ _ => shipAged_work _)

theorem sharingTick_work (h : execSharingTick s = .next t) : Work [] s t :=
  running_work h (fun _ => onExpiry_work fun _ _ => .aside _ ..)

theorem restorationTick_work (h : execRestorationTick s = .next t) : Work [] s t :=
  running_work h (fun _ => ite_work fun _ => onExpiry_work fun _ _ => .aside _ ..)

theorem settleTimerExpiry_work (h : execSettleTimerExpiry s = .next t) : Work [] s t :=
  running_work h (fun _ => by
      split
      · exact .refl s
      · exact onExpiry_work fun _ _ => .after (raiseClaim_work _) (.syn _ _ ⟨rfl, rfl, rfl, rfl⟩))

theorem claimResubmit_work (h : execClaimResubmit s = .next t) : Work [] s t :=
  running_work h (fun _ => ite_work fun _ => .after (raiseClaim_work _) (.syn _ _ ⟨rfl, rfl, rfl, rfl⟩))

theorem claimExpiry_work (h : execClaimExpiry s = .next t) : Work [] s t :=
  running_work h (fun _ => announcing_work (onExpiry_work fun _ _ =>
      .after (raiseClaim_work _) (.syn _ _ ⟨rfl, rfl, rfl, rfl⟩)))

theorem energiseTimerExpiry_work (h : execEnergiseTimerExpiry s = .next t) : Work [] s t :=
  running_work h (fun _ => announcing_work (onExpiry_work fun _ _ => energiseFailed_work _))

theorem joinDwellComplete_work (h : execJoinDwellComplete s = .next t) : Work [.closes] s t :=
  running_work h (fun run => announcing_work (ite_work fun joining => onExpiry_work fun _ _ =>
      joinDwellDone_work (by simp) run joining.1))

theorem joinTimeLimitExpiry_work (h : execJoinTimeLimitExpiry s = .next t) : Work [] s t :=
  running_work h (fun _ => ite_work fun _ => onExpiry_work fun _ _ =>
      .after (raise_work _ _) (.syn _ _ ⟨rfl, rfl, rfl, rfl⟩))

theorem confirmationWindowEnd_work (h : execConfirmationWindowEnd s = .next t) : Work [] s t :=
  taken_work h (onExpiry_work fun _ _ => windowEnded_work _)

theorem shipDwellComplete_work (h : execShipDwellComplete s = .next t) : Work [] s t :=
  running_work h (fun run => announcing_work (ite_work fun seeking => onExpiry_work fun start dwell =>
      .shipReady _ start run seeking.1 dwell (Nat.le_max_right ..)))

theorem syncTimeLimitExpiry_work (h : execSyncTimeLimitExpiry s = .next t) : Work [] s t :=
  running_work h (fun _ => announcing_work (ite_work fun seeking => onExpiry_work fun _ _ =>
      syncLimitReached_work seeking))

theorem handoverTick_work (h : execHandoverTick s = .next t) : Work [] s t :=
  running_work h (fun _ => ite_work fun _ => onExpiry_work fun _ _ => handoverTicked_work _)

theorem staleTimerExpiry_work (h : execStaleTimerExpiry s = .next t) : Work [] s t :=
  running_work h (fun _ => announcing_work (ite_work fun inward => onExpiry_work fun start _ =>
      abortHandover_work _ _ (by rw [catchUp_ssc, inward]; rfl)))

theorem handoverTimerExpiryIn_work (h : execHandoverTimerExpiryIn s = .next t) : Work [] s t :=
  running_work h (fun _ => announcing_work (ite_work fun inward => onExpiry_work fun start _ =>
      abortHandover_work _ _ (by rw [catchUp_ssc, inward]; rfl)))

theorem handoverTimerExpiryOut_work (h : execHandoverTimerExpiryOut s = .next t) : Work [] s t :=
  running_work h (fun _ => announcing_work (ite_work fun _ => onExpiry_work fun _ _ => handoverOutExpired_work _))

theorem partTimerExpiry_work (h : execPartTimerExpiry s = .next t) : Work [] s t :=
  running_work h (fun _ => announcing_work (ite_work fun _ => onExpiry_work fun _ _ => partReached_work _))

theorem tripTimerExpiry_work (h : execTripTimerExpiry s = .next t) : Work [] s t :=
  running_work h (fun _ => ite_work fun _ => onExpiry_work fun _ _ => tripReached_work _)

theorem intervalTick_work (h : execIntervalTick s = .next t) : Work [] s t :=
  running_work h (fun _ => onExpiry_work fun _ _ => meterMap_work fun _ =>
      Meter.sameEnergy_rfl rfl rfl rfl rfl rfl rfl)

theorem intervalSelfClose_work (h : execIntervalSelfClose s = .next t) : Work [] s t :=
  running_work h (fun _ => selfClose_work s)

theorem closingEnd_work (h : execClosingEnd s = .next t) : Work [] s t :=
  running_work h (fun _ => closingJudged_work s)

theorem writerTakeWork_work (h : execWriterTakeWork s = .next t) : Work [] s t :=
  running_work h (fun run => ite_work fun free => writerTakes_work run free)

theorem memoryPortGrant_work (h : execMemoryPortGrant s = .next t) : Work [] s t :=
  running_work h (fun _ => grantPort_work s)

theorem programComplete_work (h : execProgramComplete s = .next t) : Work [] s t :=
  running_work h (fun run => ite_work fun busy => programEnded_work run (writerBusyWith_writer busy (by decide)))

theorem eraseComplete_work (h : execEraseComplete s = .next t) : Work [] s t :=
  running_work h (fun _ => ite_work fun busy => eraseEnded_work (writerBusyWith_writer busy (by decide)))

theorem busyTimeout_work (h : execBusyTimeout s = .next t) : Work [] s t := by
  refine running_work h (fun run => ite_work fun busy => onExpiry_work fun _ _ => busyExpired_work run ?_)
  rw [catchUp_rwr]
  rcases (Bool.or_eq_true ..).mp busy with busy | busy <;> exact writerBusyWith_writer busy (by decide)

theorem faultedStatusRead_work (busy : Bool) (h : execFaultedStatusRead busy s = .next t) : Work [] s t :=
  running_work h (fun _ => ite_work fun _ => onExpiry_work fun _ _ => statusRead_work busy _)

theorem configLoadComplete_work (busy : Bool) (h : execConfigLoadComplete busy s = .next t) : Work [.loads] s t :=
  running_work h (fun _ => ite_work fun load => loadConfig_work (by simp) busy load.2.1 load.1)

theorem recoveryBusyTimeout_work (h : execRecoveryBusyTimeout s = .next t) : Work [] s t :=
  running_work h (fun run => ite_work fun waits => onExpiry_work fun _ _ => recoveryTimedOut_work run waits.1)

theorem logRecoveryComplete_work (h : execLogRecoveryComplete s = .next t) : Work [] s t :=
  running_work h (fun run => ite_work fun ready => recoverLog_work run ready.1)

theorem warmResetSettle_work (h : execWarmResetSettle s = .next t) : Work [] s t :=
  running_work h (fun _ => ite_work fun _ => settleWriter_work s)

theorem warmResetBusyTimeout_work (h : execWarmResetBusyTimeout s = .next t) : Work [] s t :=
  running_work h (fun run => ite_work fun _ => onExpiry_work fun _ _ => settleTimedOut_work run)

theorem readoutChunk_work (h : execReadoutChunk s = .next t) : Work [] s t :=
  running_work h (fun _ => by
      split
      · exact .refl s
      next active => exact ite_work fun _ => readChunk_work active)

theorem readoutEndFrame_work (h : execReadoutEndFrame s = .next t) : Work [] s t :=
  running_work h (fun _ => by
      split
      · exact .refl s
      · exact ite_work fun _ => endReadout_work _ s)

end

/-- Every command but the four of the reset lines is made of the pieces of work. -/
theorem exec_work {c : Instr} {s t : State} (other : isReset c = false) (h : exec c s = .next t) : Work (leaveOf c s) s t := by
  cases c with
  | coldReset => cases other
  | rstNAsserted => cases other
  | warmReset => cases other
  | warmResetEnd => cases other
  | tripInAsserted => exact tripInAsserted_work h
  | tripInReleased => exact tripInReleased_work h
  | ccAuxChange => exact ccAuxChange_work _ h
  | sbAuxClose => exact sbAuxClose_work h
  | sbAuxOpen => exact sbAuxOpen_work h
  | carrierPeriodStart => exact carrierPeriodStart_work _ h
  | recordComplete => exact recordComplete_work _ h
  | startMarkerWrong => exact startMarkerWrong_work _ h
  | busFrequencyTimer => exact busFrequencyTimer_work h
  | syncError => exact syncError_work _ _ h
  | syncAccepted => exact syncAccepted_work _ _ h
  | stopBitDominant => exact stopBitDominant_work h
  | lengthAbove32 => exact lengthAbove32_work _ h
  | partialFrameDiscarded => exact partialFrameDiscarded_work _ h
  | linkIdle => exact linkIdle_work h
  | breakDetected => exact breakDetected_work h
  | badFrame => exact badFrame_work _ h
  | badFrameWindow => exact badFrameWindow_work h
  | duplicateAddressTimer => exact duplicateAddressTimer_work h
  | transmitStart => exact transmitStart_work h
  | alignmentDropout => exact alignmentDropout_work h
  | arbitrationLost => exact arbitrationLost_work h
  | bitError => exact bitError_work h
  | ownFrameSeen => exact ownFrame_work h
  | statusReceived => exact statusReceived_work _ _ h
  | contStatusReceived => exact contStatusReceived_work _ _ h
  | tripNoticeReceived => exact tripNoticeReceived_work _ _ h
  | shipStatusReceived => exact shipStatusReceived_work _ h
  | claimReceived => exact claimReceived_work _ _ h
  | frameDropped => exact frameDropped_work _ _ _ _ h
  | malformedRequest => exact malformedRequest_work _ h
  | prepare => exact prepare_work _ _ _ h
  | shipSync => exact shipSync_work _ _ _ h
  | returnLoad => exact returnLoad_work _ _ _ h
  | disconnect => exact disconnect_work _ _ _ h
  | mark => exact mark_work _ _ _ h
  | clear => exact clear_work _ _ _ h
  | readMeter => exact readMeter_work _ _ _ h
  | readLog => exact readLog_work _ _ _ h
  | configStore => exact configStore_work _ _ _ h
  | cadenceExpiry => exact cadenceExpiry_work h
  | peerEntryStale => exact peerEntryStale_work _ h
  | peerEntryRemoved => exact peerEntryRemoved_work _ h
  | shipRecordStale => exact shipRecordStale_work h
  | sharingTick => exact sharingTick_work h
  | restorationTick => exact restorationTick_work h
  | settleTimerExpiry => exact settleTimerExpiry_work h
  | claimResubmit => exact claimResubmit_work h
  | claimExpiry => exact claimExpiry_work h
  | energiseTimerExpiry => exact energiseTimerExpiry_work h
  | joinDwellComplete => exact joinDwellComplete_work h
  | joinTimeLimitExpiry => exact joinTimeLimitExpiry_work h
  | confirmationWindowEnd => exact confirmationWindowEnd_work h
  | shipDwellComplete => exact shipDwellComplete_work h
  | syncTimeLimitExpiry => exact syncTimeLimitExpiry_work h
  | handoverTick => exact handoverTick_work h
  | staleTimerExpiry => exact staleTimerExpiry_work h
  | handoverTimerExpiryIn => exact handoverTimerExpiryIn_work h
  | handoverTimerExpiryOut => exact handoverTimerExpiryOut_work h
  | partTimerExpiry => exact partTimerExpiry_work h
  | tripTimerExpiry => exact tripTimerExpiry_work h
  | intervalTick => exact intervalTick_work h
  | intervalSelfClose => exact intervalSelfClose_work h
  | closingEnd => exact closingEnd_work h
  | writerTakeWork => exact writerTakeWork_work h
  | memoryPortGrant => exact memoryPortGrant_work h
  | programComplete => exact programComplete_work h
  | eraseComplete => exact eraseComplete_work h
  | busyTimeout => exact busyTimeout_work h
  | faultedStatusRead => exact faultedStatusRead_work _ h
  | configLoadComplete => exact configLoadComplete_work _ h
  | recoveryBusyTimeout => exact recoveryBusyTimeout_work h
  | logRecoveryComplete => exact logRecoveryComplete_work h
  | warmResetSettle => exact warmResetSettle_work h
  | warmResetBusyTimeout => exact warmResetBusyTimeout_work h
  | readoutChunk => exact readoutChunk_work h
  | readoutEndFrame => exact readoutEndFrame_work h

/-! ### The pair -/

/-- A part clock of the pair brings LKC into another place of its receiver and its attempt. -/
theorem clocked_tidied (n : Nat) (d : Bool) (l : Lkc) : Lkc.Tidied l (l.clocked n d).1 := by
  obtain ⟨rx, idle, run, ear, same, moved⟩ := listen_cases n d (l.talk n d).1
  have talked : (l.talk n d).1.enabled = l.enabled ∧ (l.talk n d).1.queue = l.queue ∧ (l.talk n d).1.rx = l.rx ∧
      (l.talk n d).1.linkIdle = l.linkIdle := by
    rcases talk_cases n d l with ⟨-, same⟩ | ⟨a, place, -, same, -⟩ <;> rw [same] <;> exact ⟨rfl, rfl, rfl, rfl⟩
  obtain ⟨enabled, queue, rxSame, idleSame⟩ := talked
  show Lkc.Tidied l ((l.talk n d).1.listen n d).1
  rw [same]
  rcases moved with ⟨rfl, rfl⟩ | ⟨busy, rfl⟩
  · exact .of_same enabled queue rxSame idleSame
  · exact .of_busy enabled (by rw [queue]) (by rw [queue]) busy rfl

theorem hear_work {leave : List Leave} (d : Bool) (s : State) : Work leave s (hear d s) := by
  refine .after (.lkc { s with pending := (hear d s).pending } (hear d s).lkc ?_) (.aside s ..)
  show Lkc.Tidied s.lkc (if s.lkc.enabled then (s.lkc.clocked (bitClocks s.linkRate) d).1 else s.lkc)
  split
  · exact clocked_tidied ..
  · exact .of_same rfl rfl rfl rfl

/-- How a step comes about: the front command taken, a part clock heard, or nothing (log 2). -/
theorem step_cases {s t : State} (h : step s = .next t) :
    (∃ c rest, s.pending = c :: rest ∧ exec c { s with pending := rest } = .next t) ∨
      (∃ d rest, s.pending = [] ∧ s.pair = d :: rest ∧ t = hear d { s with pair := rest }) ∨
        s.pending = [] ∧ s.pair = [] ∧ t = s := by
  unfold step at h
  split at h
  next c rest pending => exact .inl ⟨c, rest, pending, h⟩
  next pending =>
    split at h
    next d rest pair => exact .inr (.inl ⟨d, rest, pending, pair, (Host.Outcome.next.inj h).symm⟩)
    next pair => exact .inr (.inr ⟨pending, pair, (Host.Outcome.next.inj h).symm⟩)

end Sys2Proof.Machine
end

/-! PROOFS. The invariants of R174, R23 and R131 through every piece of work and through the resets. -/
section
namespace Sys2Proof.Machine

section
variable {leave : List Leave} {s t : State}

/-! ### What becomes held (R172) -/

theorem tripHeld_iff (s : State) : tripHeld s = true ↔ ∃ c ∈ s.pru.held, tripClass s.params c = true := by
  simp [tripHeld]

theorem tripHeld_hold (c : Condition) (s : State) :
    tripHeld (hold c s) = true ↔ tripHeld s = true ∨ tripClass s.params c = true := by
  simp only [tripHeld_iff, hold_params, held_hold]
  constructor
  · rintro ⟨d, rfl | held, trips⟩
    · exact .inr trips
    · exact .inl ⟨d, held, trips⟩
  · rintro (⟨d, held, trips⟩ | trips)
    · exact ⟨d, .inr held, trips⟩
    · exact ⟨c, .inl rfl, trips⟩

theorem tripHeld_congr (pru : t.pru = s.pru) (params : t.params = s.params) : tripHeld t = tripHeld s := by
  rw [tripHeld, tripHeld, pru, params]

theorem submit_pru (f : Frame) (s : State) : (submit f s).pru = s.pru ∨ (submit f s).pru = (hold .linkOverrun s).pru := by
  unfold submit
  dsimp only
  split
  · exact .inr rfl
  · exact .inl rfl

/-- A frame submitted holds at most LINK_OVERRUN, an alarm (R53). -/
theorem tripHeld_submit (f : Frame) (s : State) : tripHeld (submit f s) = tripHeld s := by
  have same (p : Pru) (h : (submit f s).pru = p) : tripHeld (submit f s) = tripHeld { s with pru := p } := by
    unfold tripHeld
    rw [h, submit_params]
  rcases submit_pru f s with h | h
  · exact same _ h
  · rw [same _ h, Bool.eq_iff_iff]
    exact (tripHeld_hold .linkOverrun s).trans (or_iff_left nofun)

/-! ### States entered, gates and contactor -/

@[simp] theorem commandContactor_open (s : State) : (commandContactor false s).syn.cmdClosed = false := by
  simp only [commandContactor, Syn.command]
  split
  next h => exact h
  next => rfl

theorem moveTo_cmdClosed (new : StationState) (s : State) : (moveTo new s).syn.cmdClosed = s.syn.cmdClosed :=
  moved_cmdClosed ..

@[simp] theorem gatesOff_gate (s : State) : (gatesOff s).mod.gate = .gatesOff := by
  simp only [gatesOff]
  split
  next h => exact h
  next => rfl

theorem enterTripped_atRest (s : State) : AtRest (enterTripped s) :=
  ⟨gatesOff_gate s, (moveTo_cmdClosed .tripped _).trans (commandContactor_open _)⟩

theorem enterClosing_atRest (s : State) : AtRest (enterClosing s) :=
  ⟨gatesOff_gate s, (moveTo_cmdClosed .closing _).trans (commandContactor_open _)⟩

theorem enterClosing_pru (s : State) : (enterClosing s).pru = s.pru := by simp [enterClosing]
theorem enterClosing_params (s : State) : (enterClosing s).params = s.params := by simp [enterClosing]
theorem enterPrepared_pru (s : State) : (enterPrepared s).pru = s.pru := by simp [enterPrepared]

theorem enterStandby_atRest (s : State) : AtRest (enterStandby s) :=
  ⟨rfl, commandContactor_open { s with syn := (standbyStatus s.ssc.station (moveTo .standby (clearClosed s))).syn }⟩

theorem enterStandby_params (s : State) : (enterStandby s).params = s.params := by
  simp only [enterStandby, settled_params, standbyStatus]; split <;> rfl

theorem tripHeld_enterStandby (s : State) : tripHeld (enterStandby s) = tripHeld s := by
  show (standbyStatus s.ssc.station (moveTo .standby (clearClosed s))).pru.held.any (tripClass (enterStandby s).params) = _
  rw [enterStandby_params]
  unfold standbyStatus
  split
  · have := tripHeld_submit (statusFrame (moveTo .standby (clearClosed s))) (moveTo .standby (clearClosed s))
    rwa [tripHeld, submit_params, moveTo_params, clearClosed_params] at this
  · rfl

@[simp] theorem shipJudged_mod (s : State) : (shipJudged s).mod = s.mod := by unfold shipJudged; split <;> rfl
@[simp] theorem shipJudged_rfg (s : State) : (shipJudged s).rfg = s.rfg := by unfold shipJudged; split <;> rfl
@[simp] theorem shipJudged_pru (s : State) : (shipJudged s).pru = s.pru := by unfold shipJudged; split <;> rfl
@[simp] theorem shipJudged_params (s : State) : (shipJudged s).params = s.params := by unfold shipJudged; split <;> rfl
@[simp] theorem shipJudged_hoc (s : State) : (shipJudged s).hoc = s.hoc := by unfold shipJudged; split <;> rfl
@[simp] theorem shipJudged_cmdClosed (s : State) : (shipJudged s).syn.cmdClosed = s.syn.cmdClosed := by
  unfold shipJudged; split <;> rfl

@[simp] theorem enterShipSync_mod (s : State) : (enterShipSync s).mod = s.mod := by simp [enterShipSync]
@[simp] theorem enterShipSync_rfg (s : State) : (enterShipSync s).rfg = s.rfg := by simp [enterShipSync]
@[simp] theorem enterShipSync_pru (s : State) : (enterShipSync s).pru = s.pru := by simp [enterShipSync]
@[simp] theorem enterShipSync_params (s : State) : (enterShipSync s).params = s.params := by simp [enterShipSync]
@[simp] theorem enterShipSync_station (s : State) : (enterShipSync s).ssc.station = .shipSync := by simp [enterShipSync, moveTo]
theorem enterShipSync_cmdClosed (s : State) : (enterShipSync s).syn.cmdClosed = s.syn.cmdClosed :=
  (shipJudged_cmdClosed _).trans (moved_cmdClosed ..)

/-! ### R174 -/

/-- A change that keeps phase, station, gates and contactor command, and holds no further trip-class condition. -/
theorem TripInv.of_same (inv : TripInv s) (phase : t.phase = s.phase) (station : t.ssc.station = s.ssc.station)
    (gate : t.mod.gate = s.mod.gate) (command : t.syn.cmdClosed = s.syn.cmdClosed)
    (held : tripHeld t = true → tripHeld s = true) : TripInv t := by
  obtain ⟨rest, trips⟩ := inv
  constructor
  · intro quiet
    rw [phase, station] at quiet
    rw [AtRest, gate, command]
    exact rest quiet
  · intro run heldNow
    rw [station]
    exact trips (phase ▸ run) (held heldNow)

/-- A change between two states that hold no trip-class condition while they run. -/
theorem TripInv.of_moved (inv : TripInv s) (from_ : s.ssc.station.quiet = false ∨ s.ssc.station = .standby)
    (phase : t.phase = s.phase) (loud : t.ssc.station.quiet = false) (gate : t.mod.gate = s.mod.gate)
    (command : t.syn.cmdClosed = s.syn.cmdClosed) (held : tripHeld t = tripHeld s) : TripInv t := by
  obtain ⟨rest, trips⟩ := inv
  constructor
  · rintro (low | quiet)
    · rw [AtRest, gate, command]
      exact rest (.inl (phase ▸ low))
    · rw [loud] at quiet; cases quiet
  · intro run heldNow
    rcases trips (phase ▸ run) (held ▸ heldNow) with h | h | h <;> rw [h] at from_ <;> rcases from_ with f | f <;> cases f

/-- A station at rest that runs with a trip-class condition held stands in STARTING, INVALID or TRIPPED. -/
theorem TripInv.of_rest (rest : AtRest t) (trips : t.phase = .run → tripHeld t = true →
    t.ssc.station = .starting ∨ t.ssc.station = .invalid ∨ t.ssc.station = .tripped) : TripInv t :=
  ⟨fun _ => rest, trips⟩

theorem serving_loud {x : StationState} (serving : x.serving = true) : x.quiet = false := by
  cases x <;> first | rfl | cases serving

/-- Outside a gate start the period work leaves gates that are off. -/
theorem periodWork_gate (off : s.mod.gate = .gatesOff) (still : gateStart s = false) : (periodWork s).mod.gate = .gatesOff := by
  simp [periodWork, off, still]

theorem gateStart_iff (s : State) :
    gateStart s = true ↔ s.phase = .run ∧ s.ssc.station = .prepared ∧ s.mod.gate = .gatesOff ∧ tripHeld s = false := by
  simp [gateStart, and_assoc]

theorem Work.keeps_tripInv (w : Work leave s t) : TripInv s → TripInv t := by
  induction w with
  | trans _ _ first second => exact fun inv => second (first inv)
  | submit f s => exact fun inv => inv.of_same rfl rfl rfl rfl fun h => (tripHeld_submit f s) ▸ h
  | hold c s quiet =>
    intro inv
    refine ⟨inv.1, fun run held => ?_⟩
    by_contra others
    have safe : ¬ tripHeld s = true := fun h => others (inv.2 run h)
    have trips := ((tripHeld_hold c s).mp held).resolve_left safe
    refine quiet ⟨?_, trips, ?_⟩
    · rw [Bool.eq_false_iff]
      exact fun had => safe ((tripHeld_iff s).mpr ⟨c, by simpa [isHeld] using had, trips⟩)
    · rw [canTrip_iff]
      push Not at others
      exact ⟨run, others⟩
  | cause s p same => exact fun inv => inv.of_same rfl rfl rfl rfl fun h => by rwa [tripHeld, same] at h
  | clear s =>
    exact fun inv => inv.of_same rfl rfl rfl rfl fun h => by
      obtain ⟨c, held, trips⟩ := (tripHeld_iff _).mp h
      exact (tripHeld_iff s).mpr ⟨c, (List.mem_filter.mp held).1, trips⟩
  | tripped s p => exact fun _ => .of_rest (enterTripped_atRest _) fun _ _ => .inr (.inr rfl)
  | params s p _ starting => exact fun inv => ⟨inv.1, fun _ _ => .inl starting⟩
  | drive s =>
    refine fun inv => ⟨fun quiet => ?_, inv.2⟩
    obtain ⟨off, opened⟩ := inv.1 quiet
    refine ⟨periodWork_gate off (Bool.eq_false_iff.mpr fun start => ?_), opened⟩
    obtain ⟨run, prepared, -⟩ := (gateStart_iff s).mp start
    rcases quiet with low | quiet
    · exact low run
    · rw [show (periodWork s).ssc.station = .prepared from prepared] at quiet; cases quiet
  | syn s y aside =>
    exact fun inv => inv.of_same rfl rfl rfl aside.1 id
  | openContactor s =>
    exact fun inv => ⟨fun quiet => ⟨(inv.1 quiet).1, commandContactor_open s⟩, inv.2⟩
  | closeContactor s _ run joining =>
    refine fun inv => ⟨?_, inv.2⟩
    rintro (low | quiet)
    · exact absurd run low
    · rw [show (orderContactor true s).ssc.station = .joining from joining] at quiet; cases quiet
  | shipJudged s =>
    exact fun inv => inv.of_same (shipJudged_phase s) (by rw [shipJudged_ssc]) (by rw [shipJudged_mod])
      (shipJudged_cmdClosed s) fun h => by rwa [tripHeld, shipJudged_pru, shipJudged_params] at h
  | serve s new y c h serving serves other command =>
    exact fun inv => inv.of_moved (.inl (serving_loud serving)) rfl (serving_loud serves) rfl command rfl
  | seek s online =>
    exact fun inv => inv.of_moved (.inl (by rw [online]; rfl)) (enterShipSync_phase s) (by rw [enterShipSync_station]; rfl)
      (by rw [enterShipSync_mod]) (enterShipSync_cmdClosed s)
      (by rw [tripHeld, tripHeld, enterShipSync_pru, enterShipSync_params])
  | wake s standby =>
    exact fun inv => inv.of_moved (.inr standby) rfl rfl rfl (moveTo_cmdClosed .prepared s)
      (tripHeld_congr (enterPrepared_pru s) rfl)
  | closing s serving =>
    refine fun inv => .of_rest (enterClosing_atRest _) fun run held => ?_
    rw [enterClosing_phase] at run
    rw [tripHeld_congr (enterClosing_pru _) (enterClosing_params _)] at held
    rcases inv.2 run held with h | h | h <;> rw [h] at serving <;> cases serving
  | standby s origin safe =>
    refine fun inv => .of_rest (enterStandby_atRest s) fun run held => ?_
    rw [tripHeld_enterStandby] at held
    rw [enterStandby_phase] at run
    rcases safe with none | closing
    · rw [none] at held; cases held
    · rcases inv.2 run held with h | h | h <;> rw [closing] at h <;> cases h
  | _ => exact id

/-! ### R23 and R131 -/

theorem clamp_bounds {lo hi : Int} (range : lo ≤ hi) (x : Int) : lo ≤ clamp lo hi x ∧ clamp lo hi x ≤ hi := by
  unfold clamp
  split_ifs <;> omega

theorem rateStep_bounds {lo hi r prev target : Int} (forward : 1 ≤ r) (prev_in : lo ≤ prev ∧ prev ≤ hi)
    (target_in : lo ≤ target ∧ target ≤ hi) : lo ≤ rateStep r prev target ∧ rateStep r prev target ≤ hi := by
  unfold rateStep
  split_ifs <;> omega

theorem fBase_bounds (s : State) : 45000000 ≤ fBase s ∧ fBase s ≤ 65000000 := by
  unfold fBase
  split
  · split <;> decide
  · decide

theorem rfgWork_bounds (start : Bool) (inv : FrequencyLaw s) :
    45000000 ≤ (rfgWork start s).fRef ∧ (rfgWork start s).fRef ≤ 65000000 := by
  obtain ⟨low, high, forward⟩ := inv
  show _ ≤ (if start = true then fBase s else rateStep s.params.rate (if start = true then fBase s else s.rfg.fRef)
    (freqClamped s)) ∧ _
  split
  · simpa [rfgWork, *] using fBase_bounds s
  next going =>
    have := rateStep_bounds forward ⟨low, high⟩ (clamp_bounds (by decide) (freqTarget s))
    simpa [rfgWork, going, freqClamped] using this

theorem gatesOff_fRef (s : State) : (gatesOff s).rfg.fRef = s.rfg.fRef := by
  simp only [gatesOff]
  split <;> rfl

/-- A change that leaves the frequency reference and the parameters. -/
theorem FrequencyLaw.of_same (inv : FrequencyLaw s) (fRef : t.rfg.fRef = s.rfg.fRef) (params : t.params = s.params) :
    FrequencyLaw t := by
  rw [FrequencyLaw, fRef, params]
  exact inv

theorem Work.keeps_frequencyLaw (w : Work leave s t) : FrequencyLaw s → FrequencyLaw t := by
  induction w with
  | trans _ _ first second => exact fun inv => second (first inv)
  | tripped s p => exact fun inv => inv.of_same (gatesOff_fRef _) (enterTripped_params _)
  | closing s => exact fun inv => inv.of_same (gatesOff_fRef _) (enterClosing_params _)
  | params s p _ _ rate => exact fun inv => ⟨inv.1, inv.2.1, rate⟩
  | drive s =>
    intro inv
    have worked := rfgWork_bounds (gateStart s) inv
    refine ⟨?_, ?_, inv.2.2⟩ <;> simp only [periodWork] <;> split
    · exact worked.1
    · exact inv.1
    · exact worked.2
    · exact inv.2.1
  | shipJudged s => exact fun inv => inv.of_same (by rw [shipJudged_rfg]) (shipJudged_params s)
  | seek s => exact fun inv => inv.of_same (by rw [enterShipSync_rfg]) (enterShipSync_params s)
  | standby s =>
    exact fun inv => ⟨show (45000000 : Int) ≤ 50000000 by decide, show (50000000 : Int) ≤ 65000000 by decide, by rw [enterStandby_params]; exact inv.2.2⟩
  | _ => exact id

theorem targetLaw_iff (s : State) : TargetLaw s ↔ s.hoc.Within ∧ 1 ≤ s.params.ramp := and_assoc.symm

@[simp] theorem enterShipSync_hoc (s : State) : (enterShipSync s).hoc = s.hoc.moved s.ssc.station .shipSync := by
  simp [enterShipSync, moveTo]

theorem Work.keeps_targetLaw (w : Work leave s t) : TargetLaw s → TargetLaw t := by
  simp only [targetLaw_iff]
  induction w with
  | trans _ _ first second => exact fun inv => second (first inv)
  | tripped s p => exact fun inv => ⟨moved_within inv.1, by rw [enterTripped_params]; exact inv.2⟩
  | closing s => rw [enterClosing_params]; exact fun inv => ⟨moved_within inv.1, inv.2⟩
  | params s p _ _ _ ramp => exact fun inv => ⟨inv.1, ramp⟩
  | shipJudged s => rw [shipJudged_hoc, shipJudged_params]; exact id
  | seek s => rw [enterShipSync_hoc, enterShipSync_params]; exact fun inv => ⟨moved_within inv.1, inv.2⟩
  | hoc s h keeps => exact fun inv => ⟨keeps inv.2 inv.1, inv.2⟩
  | serve s new y c h _ _ _ _ _ within => exact fun inv => ⟨within inv.1, inv.2⟩
  | wake s => exact fun inv => ⟨moved_within inv.1, inv.2⟩
  | standby s => rw [enterStandby_params]; exact fun inv => ⟨Hoc.initial_within, inv.2⟩
  | _ => exact id

end

end Sys2Proof.Machine
end

/-! PROOFS. The invariants of R52, R40, R63, R88, R122, R147 and of the record store through every piece of work. -/
section
namespace Sys2Proof.Machine

section
variable {leave : List Leave} {s t : State}

/-! ### R52 and R40 -/

/-- R52's law and R40's of one LKC. -/
def Lkc.Queued (l : Lkc) : Prop := l.queue.length ≤ 8 ∧ (l.queue.countP fun e => e.frame.isStatus) ≤ 1

/-- R40's law of one LKC. -/
def Lkc.Linked (l : Lkc) : Prop := l.linkIdle = true ↔ l.rx = .idle

/-- A change of LKC that keeps both laws. -/
def Lkc.KeepsLaws (old new : Lkc) : Prop := (old.Queued → new.Queued) ∧ (old.Linked → new.Linked)

theorem Lkc.KeepsLaws.trans {a b c : Lkc} (first : a.KeepsLaws b) (second : b.KeepsLaws c) : a.KeepsLaws c :=
  ⟨fun h => second.1 (first.1 h), fun h => second.2 (first.2 h)⟩

theorem Lkc.Tidied.keepsLaws {old new : Lkc} (tidied : Lkc.Tidied old new) : old.KeepsLaws new := by
  obtain ⟨-, length, status, link⟩ := tidied
  refine ⟨fun law => ⟨length.trans law.1, status.trans law.2⟩, fun law => ?_⟩
  rcases link with ⟨rx, idle⟩ | linked
  · rw [Lkc.Linked, rx, idle]; exact law
  · exact linked

theorem dropOldestLog_sublist {q r : List TxEntry} (h : dropOldestLog q = some r) : r.Sublist q := by
  induction q generalizing r with
  | nil => cases h
  | cons e rest ih =>
    unfold dropOldestLog at h
    split at h
    · obtain rfl := Option.some.inj h
      exact List.sublist_cons_self ..
    · obtain ⟨q, left, rfl⟩ := Option.map_eq_some_iff.mp h
      exact (ih left).cons_cons e

theorem replaceStatus_status {f : Frame} (status : f.isStatus = true) (q : List TxEntry) :
    ((replaceStatus f q).countP fun e => e.frame.isStatus) = q.countP fun e => e.frame.isStatus :=
  countP_status_map (f := fun e => if e.frame.isStatus then { e with frame := f, retry := 0 } else e) (fun e => by
    split
    next h => rw [h]; exact status
    next => rfl) q

/-- A frame that joins at the tail: within 8 entries, and no second status broadcast (R52). -/
theorem joined_queued {l : Lkc} {q : List TxEntry} (f : Frame) (law : l.Queued) (room : q.length < 8)
    (sub : q.Sublist l.queue) (single : (f.isStatus && l.queue.any fun e => e.frame.isStatus) = false) :
    (q ++ [({ frame := f, retry := 0, inAttempt := false } : TxEntry)]).length ≤ 8 ∧
      ((q ++ [({ frame := f, retry := 0, inAttempt := false } : TxEntry)]).countP fun e => e.frame.isStatus) ≤ 1 := by
  refine ⟨by simpa using room, ?_⟩
  have fewer := (sub.countP_le (p := fun e => e.frame.isStatus)).trans law.2
  rw [List.countP_append, List.countP_singleton]
  cases status : f.isStatus with
  | false => simpa [status] using fewer
  | true =>
    rw [status, Bool.true_and, List.any_eq_false] at single
    have none : (l.queue.countP fun e => e.frame.isStatus) = 0 :=
      List.countP_eq_zero.mpr fun e h => by simpa using single e h
    have := (sub.countP_le (p := fun e => e.frame.isStatus)).trans_eq none
    simpa [status] using this

theorem enqueue_keepsLaws (listening : Bool) (f : Frame) (l : Lkc) : l.KeepsLaws (l.enqueue listening f).1 := by
  unfold Lkc.enqueue
  split_ifs with disabled refused replaced few room
  · exact ⟨id, id⟩
  · exact ⟨id, id⟩
  · rw [Bool.and_eq_true] at replaced
    exact ⟨fun law => ⟨(replaceStatus_length f _).trans_le law.1, (replaceStatus_status replaced.1 _).trans_le law.2⟩, id⟩
  · exact ⟨id, id⟩
  · exact ⟨fun law => joined_queued f law room (List.Sublist.refl _) (Bool.not_eq_true _ ▸ replaced), id⟩
  · split
    next q dropped =>
      refine ⟨fun law => joined_queued f law ?_ (dropOldestLog_sublist dropped) (Bool.not_eq_true _ ▸ replaced), id⟩
      have := dropOldestLog_length dropped
      have := law.1
      omega
    next => exact ⟨id, id⟩

theorem movedLkc_keepsLaws (old : StationState) (l : Lkc) : l.KeepsLaws (if old = .joining then l.dropClaim else l) := by
  split
  · exact (dropClaim_tidied l).keepsLaws
  · exact ⟨id, id⟩

theorem enterStandby_lkc (s : State) :
    (enterStandby s).lkc = (standbyStatus s.ssc.station (moveTo .standby (clearClosed s))).lkc.dropClaim := by
  simp only [enterStandby, settled_lkc]

theorem standbyStatus_keepsLaws (s : State) :
    s.lkc.KeepsLaws (standbyStatus s.ssc.station (moveTo .standby (clearClosed s))).lkc := by
  have moved : s.lkc.KeepsLaws (moveTo .standby (clearClosed s)).lkc := movedLkc_keepsLaws s.ssc.station s.lkc
  unfold standbyStatus
  split
  · exact moved.trans (enqueue_keepsLaws ..)
  · exact moved

theorem Work.keeps_lkc (w : Work leave s t) : s.lkc.KeepsLaws t.lkc := by
  induction w with
  | trans _ _ first second => exact first.trans second
  | lkc s l tidied => exact tidied.keepsLaws
  | submit f s => exact enqueue_keepsLaws ..
  | tripped s p => rw [enterTripped_lkc]; exact movedLkc_keepsLaws ..
  | serve s new => exact movedLkc_keepsLaws ..
  | seek s => rw [enterShipSync_lkc]; exact movedLkc_keepsLaws ..
  | wake s => exact movedLkc_keepsLaws ..
  | closing s => rw [enterClosing_lkc]; exact movedLkc_keepsLaws ..
  | standby s =>
    rw [enterStandby_lkc]
    exact (standbyStatus_keepsLaws s).trans (dropClaim_tidied _).keepsLaws
  | shipJudged s => rw [shipJudged_lkc]; exact ⟨id, id⟩
  | _ => exact ⟨id, id⟩

/-! ### R63 -/

/-- A change that keeps address, LKC's enabling and phase, keeps the entries or clears them, and leaves INVALID alone. -/
theorem ViewInv.of_same (inv : ViewInv s) (addr : t.addr = s.addr) (enabled : t.lkc.enabled = s.lkc.enabled)
    (phase : t.phase = s.phase) (peers : t.pvw.peers = s.pvw.peers ∨ t.pvw.peers = [])
    (valid : t.ssc.station ≠ .invalid → s.ssc.station ≠ .invalid) : ViewInv t := by
  obtain ⟨rising, stations, own⟩ := inv
  unfold ViewInv
  rw [addr, enabled, phase]
  rcases peers with same | none
  · rw [same]
    refine ⟨rising, stations, ?_⟩
    rintro (on | held | low | ⟨run, station⟩)
    · exact own (.inl on)
    · exact own (.inr (.inl held))
    · exact own (.inr (.inr (.inl low)))
    · exact own (.inr (.inr (.inr ⟨run, valid station⟩)))
  · rw [none]
    refine ⟨List.Pairwise.nil, fun _ h => absurd h List.not_mem_nil, ?_⟩
    rintro (on | held | low | ⟨run, station⟩)
    · exact own (.inl on)
    · exact absurd rfl held
    · exact own (.inr (.inr (.inl low)))
    · exact own (.inr (.inr (.inr ⟨run, valid station⟩)))

theorem ViewInv.of_peers {ps : List Peer} (inv : ViewInv s) (kept : ViewKept s ps) : ViewInv (withPeers ps s) := by
  obtain ⟨rising, stations, own⟩ := inv
  refine ⟨kept.1 rising, fun e h => ?_, fun valid => ?_⟩
  · rcases kept.2 e h with ⟨x, member, same⟩ | ⟨station, other, -⟩
    · rw [← same]; exact stations x member
    · exact ⟨station, other⟩
  · rcases valid with on | held | rest
    · exact own (.inl on)
    · obtain ⟨e, h⟩ := List.exists_mem_of_ne_nil _ held
      rcases kept.2 e h with ⟨x, member, -⟩ | ⟨-, -, on⟩
      · exact own (.inr (.inl (List.ne_nil_of_mem member)))
      · exact own (.inl on)
    · exact own (.inr (.inr rest))

theorem moveTo_peers (new : StationState) (s : State) : (moveTo new s).pvw.peers = s.pvw.peers := by
  simp only [moveTo]
  split <;> rfl

theorem serving_valid {x : StationState} (serving : x.serving = true) : x ≠ .invalid := by
  rintro rfl
  cases serving

@[simp] theorem shipJudged_pvw (s : State) : (shipJudged s).pvw = s.pvw := by unfold shipJudged; split <;> rfl

theorem enterShipSync_peers (s : State) : (enterShipSync s).pvw.peers = s.pvw.peers := by
  simp only [enterShipSync, settled_pvw, shipJudged_pvw]
  exact moveTo_peers ..

/-- The pieces of work that leave the entries of the view, or clear them. -/
theorem Work.keeps_viewInv (w : Work leave s t) : ViewInv s → ViewInv t := by
  induction w with
  | trans _ _ first second => exact fun inv => second (first inv)
  | lkc s l tidied => exact fun inv => inv.of_same rfl tidied.1 rfl (.inl rfl) id
  | submit f s => exact fun inv => inv.of_same rfl (submit_enabled f s) rfl (.inl rfl) id
  | cadence s v peers => exact fun inv => inv.of_same rfl rfl rfl (.inl peers) id
  | peers s ps kept => exact fun inv => inv.of_peers kept
  | tripped s p run valid grows =>
    exact fun inv => inv.of_same (enterTripped_addr _) (Work.tripped (leave := leave) s p run valid grows).enabled
      (enterTripped_phase _) (.inl (moveTo_peers .tripped _)) fun _ => valid
  | serve s new y c h serving =>
    exact fun inv => inv.of_same rfl (moveTo_enabled new s) rfl (.inl (moveTo_peers new s)) fun _ => serving_valid serving
  | seek s online =>
    exact fun inv => inv.of_same (enterShipSync_addr s) (Work.seek (leave := leave) s online).enabled (enterShipSync_phase s)
      (.inl (enterShipSync_peers s)) fun _ => by rw [online]; decide
  | wake s standby held =>
    exact fun inv => inv.of_same rfl (moveTo_enabled .prepared s) rfl (.inl (moveTo_peers .prepared s)) fun _ => by
      rw [standby]; decide
  | closing s serving =>
    exact fun inv => inv.of_same (enterClosing_addr _) (Work.closing (leave := leave) s serving).enabled (enterClosing_phase _)
      (.inl (moveTo_peers .closing _)) fun _ => serving_valid serving
  | standby s origin safe =>
    exact fun inv => inv.of_same (enterStandby_addr s) (Work.standby (leave := leave) s origin safe).enabled
      (enterStandby_phase s) (.inr rfl) fun _ => by rcases origin with h | h | h <;> rw [h] <;> decide
  | shipJudged s =>
    exact fun inv => inv.of_same (shipJudged_addr s) (by rw [shipJudged_lkc]) (shipJudged_phase s)
      (.inl (by rw [shipJudged_pvw])) (by rw [shipJudged_ssc]; exact id)
  | _ => exact id

end

end Sys2Proof.Machine
end

/-! PROOFS. The invariants of R88, R122, R147 and of the record store through every piece of work. -/
section
namespace Sys2Proof.Machine

section
variable {leave : List Leave} {s t : State}

/-! ### R88 -/

/-- A change that leaves the context and whether the meter's fields exist, the station serving only where it was. -/
theorem SessionInv.of_same (inv : SessionInv s) (session : t.ssc.session = s.ssc.session) (meter : t.emt.isSome = s.emt.isSome)
    (serving : t.ssc.station.serving = true → s.ssc.station.serving = true)
    (closing : s.ssc.station = .closing → t.ssc.station = .closing ∨ s.ssc.session = none ∨ sessionOpen s = true) :
    SessionInv t := by
  obtain ⟨open_, closed, fields⟩ := inv
  refine ⟨fun serves => ?_, fun c held shut => ?_, by rw [meter, session]; exact fields⟩
  · rw [sessionOpen, session]; exact open_ (serving serves)
  · rw [session] at held
    rcases closing (closed c held shut) with stays | none | opened
    · exact stays
    · rw [none] at held; cases held
    · rw [sessionOpen, held] at opened
      rw [show c.opened = true from opened] at shut
      cases shut

/-- A station that holds no CLOSED context. -/
theorem SessionInv.of_open (session : ∀ c, t.ssc.session = some c → c.opened = true)
    (fields : t.emt.isSome = t.ssc.session.isSome) (serving : t.ssc.station.serving = true → t.ssc.session.isSome = true) :
    SessionInv t := by
  refine ⟨fun serves => ?_, fun c held shut => ?_, fields⟩
  · obtain ⟨c, held⟩ := Option.isSome_iff_exists.mp (serving serves)
    rw [sessionOpen, held]
    exact session c held
  · rw [session c held] at shut; cases shut

/-- A station outside CLOSING holds no CLOSED context (R88). -/
theorem SessionInv.open_of_not_closing (inv : SessionInv s) (other : s.ssc.station ≠ .closing) :
    ∀ c, s.ssc.session = some c → c.opened = true := by
  intro c held
  by_contra shut
  exact other (inv.2.1 c held (Bool.eq_false_iff.mpr shut))

theorem clearClosed_session (s : State) (c : Session) :
    (clearClosed s).ssc.session = some c ↔ s.ssc.session = some c ∧ c.opened = true := by
  cases held : s.ssc.session with
  | none => simp [clearClosed, held]
  | some x =>
    cases opened : x.opened with
    | false => simpa [clearClosed, held, opened] using fun same : x = c => same ▸ opened
    | true => simpa [clearClosed, held, opened] using fun same : x = c => same ▸ opened

theorem clearClosed_fields (fields : s.emt.isSome = s.ssc.session.isSome) :
    (clearClosed s).emt.isSome = (clearClosed s).ssc.session.isSome := by
  cases held : s.ssc.session with
  | none => simpa [clearClosed, held] using fields
  | some x => cases opened : x.opened <;> simp [clearClosed, held, opened, fields]

theorem enterTripped_session (s : State) : (enterTripped s).ssc.session = (clearClosed s).ssc.session := rfl

theorem enterTripped_meter (s : State) : (enterTripped s).emt.isSome = (clearClosed s).emt.isSome := by
  simp only [enterTripped, settled_emt, Option.isSome_map]
  rfl

theorem standbyStatus_ssc (was : StationState) (s : State) : (standbyStatus was s).ssc = s.ssc := by
  unfold standbyStatus; split <;> rfl
theorem standbyStatus_emt (was : StationState) (s : State) : (standbyStatus was s).emt = s.emt := by
  unfold standbyStatus; split <;> rfl

theorem enterStandby_session (s : State) : (enterStandby s).ssc.session = (clearClosed s).ssc.session := by
  simp only [enterStandby, settled_ssc, standbyStatus_ssc]
  rfl

theorem enterStandby_emt (s : State) : (enterStandby s).emt = (clearClosed s).emt := by
  simp only [enterStandby, settled_emt, standbyStatus_emt]
  rfl

theorem submitRecord_meter (r : LogRecord) (id : Option SessionId) (s : State) :
    (submitRecord r id s).emt.isSome = s.emt.isSome := by
  simp only [submitRecord, countDropped]
  split_ifs <;> simp

@[simp] theorem enterShipSync_session (s : State) : (enterShipSync s).ssc.session = s.ssc.session := by
  simp [enterShipSync, moveTo]
@[simp] theorem shipJudged_emt (s : State) : (shipJudged s).emt = s.emt := by unfold shipJudged; split <;> rfl
@[simp] theorem enterShipSync_emt (s : State) : (enterShipSync s).emt = s.emt := by simp [enterShipSync]

theorem enterClosing_emt (s : State) : (enterClosing s).emt = s.emt := by simp [enterClosing]
theorem enterClosing_session (s : State) : (enterClosing s).ssc.session = s.ssc.session := by simp [enterClosing, moveTo]

theorem serving_not_closing {x : StationState} (serving : x.serving = true) : x ≠ .closing := by
  rintro rfl
  cases serving

theorem integrate_meter (p : Int) (s : State) : (integrate p s).emt.isSome = s.emt.isSome := by
  simp only [integrate]
  split
  · exact Option.isSome_map
  · rfl

theorem SessionInv.renewed {f : Session → Session} (inv : SessionInv s)
    (keeps : ∀ c, (f c).opened = c.opened ∧ (f c).id = c.id) :
    SessionInv { s with ssc := { s.ssc with session := s.ssc.session.map f } } := by
  obtain ⟨open_, closed, fields⟩ := inv
  cases held : s.ssc.session with
  | none =>
    refine ⟨fun serves => ?_, fun c h => absurd h nofun, by simpa [held] using fields⟩
    have opened := open_ serves
    rw [sessionOpen, held] at opened
    cases opened
  | some c =>
    refine ⟨fun serves => ?_, fun x h shut => ?_, by simpa [held] using fields⟩
    · have opened := open_ serves
      rw [sessionOpen, held] at opened
      exact ((keeps c).1).trans opened
    · obtain rfl := Option.some.inj h
      exact closed c held ((keeps c).1 ▸ shut)

theorem Work.keeps_sessionInv (w : Work leave s t) : SessionInv s → SessionInv t := by
  induction w with
  | trans _ _ first second => exact fun inv => second (first inv)
  | record r owner s => exact fun inv => inv.of_same rfl (submitRecord_meter r owner s) id .inl
  | tripped s p =>
    refine fun inv => .of_open (fun c held => ?_) ?_ nofun
    · rw [enterTripped_session] at held
      exact ((clearClosed_session _ c).mp held).2
    · rw [enterTripped_session, enterTripped_meter]
      exact clearClosed_fields (s := { s with pru := p }) inv.2.2
  | shipJudged s =>
    exact fun inv => inv.of_same (by rw [shipJudged_ssc]) (by rw [shipJudged_emt]) (by rw [shipJudged_ssc]; exact id)
      (by rw [shipJudged_ssc]; exact .inl)
  | serve s new y c h serving =>
    exact fun inv => inv.of_same rfl rfl (fun _ => serving) fun closing => absurd closing (serving_not_closing serving)
  | seek s online =>
    exact fun inv => inv.of_same (enterShipSync_session s) (by rw [enterShipSync_emt]) (fun _ => by rw [online]; rfl)
      fun closing => by rw [online] at closing; cases closing
  | wake s standby held =>
    exact fun inv => .of_open (inv.open_of_not_closing (by rw [standby]; decide)) inv.2.2 fun _ => held
  | closing s =>
    refine fun inv => ⟨fun serves => ?_, fun _ _ _ => enterClosing_station _, ?_⟩
    · rw [enterClosing_station] at serves; cases serves
    · rw [enterClosing_emt, enterClosing_session, Option.isSome_map]
      exact inv.2.2
  | standby s =>
    refine fun inv => .of_open (fun c held => ?_) ?_ fun serves => ?_
    · rw [enterStandby_session] at held
      exact ((clearClosed_session s c).mp held).2
    · rw [enterStandby_session, enterStandby_emt]
      exact clearClosed_fields inv.2.2
    · rw [enterStandby_station] at serves; cases serves
  | meter s e same => exact fun inv => inv.of_same rfl same id .inl
  | integrate p s => exact fun inv => inv.of_same rfl (integrate_meter p s) id .inl
  | renew s f keeps => exact fun inv => inv.renewed keeps
  | session s c e _ standby fields opened =>
    refine fun _ => .of_open (fun x held => opened x held) fields fun serves => ?_
    rw [show s.ssc.station = .standby from standby] at serves
    cases serves
  | _ => exact id

/-! ### R122 -/

/-- Ready is set in SHIP_SYNC alone, after the dwell: the second half of `PermitInv`. -/
def ReadyLaw (s : State) : Prop :=
  s.syn.ready = true →
    s.phase = .run ∧ s.ssc.station = .shipSync ∧ ∃ t, s.syn.shipDwell = some t ∧ t + ms s.params.shipDwell ≤ s.now

/-- A state whose permit drive has just been set. -/
theorem PermitInv.of_set (s : State) (law : ReadyLaw s) : PermitInv (setPermit s) := ⟨rfl, law⟩

theorem PermitInv.of_settled (s : State) (law : ReadyLaw s) : PermitInv (settled s) := ⟨rfl, law⟩

theorem ReadyLaw.of_unready (unready : s.syn.ready = false) : ReadyLaw s := by
  intro ready
  rw [unready] at ready
  cases ready

/-- Ready ends with the change out of SHIP_SYNC (R123). -/
theorem PermitInv.unready_moved (inv : PermitInv s) {y : Syn}
    (ready : y.ready = true → s.syn.ready = true ∧ s.ssc.station ≠ .shipSync) : y.ready = false := by
  by_contra set
  obtain ⟨was, other⟩ := ready (by simpa using set)
  exact other (inv.2 was).2.1

theorem commandContactor_ready (closed : Bool) (s : State) : (commandContactor closed s).syn.ready = s.syn.ready := by
  simp only [commandContactor, Syn.command]
  split <;> rfl

theorem commandContactor_dwell (closed : Bool) (s : State) : (commandContactor closed s).syn.shipDwell = s.syn.shipDwell := by
  simp only [commandContactor, Syn.command]
  split <;> rfl

theorem commandContactor_readyLaw (closed : Bool) (law : ReadyLaw s) : ReadyLaw (commandContactor closed s) := by
  unfold ReadyLaw
  rw [commandContactor_ready, commandContactor_dwell]
  exact law

/-- After a change of state out of SHIP_SYNC or with ready clear, ready is clear. -/
theorem moveTo_unready (inv : PermitInv s) {u : State} (ready : u.syn.ready = s.syn.ready) (station : u.ssc.station = s.ssc.station)
    (new : StationState) : (moveTo new u).syn.ready = false := by
  by_contra set
  obtain ⟨was, other⟩ := moved_ready (old := u.ssc.station) (new := new) (y := u.syn) (by simpa [moveTo] using set)
  rw [station] at other
  exact other (inv.2 (ready ▸ was)).2.1

theorem shipJudged_keeps (inv : PermitInv s) : PermitInv (shipJudged s) := by
  unfold shipJudged
  split
  · refine .of_set _ fun ready => ?_
    have both : shipMet s = true ∧ s.syn.ready = true := by simpa [Syn.judgedShip] using ready
    obtain ⟨run, station, start, dwell, due⟩ := inv.2 both.2
    exact ⟨run, station, start, by simp [Syn.judgedShip, both.1, dwell], due⟩
  · exact inv

theorem enterShipSync_unready (s : State) : (enterShipSync s).syn.ready = false := by
  show (shipJudged { moveTo .shipSync s with
    syn := { (moveTo .shipSync s).syn with syncLimit := some s.now, shipDwell := none, ready := false } }).syn.ready = false
  unfold shipJudged
  split
  · show (shipMet _ && false) = false
    exact Bool.and_false _
  · rfl

theorem Work.keeps_permitInv (w : Work leave s t) : PermitInv s → PermitInv t := by
  induction w with
  | trans _ _ first second => exact fun inv => second (first inv)
  | clock s now later =>
    refine fun inv => ⟨inv.1, fun ready => ?_⟩
    obtain ⟨run, station, start, dwell, due⟩ := inv.2 ready
    exact ⟨run, station, start, dwell, due.trans later⟩
  | tripped s p =>
    refine fun inv => .of_settled _ (.of_unready ?_)
    exact moveTo_unready (u := commandContactor false (gatesOff { s with pru := p })) inv (commandContactor_ready ..) rfl _
  | params s p _ starting =>
    refine fun inv => ⟨inv.1, fun ready => ?_⟩
    have := (inv.2 ready).2.1
    rw [starting] at this
    cases this
  | syn s y aside =>
    obtain ⟨command, permit, ready, dwell⟩ := aside
    refine fun inv => ⟨?_, fun set => ?_⟩
    · show y.permit = _
      rw [permit, inv.1]
      simp only [permitRule, command, ready]
    · obtain ⟨run, station, start, held, due⟩ := inv.2 (ready ▸ set)
      exact ⟨run, station, start, dwell.trans held, due⟩
  | openContactor s => exact fun inv => .of_set _ (commandContactor_readyLaw false inv.2)
  | closeContactor s => exact fun inv => .of_set _ (commandContactor_readyLaw true inv.2)
  | ccAux s closed confirmed => exact fun inv => .of_set _ inv.2
  | shipJudged s => exact shipJudged_keeps
  | shipReady s start run station dwell due => exact fun _ => .of_set _ fun _ => ⟨run, station, start, dwell, due⟩
  | serve s new y c h _ _ _ _ ready =>
    exact fun inv => .of_settled _ (.of_unready (inv.unready_moved ready))
  | seek s => exact fun _ => ⟨rfl, ReadyLaw.of_unready (enterShipSync_unready s)⟩
  | wake s => exact fun inv => .of_settled _ (.of_unready (moveTo_unready inv rfl rfl .prepared))
  | closing s =>
    refine fun inv => .of_settled _ (.of_unready ?_)
    exact moveTo_unready (u := commandContactor false (gatesOff _)) inv (commandContactor_ready ..) rfl .closing
  | standby s => exact fun _ => .of_settled _ (.of_unready rfl)
  | _ => exact id

end

end Sys2Proof.Machine
end

/-! PROOFS. The balance of R147 and the law of the record store through every piece of work. -/
section
namespace Sys2Proof.Machine

section
variable {leave : List Leave} {s t : State}

/-! ### R147 -/

/-- A meter's fields as they were, none, or changed beside its energies. -/
theorem MeterLaw.of_sameEnergy (inv : MeterLaw s)
    (same : ∀ n, t.emt = some n → ∃ m, s.emt = some m ∧ (m.Balanced → n.Balanced)) : MeterLaw t := by
  intro n held
  obtain ⟨m, had, keeps⟩ := same n held
  exact keeps (inv m had)

theorem clearClosed_emt {n : Meter} (held : (clearClosed s).emt = some n) : s.emt = some n := by
  unfold clearClosed at held
  dsimp only at held
  split at held
  · split at held
    · exact held
    · cases held
  · exact held

theorem enterTripped_emt {n : Meter} (held : (enterTripped s).emt = some n) :
    ∃ m, s.emt = some m ∧ m.SameEnergy n := by
  simp only [enterTripped, settled_emt] at held
  obtain ⟨m, had, rfl⟩ := Option.map_eq_some_iff.mp held
  have had := clearClosed_emt had
  rw [moveTo_emt, commandContactor_emt, gatesOff_emt] at had
  exact ⟨m, had, Meter.sameEnergy_rfl rfl rfl rfl rfl rfl rfl⟩

theorem submitRecord_emt {r : LogRecord} {owner : Option SessionId} {n : Meter}
    (held : (submitRecord r owner s).emt = some n) : ∃ m, s.emt = some m ∧ m.SameEnergy n := by
  simp only [submitRecord, countDropped] at held
  split_ifs at held
  · exact ⟨n, held, Meter.sameEnergy_rfl rfl rfl rfl rfl rfl rfl⟩
  · obtain ⟨m, had, rfl⟩ := Option.map_eq_some_iff.mp held
    exact ⟨m, had, Meter.sameEnergy_rfl rfl rfl rfl rfl rfl rfl⟩
  · exact ⟨n, held, Meter.sameEnergy_rfl rfl rfl rfl rfl rfl rfl⟩

theorem Meter.add_balanced {m : Meter} (w : Int) (balanced : m.Balanced) : (m.add w).Balanced := by
  obtain ⟨fwd, rev⟩ := balanced
  simp only [Meter.Balanced, Meter.add]
  omega

theorem integrate_balanced (p : Int) (inv : MeterLaw s) : MeterLaw (integrate p s) := by
  intro n held
  simp only [Machine.integrate] at held
  split at held
  · obtain ⟨m, had, rfl⟩ := Option.map_eq_some_iff.mp held
    exact Meter.add_balanced _ (inv m had)
  · exact inv n held

theorem Work.keeps_meterLaw (w : Work leave s t) : MeterLaw s → MeterLaw t := by
  induction w with
  | trans _ _ first second => exact fun inv => second (first inv)
  | record r owner s =>
    exact fun inv => inv.of_sameEnergy fun n held => (submitRecord_emt held).imp fun m same => ⟨same.1, same.2.1⟩
  | tripped s p =>
    exact fun inv => inv.of_sameEnergy fun n held => (enterTripped_emt held).imp fun m same => ⟨same.1, same.2.1⟩
  | shipJudged s => rw [MeterLaw, MeterLaw, shipJudged_emt]; exact id
  | seek s => rw [MeterLaw, MeterLaw, enterShipSync_emt]; exact id
  | closing s => rw [MeterLaw, MeterLaw, enterClosing_emt]; exact id
  | standby s =>
    rw [MeterLaw, MeterLaw, enterStandby_emt]
    exact fun inv n held => inv n (clearClosed_emt held)
  | meter s e _ same =>
    exact fun inv => inv.of_sameEnergy fun n held => (same n held).imp fun m kept => ⟨kept.1, kept.2.1⟩
  | integrate p s => exact integrate_balanced p
  | session s c e _ _ _ _ balanced => exact fun _ => balanced
  | _ => exact id

/-! ### The record store -/

theorem placed_append {op : WriterOp} {q : List QueuedRecord} (more : List QueuedRecord) (placed : op.placed q) :
    op.placed (q ++ more) := by
  cases op with
  | record sector offset =>
    obtain ⟨r, head, fits⟩ := placed
    refine ⟨r, ?_, fits⟩
    obtain ⟨rest, rfl⟩ := List.head?_eq_some_iff.mp head
    rfl
  | logErase => exact List.append_ne_nil_of_left_ne_nil placed _
  | head => exact List.append_ne_nil_of_left_ne_nil placed _
  | _ => trivial

theorem submitRecord_storeInv {r : LogRecord} {owner : Option SessionId} (size : r.size ≤ 48) (inv : StoreInv s) :
    StoreInv (submitRecord r owner s) := by
  obtain ⟨fits, ⟨length, sizes, config⟩, placed, flight, kept⟩ := (storeInv_iff s).mp inv
  by_cases room : s.rwr.queue.length < 16
  · have queue : (submitRecord r owner s).rwr.queue = s.rwr.queue ++ [({
        record := r, session := owner
        stamp := if s.rwr.recovered then some s.rwr.recSeq else none } : QueuedRecord)] := by simp [submitRecord, room]
    refine (storeInv_iff _).mpr ⟨fits, ⟨?_, fun q member => ?_, config⟩, fun op h => ?_, fun op h => ?_, kept⟩
    · rw [queue, List.length_append]; exact room
    · rw [queue, List.mem_append, List.mem_singleton] at member
      rcases member with old | rfl
      · exact sizes q old
      · exact size
    · rw [queue]; exact placed_append _ (placed op h)
    · rw [queue]; exact placed_append _ (flight op h)
  · have queue : (submitRecord r owner s).rwr.queue = s.rwr.queue := by simp [submitRecord, room]
    refine (storeInv_iff _).mpr ⟨fits, ?_, ?_, ?_, kept⟩
    · rw [Rwr.Filled, queue]; exact ⟨length, sizes, config⟩
    · rw [Rwr.Placed, queue]; exact placed
    · rw [queue]; exact flight

/-- A change that leaves RWR, FPT, the memory and the phase. -/
theorem StoreInv.of_same (inv : StoreInv s) (rwr : t.rwr = s.rwr) (fpt : t.fpt = s.fpt) (mem : t.mem = s.mem)
    (phase : t.phase = s.phase) : StoreInv t := by
  rw [storeInv_iff, rwr, fpt, mem, phase]
  exact (storeInv_iff s).mp inv

theorem enterTripped_rwr (s : State) : (enterTripped s).rwr = s.rwr := by
  simp only [enterTripped, settled_rwr, clearClosed_rwr, moveTo_rwr, commandContactor_rwr, gatesOff_rwr]
theorem enterTripped_fpt (s : State) : (enterTripped s).fpt = (readoutCut s).fpt := by
  simp only [enterTripped, settled_fpt]
theorem enterTripped_mem (s : State) : (enterTripped s).mem = (readoutCut s).mem := by
  simp only [enterTripped, settled_mem]

theorem enterTripped_storeInv (inv : StoreInv s) : StoreInv (enterTripped s) := by
  obtain ⟨fits, rest⟩ := (storeInv_iff s).mp inv
  rw [storeInv_iff, enterTripped_rwr, enterTripped_fpt, enterTripped_mem, enterTripped_phase]
  exact ⟨fits.readoutCut, rest⟩

theorem standbyStatus_store (was : StationState) (s : State) :
    (standbyStatus was s).rwr = s.rwr ∧ (standbyStatus was s).fpt = s.fpt ∧ (standbyStatus was s).mem = s.mem := by
  unfold standbyStatus
  split <;> exact ⟨rfl, rfl, rfl⟩

theorem enterStandby_storeInv (inv : StoreInv s) : StoreInv (enterStandby s) := by
  obtain ⟨rwr, fpt, mem⟩ := standbyStatus_store s.ssc.station (moveTo .standby (clearClosed s))
  exact inv.of_same (by simp only [enterStandby, settled_rwr]; exact rwr) (by simp only [enterStandby, settled_fpt]; exact fpt)
    (by simp only [enterStandby, settled_mem]; exact mem) (enterStandby_phase s)

theorem shipJudged_store (s : State) :
    (shipJudged s).rwr = s.rwr ∧ (shipJudged s).fpt = s.fpt ∧ (shipJudged s).mem = s.mem := by
  unfold shipJudged
  split <;> exact ⟨rfl, rfl, rfl⟩

theorem Work.keeps_storeInv (w : Work leave s t) : StoreInv s → StoreInv t := by
  induction w with
  | trans _ _ first second => exact fun inv => second (first inv)
  | record r owner s size => exact submitRecord_storeInv size
  | tripped s p => exact fun inv => enterTripped_storeInv (s := { s with pru := p }) inv
  | shipJudged s =>
    obtain ⟨rwr, fpt, mem⟩ := shipJudged_store s
    exact fun inv => inv.of_same rwr fpt mem (shipJudged_phase s)
  | seek s =>
    exact fun inv => inv.of_same
      (by simp only [enterShipSync, settled_rwr]; exact (shipJudged_store _).1)
      (by simp only [enterShipSync, settled_fpt]; exact (shipJudged_store _).2.1)
      (by simp only [enterShipSync, settled_mem]; exact (shipJudged_store _).2.2) (enterShipSync_phase s)
  | closing s =>
    exact fun inv => inv.of_same (by simp [enterClosing]) (by simp [enterClosing]) (by simp [enterClosing])
      (enterClosing_phase _)
  | standby s => exact enterStandby_storeInv
  | store s r x m n keeps => exact keeps
  | _ => exact id

end

end Sys2Proof.Machine
end

/-! PROOFS. The invariants through the resets (R85 to R87), and with them through every step. -/
section
namespace Sys2Proof.Machine

section
variable {s t : State}

/-! ### The commands of the reset lines -/

/-- What a command of the reset lines leaves (R85, R87). -/
theorem reset_cases {c : Instr} (reset : isReset c = true) (h : exec c s = .next t) :
    (∃ addr rating linkRate ccAux sbAux tripIn,
        t = raiseIf tripIn .tripInput (coldStart addr rating linkRate ccAux sbAux tripIn s)) ∨
      (∃ powerLost, t = rstAsserted powerLost s) ∨
      (t = warmAsserted s ∧ s.phase = .run ∧ s.ssc.station ≠ .invalid) ∨ (t = warmEnded s ∧ s.phase = .restartLow) ∨ t = s := by
  cases c with
  | coldReset addr rating linkRate ccAux sbAux tripIn =>
    exact .inl ⟨addr, rating, linkRate, ccAux, sbAux, tripIn, (Host.Outcome.next.inj h).symm⟩
  | rstNAsserted powerLost => exact .inr (.inl ⟨powerLost, (Host.Outcome.next.inj h).symm⟩)
  | warmReset =>
    have taken : (if s.phase = .run then (if s.ssc.station = .invalid then s else warmAsserted s) else s) = t :=
      Host.Outcome.next.inj h
    split_ifs at taken with run invalid
    · exact .inr (.inr (.inr (.inr taken.symm)))
    · exact .inr (.inr (.inl ⟨taken.symm, run, invalid⟩))
    · exact .inr (.inr (.inr (.inr taken.symm)))
  | warmResetEnd =>
    have taken : (if s.phase = .restartLow then warmEnded s else s) = t := Host.Outcome.next.inj h
    split_ifs at taken with low
    · exact .inr (.inr (.inr (.inl ⟨taken.symm, low⟩)))
    · exact .inr (.inr (.inr (.inr taken.symm)))
  | _ => cases reset

/-- A property kept by every piece of work and by the resets is kept by every step. -/
theorem step_keeps {P : State → Prop} (work : ∀ leave s t, Work leave s t → P s → P t)
    (cold : ∀ addr rating linkRate ccAux sbAux tripIn s, P s → P (coldStart addr rating linkRate ccAux sbAux tripIn s))
    (low : ∀ powerLost s, P s → P (rstAsserted powerLost s))
    (warm : ∀ s, s.phase = .run → s.ssc.station ≠ .invalid → P s → P (warmAsserted s))
    (ended : ∀ s, s.phase = .restartLow → P s → P (warmEnded s)) (inv : P s) (h : step s = .next t) : P t := by
  rcases step_cases h with ⟨c, rest, -, run⟩ | ⟨d, rest, -, -, rfl⟩ | ⟨-, -, rfl⟩
  · have taken : P { s with pending := rest } := work [] _ _ (.aside s ..) inv
    cases reset : isReset c with
    | false => exact work _ _ _ (exec_work reset run) taken
    | true =>
      rcases reset_cases reset run with ⟨addr, rating, linkRate, ccAux, sbAux, tripIn, rfl⟩ | ⟨powerLost, rfl⟩ |
        ⟨rfl, running, valid⟩ | ⟨rfl, phase⟩ | rfl
      · exact work [] _ _ (raiseIf_work ..) (cold _ _ _ _ _ _ _ taken)
      · exact low _ _ taken
      · exact warm _ running valid taken
      · exact ended _ phase taken
      · exact taken
  · exact work [] _ _ (hear_work d _) (work [] _ _ (.aside s ..) inv)
  · exact inv

/-! ### The end of a warm reset -/

/-- A CLOSED context cleared, the station in a state (R87, R97). -/
def stood (x : StationState) (s : State) : State :=
  { clearClosed s with ssc := { (clearClosed s).ssc with station := x } }

theorem setPermit_work {leave : List Leave} (s : State) : Work leave s (setPermit s) := .ccAux s s.ccAux s.syn.confirmed

theorem warmToStandby_work {leave : List Leave} (s : State) : Work leave (stood .standby s) (warmToStandby s) :=
  .after (setPermit_work _) (.submit (statusFrame (stood .standby s)) _)

theorem warmToTripped_work {leave : List Leave} (s : State) : Work leave (stood .tripped s) (warmToTripped s) :=
  .after (triggerStatus_work _) (.after (setPermit_work _)
    (.cadence (stood .tripped s) { (clearClosed s).pvw with shipStale := true } rfl))

theorem tripWith_tail {leave : List Leave} (r : FirstCause) (s : State) :
    Work leave (enterTripped { s with pru := { s.pru with first := some r } }) (tripWith r s) :=
  .after (.record _ _ _ (by simp [tripRecord_size])) (.after (.submit _ _) (announce_work _ (.refl _)))

/-- What the end of a warm reset comes to: it begins the start work again, resumes a trip, trips, or enters STANDBY. -/
theorem warmEnded_keeps {P : State → Prop} (work : ∀ s t, Work [] s t → P s → P t)
    (again : s.ssc.station = .starting → P { warmRestarted s with rwr := (warmRestarted s).rwr.startAgain })
    (standby : tripHeld (warmRestarted s) = false → P (stood .standby (warmRestarted s)))
    (resumed : P (stood .tripped (warmRestarted s)))
    (trips : ∀ p, p.held = (warmRestarted s).pru.held → P (enterTripped
      { warmRestarted s with pvw := { (warmRestarted s).pvw with shipStale := true }, pru := p })) :
    P (warmEnded s) := by
  have outcome : P (warmOutcome (warmRestarted s)) := by
    unfold warmOutcome
    split
    next held =>
      split
      · exact work _ _ (warmToTripped_work _) resumed
      · split
        next r cause => exact work _ _ (tripWith_tail r _) (trips _ rfl)
        next none => rw [tripHeld_of_waitingCause none] at held; cases held
    next quiet => exact work _ _ (warmToStandby_work _) (standby (Bool.eq_false_iff.mpr quiet))
  unfold warmEnded
  dsimp only
  split
  next starting => exact again starting
  next => exact work _ _ (.cause _ _ rfl) outcome

/-! ### R174 -/

theorem EveryStep.tripInv (inv : TripInv s) (h : step s = .next t) : TripInv t := by
  refine step_keeps (fun _ _ _ w => w.keeps_tripInv) (fun addr _ _ _ _ _ s _ => ?_) (fun _ s _ => ?_) (fun s _ _ _ => ?_)
    (fun s low inv => ?_) inv h
  · exact .of_rest ⟨rfl, rfl⟩ fun _ held => by cases held
  · exact .of_rest ⟨rfl, rfl⟩ nofun
  · exact .of_rest ⟨rfl, rfl⟩ nofun
  · have rest : AtRest (warmRestarted s) := inv.1 (.inl (by rw [low]; nofun))
    refine warmEnded_keeps (fun _ _ w => w.keeps_tripInv) (fun starting => ?_) (fun quiet => ?_) ?_ fun p _ => ?_
    · exact .of_rest rest fun _ _ => .inl starting
    · have same : tripHeld (stood .standby (warmRestarted s)) = tripHeld (warmRestarted s) := tripHeld_congr rfl rfl
      exact .of_rest rest fun _ held => by rw [same, quiet] at held; cases held
    · exact .of_rest rest fun _ _ => .inr (.inr rfl)
    · exact .of_rest (enterTripped_atRest _) fun _ _ => .inr (.inr rfl)

/-! ### R23 and R131 -/

theorem EveryStep.frequencyLaw (inv : FrequencyLaw s) (h : step s = .next t) : FrequencyLaw t := by
  have reset {u : State} (fRef : u.rfg.fRef = 50000000) (rate : 1 ≤ u.params.rate) : FrequencyLaw u := by
    rw [FrequencyLaw, fRef]
    exact ⟨by decide, by decide, rate⟩
  refine step_keeps (fun _ _ _ w => w.keeps_frequencyLaw) (fun _ _ _ _ _ _ s _ => ?_) (fun _ s _ => ?_)
    (fun s _ _ inv => ?_) (fun s _ inv => ?_) inv h
  · exact reset rfl (show (1 : Int) ≤ 125 by decide)
  · exact reset rfl (show (1 : Int) ≤ 125 by decide)
  · exact reset rfl inv.2.2
  · have restarted : FrequencyLaw (warmRestarted s) := inv.of_same (by simp [warmRestarted]) (by simp [warmRestarted])
    exact warmEnded_keeps (fun _ _ w => w.keeps_frequencyLaw) (fun _ => restarted.of_same rfl rfl)
      (fun _ => restarted.of_same rfl rfl) (restarted.of_same rfl rfl) fun p _ =>
      restarted.of_same (gatesOff_fRef _) (enterTripped_params _)

theorem EveryStep.targetLaw (inv : TargetLaw s) (h : step s = .next t) : TargetLaw t := by
  have reset {u : State} (hoc : u.hoc = .initial) (ramp : 1 ≤ u.params.ramp) : TargetLaw u := by
    rw [targetLaw_iff, hoc]
    exact ⟨Hoc.initial_within, ramp⟩
  refine step_keeps (fun _ _ _ w => w.keeps_targetLaw) (fun _ _ _ _ _ _ s _ => ?_) (fun _ s _ => ?_)
    (fun s _ _ inv => ?_) (fun s _ inv => ?_) inv h
  · exact reset rfl (show (1 : Int) ≤ 20 by decide)
  · exact reset rfl (show (1 : Int) ≤ 20 by decide)
  · exact reset rfl inv.2.2
  · have restarted : TargetLaw (warmRestarted s) := by
      have hoc : (warmRestarted s).hoc = s.hoc := by simp [warmRestarted]
      have params : (warmRestarted s).params = s.params := by simp [warmRestarted]
      rw [TargetLaw, hoc, params]
      exact inv
    refine warmEnded_keeps (fun _ _ w => w.keeps_targetLaw) (fun _ => restarted) (fun _ => restarted) restarted fun p _ => ?_
    rw [targetLaw_iff, enterTripped_params]
    exact ⟨moved_within ((targetLaw_iff _).mp restarted).1, restarted.2.2⟩

/-! ### R52 and R40 -/

theorem keeps_disabled (l : Lkc) : l.KeepsLaws Lkc.disabled :=
  ⟨fun _ => ⟨Nat.zero_le _, Nat.zero_le _⟩, fun _ => ⟨nofun, nofun⟩⟩

theorem keeps_enable (now : Nat) (l : Lkc) : l.KeepsLaws (Lkc.enable now) :=
  ⟨fun _ => ⟨Nat.zero_le _, Nat.zero_le _⟩, fun _ => ⟨nofun, nofun⟩⟩

/-- A property of LKC that every change keeps which keeps both laws is kept by every step. -/
theorem EveryStep.lkc {P : Lkc → Prop} (keeps : ∀ old new : Lkc, old.KeepsLaws new → P old → P new) (inv : P s.lkc)
    (h : step s = .next t) : P t.lkc := by
  refine step_keeps (P := fun u => P u.lkc) (fun _ _ _ w => keeps _ _ w.keeps_lkc) (fun addr _ _ _ _ _ s => ?_)
    (fun _ s => ?_) (fun s _ _ => ?_) (fun s _ inv => ?_) inv h
  · refine keeps _ _ ?_
    show s.lkc.KeepsLaws (if isStation addr then Lkc.enable s.now else .disabled)
    split
    · exact keeps_enable ..
    · exact keeps_disabled _
  · exact keeps _ _ (keeps_disabled _)
  · exact keeps _ _ (keeps_disabled _)
  · have enabled : P (Lkc.enable s.now) := keeps _ _ (keeps_enable s.now s.lkc) inv
    refine warmEnded_keeps (P := fun u => P u.lkc) (fun _ _ w => keeps _ _ w.keeps_lkc) (fun _ => enabled) (fun _ => enabled)
      enabled fun p _ => ?_
    rw [enterTripped_lkc]
    exact keeps _ _ (movedLkc_keepsLaws ..) enabled

end

end Sys2Proof.Machine
end

/-! PROOFS. The invariants of R63, R88, R122, R147 and of the record store through the resets and through every step. -/
section
namespace Sys2Proof.Machine

section
variable {s t : State}

/-! ### R63 -/

/-- A station with a valid address and no entries. -/
theorem ViewInv.of_empty (peers : s.pvw.peers = [])
    (valid : s.lkc.enabled = true ∨ s.phase = .restartLow ∨ (s.phase = .run ∧ s.ssc.station ≠ .invalid) →
      isStation s.addr = true) : ViewInv s := by
  refine ⟨by rw [peers]; exact .nil, by rw [peers]; exact fun _ h => absurd h List.not_mem_nil, ?_⟩
  rintro (on | held | low | runs)
  · exact valid (.inl on)
  · exact absurd peers held
  · exact valid (.inr (.inl low))
  · exact valid (.inr (.inr runs))

/-- A view whose address is a station's. -/
theorem ViewInv.of_station (inv : ViewInv s) (station : isStation s.addr = true) (addr : t.addr = s.addr)
    (peers : t.pvw.peers = s.pvw.peers) : ViewInv t := by
  obtain ⟨rising, stations, -⟩ := inv
  unfold ViewInv
  rw [addr, peers]
  exact ⟨rising, stations, fun _ => station⟩

theorem EveryStep.viewInv (inv : ViewInv s) (h : step s = .next t) : ViewInv t := by
  refine step_keeps (fun _ _ _ w => w.keeps_viewInv) (fun addr _ _ _ _ _ s _ => ?_) (fun _ s _ => ?_)
    (fun s run valid inv => ?_) (fun s low inv => ?_) inv h
  · refine .of_empty rfl fun valid => ?_
    show isStation addr = true
    by_contra invalid
    rcases valid with on | low | ⟨-, station⟩
    · rw [show (coldStart addr _ _ _ _ _ s).lkc = if isStation addr then Lkc.enable s.now else .disabled from rfl,
        if_neg invalid] at on
      cases on
    · cases low
    · exact station (by simp [coldStart, invalid])
  · refine .of_empty rfl ?_
    rintro (on | low | ⟨run, -⟩)
    · cases on
    · cases low
    · cases run
  · exact .of_empty rfl fun _ => inv.2.2 (.inr (.inr (.inr ⟨run, valid⟩)))
  · have station : isStation s.addr = true := inv.2.2 (.inr (.inr (.inl low)))
    have addr : (warmRestarted s).addr = s.addr := by simp [warmRestarted]
    have peers : (warmRestarted s).pvw.peers = s.pvw.peers := by simp [warmRestarted]
    exact warmEnded_keeps (fun _ _ w => w.keeps_viewInv) (fun _ => inv.of_station station addr peers)
      (fun _ => inv.of_station station addr peers) (inv.of_station station addr peers) fun p _ =>
        inv.of_station station ((enterTripped_addr _).trans addr) ((moveTo_peers .tripped _).trans peers)

/-! ### R88 -/

theorem stood_sessionInv {x : StationState} (fields : s.emt.isSome = s.ssc.session.isSome) (quiet : x.serving = false) :
    SessionInv (stood x s) :=
  .of_open (fun c held => ((clearClosed_session s c).mp held).2) (clearClosed_fields fields) fun serves => by
    rw [show (stood x s).ssc.station = x from rfl, quiet] at serves
    cases serves

theorem warmRestarted_session (s : State) :
    (warmRestarted s).ssc = s.ssc ∧ (warmRestarted s).emt.isSome = s.emt.isSome := by
  refine ⟨by simp [warmRestarted], ?_⟩
  simp only [warmRestarted]
  split
  · rw [Option.isSome_map, requestExit_emt, submitEvent, submitRecord_meter, hold_emt]
  · rw [requestExit_emt, submitEvent, submitRecord_meter, hold_emt]

theorem EveryStep.sessionInv (inv : SessionInv s) (h : step s = .next t) : SessionInv t := by
  have none {u : State} (session : u.ssc.session = .none) (meter : u.emt = .none)
      (quiet : u.ssc.station.serving = false) : SessionInv u :=
    .of_open (by rw [session]; nofun) (by rw [session, meter]; rfl) (by rw [quiet]; nofun)
  refine step_keeps (fun _ _ _ w => w.keeps_sessionInv) (fun addr _ _ _ _ _ s _ => ?_) (fun _ s _ => ?_)
    (fun s _ _ inv => ?_) (fun s _ inv => ?_) inv h
  · refine none rfl rfl ?_
    show (if isStation addr = true then StationState.starting else .invalid).serving = false
    split <;> rfl
  · exact none rfl rfl rfl
  · exact inv.of_same rfl Option.isSome_map id .inl
  · obtain ⟨ssc, meter⟩ := warmRestarted_session s
    have fields : (warmRestarted s).emt.isSome = (warmRestarted s).ssc.session.isSome := by rw [meter, ssc]; exact inv.2.2
    refine warmEnded_keeps (fun _ _ w => w.keeps_sessionInv) (fun starting => ?_) (fun _ => stood_sessionInv fields rfl)
      (stood_sessionInv fields rfl) fun p _ => ?_
    · exact inv.of_same (by rw [ssc]) meter (by rw [ssc]; exact id) (by rw [ssc]; exact .inl)
    · refine .of_open (fun c held => ?_) ?_ nofun
      · rw [enterTripped_session] at held
        exact ((clearClosed_session _ c).mp held).2
      · rw [enterTripped_session, enterTripped_meter]
        exact clearClosed_fields (s := { warmRestarted s with pvw := _, pru := p }) fields

/-! ### R122 -/

/-- With ready clear the permit drive follows command and report of the contactor alone. -/
theorem PermitInv.of_unready (permit : s.syn.permit = (!s.syn.cmdClosed && !s.ccAux)) (unready : s.syn.ready = false) :
    PermitInv s := by
  refine ⟨?_, ReadyLaw.of_unready unready⟩
  rw [permit, permitRule, unready, Bool.and_false, Bool.or_false]

theorem PermitInv.permit_of_unready (inv : PermitInv s) (unready : s.syn.ready = false) :
    s.syn.permit = (!s.syn.cmdClosed && !s.ccAux) := by
  rw [inv.1, permitRule, unready, Bool.and_false, Bool.or_false]

theorem EveryStep.permitInv (inv : PermitInv s) (h : step s = .next t) : PermitInv t := by
  refine step_keeps (fun _ _ _ w => w.keeps_permitInv) (fun _ _ _ _ _ _ s _ => ?_) (fun _ s _ => ?_)
    (fun s _ _ _ => ?_) (fun s low inv => ?_) inv h
  · exact .of_set _ (.of_unready rfl)
  · exact .of_unready rfl rfl
  · exact .of_set _ (.of_unready rfl)
  · have unready : s.syn.ready = false := by
      by_contra set
      have run := (inv.2 (by simpa using set)).1
      rw [low] at run
      cases run
    have permit := inv.permit_of_unready unready
    have syn : (warmRestarted s).syn = s.syn := by simp [warmRestarted]
    have aux : (warmRestarted s).ccAux = s.ccAux := by simp [warmRestarted]
    rw [← syn, ← aux] at permit
    rw [← syn] at unready
    refine warmEnded_keeps (fun _ _ w => w.keeps_permitInv) (fun _ => .of_unready permit unready)
      (fun _ => .of_unready permit unready) (.of_unready permit unready) fun p _ => .of_settled _ (.of_unready ?_)
    have restarted : PermitInv (warmRestarted s) := .of_unready permit unready
    exact moveTo_unready (u := commandContactor false (gatesOff
      { warmRestarted s with pvw := { (warmRestarted s).pvw with shipStale := true }, pru := p })) restarted
      (commandContactor_ready ..) rfl .tripped

/-! ### R147 -/

theorem warmRestarted_emt {n : Meter} (held : (warmRestarted s).emt = some n) : ∃ m, s.emt = some m ∧ m.SameEnergy n := by
  have recorded {x : Meter} (had : (requestExit (submitEvent 6 [BitVec.ofNat 8 s.ssc.station.code] (hold .restarted s))).emt =
      some x) : ∃ m, s.emt = some m ∧ m.SameEnergy x := by
    rw [requestExit_emt, submitEvent] at had
    obtain ⟨m, was, same⟩ := submitRecord_emt had
    exact ⟨m, was, same⟩
  simp only [warmRestarted] at held
  split at held
  · obtain ⟨x, had, rfl⟩ := Option.map_eq_some_iff.mp held
    obtain ⟨m, was, same⟩ := recorded had
    exact ⟨m, was, same⟩
  · exact recorded held

theorem EveryStep.meterLaw (inv : MeterLaw s) (h : step s = .next t) : MeterLaw t := by
  refine step_keeps (fun _ _ _ w => w.keeps_meterLaw) (fun _ _ _ _ _ _ s _ => nofun) (fun _ s _ => nofun)
    (fun s _ _ inv => ?_) (fun s _ inv => ?_) inv h
  · refine inv.of_sameEnergy fun n held => ?_
    obtain ⟨m, had, rfl⟩ := Option.map_eq_some_iff.mp held
    exact ⟨m, had, id⟩
  · have restarted : MeterLaw (warmRestarted s) :=
      inv.of_sameEnergy fun n held => (warmRestarted_emt held).imp fun m same => ⟨same.1, same.2.1⟩
    refine warmEnded_keeps (fun _ _ w => w.keeps_meterLaw) (fun _ => restarted)
      (fun _ n held => restarted n (clearClosed_emt held)) (fun n held => restarted n (clearClosed_emt held)) fun p _ =>
        MeterLaw.of_sameEnergy restarted fun n held => (enterTripped_emt held).imp fun m same => ⟨same.1, same.2.1⟩

/-! ### The record store -/

theorem noRecord_op (m : Memory) : m.noRecord.op = m.op ∨ ∃ sector, m.noRecord.op = some (.erase sector) ∨ m.noRecord.op = none := by
  unfold Memory.noRecord
  split
  · cases op : m.op with
    | none => exact .inl rfl
    | some o => exact .inr ⟨0, .inl rfl⟩
  · exact .inl rfl

theorem noRecord_paged {m : Memory} (paged : ∀ a d, m.op = some (.program a d) → a % 256 + d.length ≤ 256) :
    ∀ a d, m.noRecord.op = some (.program a d) → a % 256 + d.length ≤ 256 := by
  intro a d h
  rcases noRecord_op m with same | ⟨sector, erase | none⟩
  · exact paged a d (same ▸ h)
  · rw [erase] at h; cases h
  · rw [none] at h; cases h

theorem coldCut_paged {m : Memory} (occasion : Nat) (paged : ∀ a d, m.op = some (.program a d) → a % 256 + d.length ≤ 256) :
    ∀ a d, (m.coldCut occasion).op = some (.program a d) → a % 256 + d.length ≤ 256 := by
  unfold Memory.coldCut
  split
  · refine noRecord_paged fun a d h => ?_
    obtain ⟨op, had, torn⟩ := Option.map_eq_some_iff.mp h
    cases op with
    | erase sector => cases torn
    | program addr data =>
      obtain ⟨rfl, rfl⟩ := MemOp.program.inj torn
      rw [tornData_length]
      exact paged _ _ had
  · exact paged

theorem powerLoss_paged (m : Memory) (occasion : Nat) :
    ∀ a d, (m.powerLoss occasion).op = some (.program a d) → a % 256 + d.length ≤ 256 := by
  have stopped : (m.unpowered occasion).op = none := by
    unfold Memory.unpowered
    split
    next none => exact none
    next => rfl
    next => rfl
  have nothing : ∀ a d, (m.unpowered occasion).op = some (.program a d) → a % 256 + d.length ≤ 256 := by
    rw [stopped]
    exact nofun
  unfold Memory.powerLoss
  split
  · exact noRecord_paged nothing
  · exact nothing

theorem Fits.of_initial {m : Memory} (wf : m.wf) (paged : ∀ a d, m.op = some (.program a d) → a % 256 + d.length ≤ 256) :
    Fits .initial m :=
  ⟨wf, paged, nofun, nofun⟩

/-- A store that has just been reset: nothing queued, nothing in hand, nothing in flight. -/
theorem StoreInv.of_reset (fits : Fits s.fpt s.mem) (queue : s.rwr.queue = []) (config : s.rwr.config = none)
    (op : s.rwr.op = none) (flight : s.rwr.inFlight = none) : StoreInv s := by
  refine StoreReady.inv ⟨fits, ⟨?_, ?_, ?_⟩, ?_⟩ ?_
  · rw [queue]; exact Nat.zero_le _
  · rw [queue]; exact fun _ h => absurd h List.not_mem_nil
  · rw [config]; nofun
  · rw [Rwr.Loose, flight]; nofun
  · rw [Rwr.Placed, op]; nofun

theorem warm_flying {p : ResetPhase} {r : Rwr} (placed : r.Placed) (flying : r.Flying p) :
    r.warm.Placed ∧ r.warm.Flying .restartLow := by
  obtain ⟨flight, kept⟩ := flying
  refine ⟨fun op h => ?_, fun op h => ?_, fun op h other => ⟨?_, rfl, .inl rfl⟩⟩
  · simp only [Rwr.warm] at h
    split at h
    · exact placed op h
    · cases h
  · simp only [Rwr.warm] at h
    split_ifs at h
    · obtain rfl := Option.some.inj h; trivial
    · exact placed op h
    · exact flight op h
  · simp only [Rwr.warm] at h ⊢
    split_ifs at h with started begun settling
    · exact absurd (Option.some.inj h).symm other
    · rcases begun.1 with writer | writer <;> rw [writer] <;> rfl
    · rw [(kept op h other).1]; rfl

theorem warmRestarted_storeInv (inv : StoreInv s) : StoreInv (warmRestarted s) := by
  have event : StoreInv (submitEvent 6 [BitVec.ofNat 8 s.ssc.station.code] (hold .restarted s)) :=
    submitRecord_storeInv (by simp [eventRecord_size]) (inv.of_same rfl rfl rfl rfl)
  obtain ⟨fits, filled, placed, flight, kept⟩ := (storeInv_iff _).mp event
  refine (storeInv_iff _).mpr ⟨.requestExit fits.wf fits.paged, filled, placed, flight, fun op h other => ?_⟩
  obtain ⟨idle, none, -⟩ := kept op h other
  exact ⟨idle, none, .inr rfl⟩

theorem EveryStep.storeInv (inv : StoreInv s) (h : step s = .next t) : StoreInv t := by
  refine step_keeps (fun _ _ _ w => w.keeps_storeInv) (fun addr _ _ _ _ _ s inv => ?_) (fun powerLost s inv => ?_)
    (fun s _ _ inv => ?_) (fun s _ inv => ?_) inv h
  · obtain ⟨fits, -⟩ := (storeInv_iff s).mp inv
    have cut : Fits .initial (s.mem.coldCut s.freeCount) :=
      .of_initial (Memory.coldCut_wf _ fits.wf) (coldCut_paged _ fits.paged)
    refine .of_reset ?_ rfl rfl rfl rfl
    show Fits .initial (if isStation addr then { s.mem.coldCut s.freeCount with cont := false } else s.mem.coldCut s.freeCount)
    split
    · exact cut.cont false
    · exact cut
  · obtain ⟨fits, -⟩ := (storeInv_iff s).mp inv
    refine .of_reset ?_ rfl rfl rfl rfl
    show Fits .initial (if powerLost then s.mem.powerLoss s.freeCount else s.mem.coldCut s.freeCount)
    split
    · exact .of_initial (Memory.powerLoss_wf _ fits.wf) (powerLoss_paged _ _)
    · exact .of_initial (Memory.coldCut_wf _ fits.wf) (coldCut_paged _ fits.paged)
  · obtain ⟨fits, filled, placed, flying⟩ := (storeInv_iff s).mp inv
    exact (storeInv_iff _).mpr ⟨.of_initial fits.wf fits.paged, filled, warm_flying placed flying⟩
  · have restarted := warmRestarted_storeInv inv
    refine warmEnded_keeps (fun _ _ w => w.keeps_storeInv) (fun _ => ?_)
      (fun _ => restarted.of_same rfl rfl rfl rfl) (restarted.of_same rfl rfl rfl rfl) fun p _ =>
        enterTripped_storeInv (restarted.of_same rfl rfl rfl rfl)
    obtain ⟨fits, filled, placed, -⟩ := (storeInv_iff _).mp restarted
    refine (storeInv_iff _).mpr ⟨fits, filled, placed, Rwr.Loose.flying _ fun op h => ?_⟩
    exact (Option.some.inj h).symm

end

/-! ### The statements -/

/-- Settles O4: R174's law by the induction over the pieces of work, and through the resets. -/
theorem everyStepKeepsTheTripLaw : Obligations.EveryStepKeepsTheTripLaw := fun _ _ => EveryStep.tripInv

/-- Settles O5. -/
theorem everyStepKeepsTheReferenceAndTargetBounds : Obligations.EveryStepKeepsTheReferenceAndTargetBounds :=
  ⟨fun _ _ => EveryStep.frequencyLaw, fun _ _ => EveryStep.targetLaw⟩

/-- Settles O6: the two laws of LKC, which every change of LKC keeps. -/
theorem everyStepKeepsTheTransmitQueue : Obligations.EveryStepKeepsTheTransmitQueue :=
  ⟨fun _ _ => EveryStep.lkc fun _ _ keeps => keeps.1, fun _ _ => EveryStep.lkc fun _ _ keeps => keeps.2⟩

/-- Settles O7. -/
theorem everyStepKeepsThePeerView : Obligations.EveryStepKeepsThePeerView := fun _ _ => EveryStep.viewInv

/-- Settles O8. -/
theorem everyStepKeepsTheSession : Obligations.EveryStepKeepsTheSession := fun _ _ => EveryStep.sessionInv

/-- Settles O9. -/
theorem everyStepKeepsThePermit : Obligations.EveryStepKeepsThePermit := fun _ _ => EveryStep.permitInv

/-- Settles O11. -/
theorem everyStepKeepsTheStore : Obligations.EveryStepKeepsTheStore := fun _ _ => EveryStep.storeInv

end Sys2Proof.Machine
end

/-! PROOFS. The laws of one step: R23's rate limit, R113's contactor command, R145's meter, R172's held conditions. -/
section
namespace Sys2Proof.Machine

section
variable {leave : List Leave} {s t : State}

/-! ### R23: one step of the reference -/

/-- Without period work the gates go off, or stay with the reference as it was. -/
theorem Work.gates_kept (idle : .drives ∉ leave) (w : Work leave s t) :
    t.mod.gate = .gatesOff ∨ t.mod.gate = s.mod.gate ∧ t.rfg.fRef = s.rfg.fRef := by
  induction w with
  | trans _ _ first second =>
    rcases second with off | ⟨gate, fRef⟩
    · exact .inl off
    · rw [gate, fRef]; exact first
  | drive s drives => exact absurd drives idle
  | tripped s p => exact .inl (enterTripped_atRest _).1
  | closing s => exact .inl (enterClosing_atRest _).1
  | standby s => exact .inl (enterStandby_atRest s).1
  | shipJudged s => exact .inr ⟨by rw [shipJudged_mod], by rw [shipJudged_rfg]⟩
  | seek s => exact .inr ⟨by rw [enterShipSync_mod], by rw [enterShipSync_rfg]⟩
  | _ => exact .inr ⟨rfl, rfl⟩

/-- Without period work and wake, gates that go off leave the station in a quiet state. -/
theorem Work.quiet_kept (idle : .drives ∉ leave) (asleep : .opens ∉ leave) (w : Work leave s t)
    (quiet : s.mod.gate = .gatesOff ∧ s.ssc.station.quiet = true) : t.mod.gate = .gatesOff ∧ t.ssc.station.quiet = true := by
  induction w with
  | trans _ _ first second => exact second (first quiet)
  | drive s drives => exact absurd drives idle
  | tripped s p => exact ⟨(enterTripped_atRest _).1, rfl⟩
  | closing s => exact ⟨(enterClosing_atRest _).1, rfl⟩
  | standby s => exact ⟨(enterStandby_atRest s).1, by rw [enterStandby_station]; rfl⟩
  | shipJudged s => rw [shipJudged_mod, shipJudged_ssc]; exact quiet
  | seek s online => rw [online] at quiet; cases quiet.2
  | serve s new y c h serving => rw [serving_loud serving] at quiet; cases quiet.2
  | wake s _ _ opens => exact absurd opens asleep
  | _ => exact quiet

theorem Work.gates_quiet (idle : .drives ∉ leave) (asleep : .opens ∉ leave) (w : Work leave s t) :
    (t.mod.gate = .gatesOff ∧ t.ssc.station.quiet = true) ∨ t.mod.gate = s.mod.gate ∧ t.rfg.fRef = s.rfg.fRef := by
  induction w with
  | trans _ second first later =>
    rcases first with quiet | ⟨gate, fRef⟩
    · exact .inl (second.quiet_kept idle asleep quiet)
    · rw [← gate, ← fRef]; exact later
  | drive s drives => exact absurd drives idle
  | tripped s p => exact .inl ⟨(enterTripped_atRest _).1, rfl⟩
  | closing s => exact .inl ⟨(enterClosing_atRest _).1, rfl⟩
  | standby s => exact .inl ⟨(enterStandby_atRest s).1, by rw [enterStandby_station]; rfl⟩
  | shipJudged s => exact .inr ⟨by rw [shipJudged_mod], by rw [shipJudged_rfg]⟩
  | seek s => exact .inr ⟨by rw [enterShipSync_mod], by rw [enterShipSync_rfg]⟩
  | wake s _ _ opens => exact absurd opens asleep
  | _ => exact .inr ⟨rfl, rfl⟩

theorem Work.params_kept (unloaded : .loads ∉ leave) (w : Work leave s t) : t.params = s.params := by
  induction w with
  | trans _ _ first second => exact second.trans first
  | params s p loads => exact absurd loads unloaded
  | tripped s p => exact enterTripped_params _
  | closing s => exact enterClosing_params _
  | standby s => exact enterStandby_params s
  | shipJudged s => exact shipJudged_params s
  | seek s => exact enterShipSync_params s
  | _ => rfl

/-- The reference moves by no more than the rate limit of the first state. -/
def WithinRate (s t : State) : Prop := t.rfg.fRef - s.rfg.fRef ≤ s.params.rate ∧ s.rfg.fRef - t.rfg.fRef ≤ s.params.rate

theorem WithinRate.of_same (forward : 1 ≤ s.params.rate) (same : t.rfg.fRef = s.rfg.fRef) : WithinRate s t := by
  unfold WithinRate
  omega

theorem rateStep_within {r prev target : Int} (forward : 1 ≤ r) :
    rateStep r prev target - prev ≤ r ∧ prev - rateStep r prev target ≤ r := by
  unfold rateStep
  split_ifs <;> omega

theorem periodWork_within (forward : 1 ≤ s.params.rate) (on : s.mod.gate ≠ .gatesOff) : WithinRate s (periodWork s) := by
  have going : gateStart s = false := Bool.eq_false_iff.mpr fun start => on ((gateStart_iff s).mp start).2.2.1
  have worked : (periodWork s).rfg.fRef = rateStep s.params.rate s.rfg.fRef (freqClamped s) := by
    simp [periodWork, going, on, rfgWork]
  rw [WithinRate, worked]
  exact rateStep_within forward

theorem carrierWork_tail (s : State) : Work [] (periodWork s) (carrierWork s) := by
  unfold carrierWork
  split
  next done =>
    refine announcing_work (enterJoining_work ?_)
    rw [periodWork_ssc, done.2.1]
    rfl
  next => exact .refl _

theorem carrierWork_within (forward : 1 ≤ s.params.rate) (on : s.mod.gate ≠ .gatesOff)
    (still : (carrierWork s).mod.gate ≠ .gatesOff) : WithinRate s (carrierWork s) := by
  rcases (carrierWork_tail s).gates_kept (by simp) with off | ⟨-, fRef⟩
  · exact absurd off still
  · rw [WithinRate, fRef]
    exact periodWork_within forward on

/-- A carrier period start moves the reference by one limited step (R19, R23). -/
theorem carrierStart_within {workFirst : Bool} (forward : 1 ≤ s.params.rate) (on : s.mod.gate ≠ .gatesOff)
    (still : (carrierStart workFirst s).mod.gate ≠ .gatesOff) : WithinRate s (carrierStart workFirst s) := by
  cases workFirst with
  | true =>
    have late : Work [.meters] (carrierWork s) (carrierStart true s) :=
      .after (.aside (settleLate (carrierWork s)) ..) (settleLate_work fun _ => List.mem_singleton.mpr rfl)
    rcases late.gates_kept (by simp) with off | ⟨gate, fRef⟩
    · exact absurd off still
    · rw [WithinRate, fRef]
      exact carrierWork_within forward on (gate ▸ still)
  | false =>
    have early : Work [.meters] s (settleLate s) := settleLate_work fun _ => List.mem_singleton.mpr rfl
    have params := early.params_kept (by simp)
    rcases early.gates_quiet (by simp) (by simp) with ⟨off, quiet⟩ | ⟨gate, fRef⟩
    · have off : (carrierWork (settleLate s)).mod.gate = .gatesOff := by
        have stays : gateStart (settleLate s) = false := Bool.eq_false_iff.mpr fun start => by
          rw [((gateStart_iff _).mp start).2.1] at quiet
          cases quiet
        rcases (carrierWork_tail (settleLate s)).gates_kept (by simp) with off | ⟨gate, -⟩
        · exact off
        · rw [gate]; exact periodWork_gate off stays
      exact absurd off still
    · have worked := carrierWork_within (s := settleLate s) (by rw [params]; exact forward) (by rw [gate]; exact on) still
      rw [WithinRate, params, fRef] at worked
      exact worked

theorem leaveOf_drives {c : Instr} (other : ∀ workFirst, c ≠ .carrierPeriodStart workFirst) (s : State) :
    .drives ∉ leaveOf c s := by
  have none : Leave.drives ∉ metering s := by
    unfold metering
    split <;> simp
  cases c with
  | carrierPeriodStart workFirst => exact absurd rfl (other workFirst)
  | recordComplete => exact none
  | startMarkerWrong => exact none
  | _ => simp [leaveOf]

/-- A reset takes the gates off, or leaves gates and reference (R85, R87). -/
theorem reset_gates {c : Instr} (reset : isReset c = true) (h : exec c s = .next t) :
    t.mod.gate = .gatesOff ∨ t.mod.gate = s.mod.gate ∧ t.rfg.fRef = s.rfg.fRef := by
  rcases reset_cases reset h with ⟨addr, rating, linkRate, ccAux, sbAux, tripIn, rfl⟩ | ⟨powerLost, rfl⟩ | ⟨rfl, -, -⟩ |
    ⟨rfl, -⟩ | rfl
  · rcases (raiseIf_work (leave := []) tripIn .tripInput (coldStart addr rating linkRate ccAux sbAux tripIn s)).gates_kept
      (by simp) with off | ⟨gate, -⟩
    · exact .inl off
    · exact .inl gate
  · exact .inl rfl
  · exact .inl rfl
  · have mod : (warmRestarted s).mod = s.mod := by simp [warmRestarted]
    have rfg : (warmRestarted s).rfg = s.rfg := by simp [warmRestarted]
    have restarted (u : State) (same : u.mod = (warmRestarted s).mod ∧ u.rfg = (warmRestarted s).rfg) :
        u.mod.gate = .gatesOff ∨ u.mod.gate = s.mod.gate ∧ u.rfg.fRef = s.rfg.fRef := by
      rw [same.1, same.2, mod, rfg]
      exact .inr ⟨rfl, rfl⟩
    refine warmEnded_keeps (P := fun u => u.mod.gate = .gatesOff ∨ u.mod.gate = s.mod.gate ∧ u.rfg.fRef = s.rfg.fRef)
      (fun u v w was => ?_) (fun _ => restarted _ ⟨rfl, rfl⟩) (fun _ => restarted _ ⟨rfl, rfl⟩) (restarted _ ⟨rfl, rfl⟩)
      fun _ _ => .inl (enterTripped_atRest _).1
    rcases w.gates_kept (by simp) with off | ⟨gate, fRef⟩
    · exact .inl off
    · rw [gate, fRef]; exact was
  · exact .inr ⟨rfl, rfl⟩

theorem exec_within {c : Instr} (forward : 1 ≤ s.params.rate) (h : exec c s = .next t) (on : s.mod.gate ≠ .gatesOff)
    (still : t.mod.gate ≠ .gatesOff) : WithinRate s t := by
  have kept (same : t.mod.gate = .gatesOff ∨ t.mod.gate = s.mod.gate ∧ t.rfg.fRef = s.rfg.fRef) : WithinRate s t :=
    .of_same forward (same.resolve_left still).2
  cases reset : isReset c with
  | true => exact kept (reset_gates reset h)
  | false =>
    by_cases carrier : ∃ workFirst, c = .carrierPeriodStart workFirst
    · obtain ⟨workFirst, rfl⟩ := carrier
      obtain rfl : (if s.phase = .rstLow then s else carrierStart workFirst { s with now := s.now + 1 }) = t :=
        Host.Outcome.next.inj h
      split at still
      next low => exact .of_same forward (by rw [if_pos low])
      next up =>
        rw [if_neg up]
        exact carrierStart_within (s := { s with now := s.now + 1 }) forward on still
    · exact kept ((exec_work reset h).gates_kept (leaveOf_drives (fun w same => carrier ⟨w, same⟩) _))

theorem step_within (forward : 1 ≤ s.params.rate) (h : step s = .next t) (on : s.mod.gate ≠ .gatesOff)
    (still : t.mod.gate ≠ .gatesOff) : WithinRate s t := by
  rcases step_cases h with ⟨c, rest, -, run⟩ | ⟨d, rest, -, -, rfl⟩ | ⟨-, -, rfl⟩
  · exact exec_within (s := { s with pending := rest }) forward run on still
  · exact .of_same forward rfl
  · exact .of_same forward rfl

end

/-- Settles O12: only the period work moves the reference, by one limited step; everything else leaves it or takes the gates
off. -/
theorem oneStepMovesTheReferenceByTheRate : Obligations.OneStepMovesTheReferenceByTheRate :=
  fun _ _ forward h on still => step_within forward h on still

end Sys2Proof.Machine
end

/-! PROOFS. The laws of one step: R113's contactor command. -/
section
namespace Sys2Proof.Machine

section
variable {leave : List Leave} {s t : State}

/-! ### R113: the contactor commanded closed -/

theorem enterStandby_opened (s : State) : (enterStandby s).syn.cmdClosed = false := (enterStandby_atRest s).2

/-- Without the piece of work that commands the contactor closed, a contactor commanded open stays so. -/
theorem Work.opened_kept (leaves : .closes ∉ leave) (w : Work leave s t) (opened : s.syn.cmdClosed = false) :
    t.syn.cmdClosed = false := by
  induction w with
  | trans _ _ first second => exact second (first opened)
  | tripped s p => exact (enterTripped_atRest _).2
  | closing s => exact (enterClosing_atRest _).2
  | standby s => exact enterStandby_opened s
  | syn s y aside => exact aside.1.trans opened
  | openContactor s => exact commandContactor_open s
  | closeContactor s closes => exact absurd closes leaves
  | shipJudged s => exact (shipJudged_cmdClosed s).trans opened
  | seek s => exact (enterShipSync_cmdClosed s).trans opened
  | serve s new y c h _ _ _ command => exact command.trans opened
  | wake s => exact (moveTo_cmdClosed .prepared s).trans opened
  | _ => exact opened

theorem reset_opened {c : Instr} (reset : isReset c = true) (h : exec c s = .next t) (opened : s.syn.cmdClosed = false) :
    t.syn.cmdClosed = false := by
  rcases reset_cases reset h with ⟨addr, rating, linkRate, ccAux, sbAux, tripIn, rfl⟩ | ⟨powerLost, rfl⟩ | ⟨rfl, -, -⟩ |
    ⟨rfl, -⟩ | rfl
  · exact (raiseIf_work (leave := []) tripIn .tripInput (coldStart addr rating linkRate ccAux sbAux tripIn s)).opened_kept
      (by simp) rfl
  · rfl
  · rfl
  · have restarted : (warmRestarted s).syn.cmdClosed = false := by
      rw [show (warmRestarted s).syn = s.syn by simp [warmRestarted]]
      exact opened
    exact warmEnded_keeps (P := fun u => u.syn.cmdClosed = false) (fun _ _ w was => w.opened_kept (by simp) was)
      (fun _ => restarted) (fun _ => restarted) restarted fun _ _ => (enterTripped_atRest _).2
  · exact opened

/-! ### What a confirmed contactor leaves of the berth bus -/

theorem enterOnline_berth (s : State) : (enterOnline s).btr.berthState = s.btr.berthState := by
  unfold enterOnline
  split <;> rfl

theorem reportClosed_berth (s : State) : (reportClosed s).btr.berthState = s.btr.berthState := by
  unfold reportClosed
  split
  · exact enterOnline_berth s
  · rfl

/-- The bad frames of an attempt counted change LKC and PRU alone (R45). -/
theorem countBads_beside (n : Nat) (s : State) :
    (countBads n s).ssc = s.ssc ∧ (countBads n s).btr = s.btr ∧ (countBads n s).syn = s.syn := by
  induction n generalizing s with
  | zero => exact ⟨rfl, rfl, rfl⟩
  | succ n ih =>
    obtain ⟨p, same⟩ := countBad_only s
    rw [countBads_succ]
    obtain ⟨ssc, btr, syn⟩ := ih (countBad s)
    rw [ssc, btr, syn, same]
    exact ⟨rfl, rfl, rfl⟩

/-! ### The two commands that command it closed -/

/-- R113's law of one command. -/
def ClosesLawfully (s t : State) : Prop :=
  s.ssc.station = .joining ∧
    (t.btr.berthState = .live ∨
      s.btr.berthState = .dead ∧ (s.syn.claim = .free ∨ s.syn.claim = .expired) ∧ ∃ time, t.syn.claim = .own time)

theorem joinDwellComplete_closes (h : execJoinDwellComplete s = .next t) (opened : s.syn.cmdClosed = false)
    (closed : t.syn.cmdClosed = true) : ClosesLawfully s t := by
  have still {u : State} (same : u.syn = s.syn) (closed : u.syn.cmdClosed = true) : False := by
    rw [same, opened] at closed
    cases closed
  unfold execJoinDwellComplete running at h
  obtain rfl := Host.Outcome.next.inj h
  split at closed
  next run =>
    rw [if_pos run]
    rw [announcing, announce_syn] at closed
    split at closed
    next met =>
      refine ⟨met.1, .inl ?_⟩
      cases dwell : s.syn.joinDwell with
      | none => rw [onExpiry_none dwell] at closed; exact (still rfl closed).elim
      | some start =>
        rw [announcing, announce_btr, if_pos met, onExpiry_some dwell, joinDwellDone, reportClosed_berth, orderContactor_btr]
        exact met.2.1
    next => exact (still rfl closed).elim
  next => exact (still rfl closed).elim

theorem claim_idle {c : Claim} (idle : c.idle = true) : c = .free ∨ c = .expired := by
  cases c with
  | free => exact .inl rfl
  | expired => exact .inr rfl
  | own => cases idle
  | foreign => cases idle

theorem ownClaimSeen_closes (opened : s.syn.cmdClosed = false) (closed : (ownClaimSeen s).syn.cmdClosed = true) :
    ClosesLawfully s (ownClaimSeen s) := by
  by_cases met : s.ssc.station = .joining ∧ s.btr.berthState = .dead ∧ s.syn.claim.idle = true
  · refine ⟨met.1, .inr ⟨met.2.1, claim_idle met.2.2, s.now, ?_⟩⟩
    rw [ownClaimSeen, if_pos met]
    simp [orderContactor, setPermit, commandContactor, Syn.command, opened]
  · rw [ownClaimSeen, if_neg met, opened] at closed
    cases closed

theorem execOwnFrameSeen_cases (h : execOwnFrameSeen s = .next t) :
    t = s ∨ ∃ a, s.lkc.attempt = some a ∧ t = ownFrameSeen a s := by
  have taken : (if s.phase = .run then onLink (fun s =>
      match s.lkc.attempt with
      | none => s
      | some a => ownFrameSeen a s) s else s) = t := Host.Outcome.next.inj h
  unfold onLink at taken
  split_ifs at taken
  · dsimp only at taken
    split at taken
    · exact .inl taken.symm
    next a attempt => exact .inr ⟨a, attempt, taken.symm⟩
  · exact .inl taken.symm
  · exact .inl taken.symm

theorem ownFrame_closes (h : execOwnFrameSeen s = .next t) (opened : s.syn.cmdClosed = false)
    (closed : t.syn.cmdClosed = true) : ClosesLawfully s t := by
  have still {u : State} (same : u.syn = s.syn) (closed : u.syn.cmdClosed = true) : False := by
    rw [same, opened] at closed
    cases closed
  rcases execOwnFrameSeen_cases h with rfl | ⟨a, -, rfl⟩
  · exact (still rfl closed).elim
  · obtain ⟨ssc, btr, syn⟩ := countBads_beside a.bad { s with lkc := s.lkc.seen a }
    unfold ownFrameSeen sentNotice at closed ⊢
    split at closed
    next => exact (still syn closed).elim
    next other =>
      rw [if_neg other]
      split at closed
      next claim =>
        rw [if_pos claim]
        have law := ownClaimSeen_closes (by rw [syn]; exact opened) closed
        rw [ClosesLawfully, ssc, btr, syn] at law
        exact law
      next => exact (still syn closed).elim

theorem leaveOf_closes {c : Instr} (s : State) (closes : .closes ∈ leaveOf c s) : c = .joinDwellComplete ∨ c = .ownFrameSeen := by
  have none : Leave.closes ∉ metering s := by
    unfold metering
    split <;> simp
  cases c with
  | joinDwellComplete => exact .inl rfl
  | ownFrameSeen => exact .inr rfl
  | carrierPeriodStart => simp [leaveOf, none] at closes
  | recordComplete => exact absurd closes none
  | startMarkerWrong => exact absurd closes none
  | _ => simp [leaveOf] at closes

theorem exec_closes {c : Instr} (h : exec c s = .next t) (opened : s.syn.cmdClosed = false) (closed : t.syn.cmdClosed = true) :
    ClosesLawfully s t := by
  have still (same : t.syn.cmdClosed = false) : ClosesLawfully s t := by rw [same] at closed; cases closed
  cases reset : isReset c with
  | true => exact still (reset_opened reset h opened)
  | false =>
    by_cases closes : .closes ∈ leaveOf c s
    · rcases leaveOf_closes s closes with rfl | rfl
      · exact joinDwellComplete_closes h opened closed
      · exact ownFrame_closes h opened closed
    · exact still ((exec_work reset h).opened_kept closes opened)

end

/-- Settles O44: no piece of work but two commands' commands the contactor closed. -/
theorem contactorClosesOnALiveBusOrAnOwnClaim : Obligations.ContactorClosesOnALiveBusOrAnOwnClaim := by
  intro s t h opened closed
  rcases step_cases h with ⟨c, rest, -, run⟩ | ⟨d, rest, -, -, rfl⟩ | ⟨-, -, rfl⟩
  · exact exec_closes (s := { s with pending := rest }) run opened closed
  · rw [show (hear d { s with pair := rest }).syn = s.syn from rfl, opened] at closed
    cases closed
  · rw [opened] at closed
    cases closed

end Sys2Proof.Machine
end

/-! PROOFS. The laws of one step: R172's held conditions, and R145's meter. -/
section
namespace Sys2Proof.Machine

section
variable {leave : List Leave} {s t : State} {x : Condition}

/-! ### R172, R177: a held condition stays -/

theorem submit_held (f : Frame) (held : x ∈ s.pru.held) : x ∈ (submit f s).pru.held := by
  rcases submit_pru f s with same | same <;> rw [same]
  · exact held
  · exact hold_grows _ s x held

theorem enterTripped_pru (s : State) : (enterTripped s).pru = s.pru := by simp [enterTripped]

theorem enterStandby_pru (s : State) : (enterStandby s).pru = (standbyStatus s.ssc.station (moveTo .standby (clearClosed s))).pru := by
  simp only [enterStandby, settled_pru]

theorem standbyStatus_held (was : StationState) (held : x ∈ s.pru.held) : x ∈ (standbyStatus was s).pru.held := by
  unfold standbyStatus
  split
  · exact submit_held _ held
  · exact held

/-- Without a clearing nothing leaves the held set. -/
theorem Work.held_kept (keeps : .clears ∉ leave) (w : Work leave s t) (held : x ∈ s.pru.held) : x ∈ t.pru.held := by
  induction w with
  | trans _ _ first second => exact second (first held)
  | submit f s => exact submit_held f held
  | hold c s => exact hold_grows c s x held
  | cause s p same => exact same ▸ held
  | clear s clears => exact absurd clears keeps
  | tripped s p _ _ grows => rw [enterTripped_pru]; exact grows x held
  | closing s => rw [enterClosing_pru]; exact held
  | standby s => rw [enterStandby_pru]; exact standbyStatus_held _ held
  | shipJudged s => rw [shipJudged_pru]; exact held
  | seek s => rw [enterShipSync_pru]; exact held
  | wake s => rw [enterPrepared_pru]; exact held
  | _ => exact held

/-- The warm reset keeps what is held, and the cold reset is excluded. -/
theorem reset_held {c : Instr} (reset : isReset c = true) (h : exec c s = .next t)
    (warm : ∀ a r l p q z, c ≠ .coldReset a r l p q z) (up : ∀ p, c ≠ .rstNAsserted p) (held : x ∈ s.pru.held) :
    x ∈ t.pru.held := by
  cases c with
  | coldReset => exact absurd rfl (warm _ _ _ _ _ _)
  | rstNAsserted => exact absurd rfl (up _)
  | warmReset =>
    obtain rfl : (if s.phase = .run then (if s.ssc.station = .invalid then s else warmAsserted s) else s) = t :=
      Host.Outcome.next.inj h
    split_ifs <;> exact held
  | warmResetEnd =>
    obtain rfl : (if s.phase = .restartLow then warmEnded s else s) = t := Host.Outcome.next.inj h
    split
    · have pru : (warmRestarted s).pru = (hold .restarted s).pru := by simp [warmRestarted]
      have restarted : x ∈ (warmRestarted s).pru.held := by rw [pru]; exact hold_grows _ s x held
      exact warmEnded_keeps (P := fun u => x ∈ u.pru.held) (fun _ _ w was => w.held_kept (by simp) was) (fun _ => restarted)
        (fun _ => restarted) restarted fun p same => by rw [enterTripped_pru]; exact same ▸ restarted
    · exact held
  | _ => cases reset

/-! ### What a frame's command comes to -/

theorem onLink_cases {f : State → State} (h : running (onLink f) s = .next t) : t = s ∨ s.lkc.enabled = true ∧ t = f s := by
  have taken : (if s.phase = .run then onLink f s else s) = t := Host.Outcome.next.inj h
  unfold onLink at taken
  split_ifs at taken with run enabled
  · exact .inr ⟨enabled, taken.symm⟩
  · exact .inl taken.symm
  · exact .inl taken.symm

/-- The commands that a REQUEST may stand behind which opens a session or clears: nothing, a bad frame, or a good one. -/
theorem frame_cases {c : Instr} (asks : .opens ∈ leaveOf c s ∨ .clears ∈ leaveOf c s) (h : exec c s = .next t) :
    t = s ∨ t = frameBad s ∨ s.lkc.enabled = true ∧ ∃ r, t = frameEnded r s := by
  have one {r : Received} (h : running (onLink (frameEnded r)) s = .next t) :
      t = s ∨ t = frameBad s ∨ s.lkc.enabled = true ∧ ∃ r, t = frameEnded r s := by
    rcases onLink_cases h with same | ⟨enabled, taken⟩
    · exact .inl same
    · exact .inr (.inr ⟨enabled, r, taken⟩)
  have none : Leave.opens ∉ metering s ∧ Leave.clears ∉ metering s := by
    unfold metering
    split <;> simp
  cases c with
  | prepare => exact one h
  | clear => exact one h
  | malformedRequest => exact one h
  | frameDropped => exact one h
  | badFrame bytes =>
    rcases onLink_cases (show running (onLink _) s = .next t from h) with same | ⟨enabled, taken⟩
    · exact .inl same
    · split at taken
      next r _ => exact .inr (.inr ⟨enabled, r, taken⟩)
      next => exact .inr (.inl taken)
  | carrierPeriodStart => simp [leaveOf, none] at asks
  | recordComplete => exact absurd asks (not_or.mpr none)
  | startMarkerWrong => exact absurd asks (not_or.mpr none)
  | _ => simp [leaveOf] at asks

/-- A frame whose kind and content ask for a request: taken from the panel alone (R44). -/
theorem deliver_asks {r : Received} {kind : Nat} (asks : r.asks kind) (s : State) :
    deliver r s = s ∨ r.sender.toNat = 15 ∧ deliver r s = requestTaken r.payload s := by
  unfold deliver
  rw [asks.1]
  dsimp only
  split
  · exact .inl rfl
  · split
    next named => exact .inr ⟨named.1, rfl⟩
    next => exact .inl rfl

theorem causeLive_withRx (rx : RxState) (s : State) (x : Condition) : causeLive (withRx rx s) x = causeLive s x := by
  cases x <;> rfl

/-- A CLEAR keeps the conditions whose causes are live (R177). -/
theorem clearTaken_held (number : Byte) (params : List Byte) (live : causeLive s x = true) (held : x ∈ s.pru.held) :
    x ∈ (clearTaken number params s).pru.held := by
  have kept : x ∈ (clearHeld s).pru.held := List.mem_filter.mpr ⟨held, live⟩
  unfold clearTaken
  split
  · exact (Work.after (leave := []) (answer_work ..) (cleared_tail s)).held_kept (by simp) kept
  · exact (answer_work (leave := []) ..).held_kept (by simp) held

theorem requestTaken_held {payload : List Byte} (live : causeLive s x = true) (held : x ∈ s.pru.held) :
    x ∈ (requestTaken payload s).pru.held := by
  by_cases six : (payload.getD 2 0).toNat = 6
  · have taken : requestTaken payload s = clearTaken (payload.getD 1 0) (payload.drop 3) s := by
      simp only [requestTaken, six]
    rw [taken]
    exact clearTaken_held _ _ live held
  · exact (requestTaken_work (leave := [.opens]) payload (fun _ _ => by simp) (absurd · six)).held_kept (by simp) held

/-- A panel's frame is never taken for one of a station's own (R51). -/
theorem duplicateChecked_panel {sender : Addr} (panel : sender.toNat = 15) (own : isStation s.addr = true) :
    duplicateChecked sender s = s := by
  refine if_neg fun same => ?_
  simp only [isStation, decide_eq_true_eq] at own
  rw [← same] at own
  omega

theorem frameEnded_held {r : Received} (enabled : s.lkc.enabled = true) (own : isStation s.addr = true)
    (live : causeLive s x = true) (held : x ∈ s.pru.held) : x ∈ (frameEnded r s).pru.held := by
  by_cases asks : r.asks 6
  · have heard : Work [] s (duplicateChecked r.sender (withRx .hunt s)) :=
      .after (duplicateChecked_work _ _) (withRx_work _ s)
    unfold frameEnded
    split
    · rcases deliver_asks asks (duplicateChecked r.sender (withRx .hunt s)) with same | ⟨panel, same⟩ <;> rw [same]
      · exact heard.held_kept (by simp) held
      · rw [duplicateChecked_panel (s := withRx .hunt s) panel own]
        exact requestTaken_held ((causeLive_withRx .hunt s x).trans live) held
    · exact (frameBad_work (leave := []) s).held_kept (by simp) held
  · exact (frameEnded_work (leave := [.opens]) (fun _ => by simp) (absurd · asks) enabled).held_kept (by simp) held

theorem leaveOf_clears {c : Instr} (clear : ∀ a n p, c ≠ .clear a n p) (malformed : ∀ p, c ≠ .malformedRequest p)
    (bad : ∀ b, c ≠ .badFrame b) (dropped : ∀ k a f p, c ≠ .frameDropped k a f p) (s : State) : .clears ∉ leaveOf c s := by
  have none : Leave.clears ∉ metering s := by
    unfold metering
    split <;> simp
  cases c with
  | clear => exact absurd rfl (clear _ _ _)
  | malformedRequest => exact absurd rfl (malformed _)
  | badFrame => exact absurd rfl (bad _)
  | frameDropped => exact absurd rfl (dropped _ _ _ _)
  | carrierPeriodStart => simp [leaveOf, none]
  | recordComplete => exact none
  | startMarkerWrong => exact none
  | _ => simp [leaveOf]

end

/-- Settles O60: only a CLEAR clears, and it keeps what is live. -/
theorem heldConditionsStay : Obligations.HeldConditionsStay := by
  intro s t c x h held warm up
  cases reset : isReset c with
  | true =>
    have kept := reset_held reset h warm up held
    exact ⟨fun _ _ _ _ => kept, fun _ _ => kept⟩
  | false =>
    have w := exec_work reset h
    refine ⟨fun clear malformed bad dropped => w.held_kept (leaveOf_clears clear malformed bad dropped s) held,
      fun own live => ?_⟩
    by_cases clears : .clears ∈ leaveOf c s
    · rcases frame_cases (.inr clears) h with rfl | rfl | ⟨enabled, r, rfl⟩
      · exact held
      · exact (frameBad_work (leave := []) s).held_kept (by simp) held
      · exact frameEnded_held enabled own live held
    · exact w.held_kept clears held

end Sys2Proof.Machine
end

/-! PROOFS. The laws of one step: R145's meter. -/
section
namespace Sys2Proof.Machine

section
variable {leave : List Leave} {s t u : State}

/-! ### R145: the session's energy -/

/-- The second state's session energy is that of the first. -/
def EnergyFrom (s t : State) : Prop :=
  ∀ n, t.emt = some n → ∃ m, s.emt = some m ∧ n.sessionFwd = m.sessionFwd ∧ n.sessionRev = m.sessionRev

/-- The second state's session energy is no less than that of the first. -/
def EnergyRises (s t : State) : Prop :=
  ∀ n, t.emt = some n → ∃ m, s.emt = some m ∧ m.sessionFwd ≤ n.sessionFwd ∧ m.sessionRev ≤ n.sessionRev

theorem EnergyFrom.of_same (same : t.emt = s.emt) : EnergyFrom s t := fun n h => ⟨n, same ▸ h, rfl, rfl⟩

theorem EnergyFrom.trans (first : EnergyFrom s t) (second : EnergyFrom t u) : EnergyFrom s u := by
  intro n h
  obtain ⟨m, had, fwd, rev⟩ := second n h
  obtain ⟨l, was, fwd', rev'⟩ := first m had
  exact ⟨l, was, fwd.trans fwd', rev.trans rev'⟩

theorem EnergyFrom.rises (same : EnergyFrom s t) : EnergyRises s t := by
  intro n h
  obtain ⟨m, had, fwd, rev⟩ := same n h
  exact ⟨m, had, fwd.ge, rev.ge⟩

theorem EnergyRises.trans (first : EnergyRises s t) (second : EnergyRises t u) : EnergyRises s u := by
  intro n h
  obtain ⟨m, had, fwd, rev⟩ := second n h
  obtain ⟨l, was, fwd', rev'⟩ := first m had
  exact ⟨l, was, fwd'.trans fwd, rev'.trans rev⟩

theorem enterTripped_energy (s : State) : EnergyFrom s (enterTripped s) :=
  fun _ h => (enterTripped_emt h).imp fun _ same => ⟨same.1, same.2.2⟩

/-- Without a session opened and a sample integrated the session's energy stands. -/
theorem Work.energy_kept (asleep : .opens ∉ leave) (still : .meters ∉ leave) (w : Work leave s t) : EnergyFrom s t := by
  induction w with
  | trans _ _ first second => exact first.trans second
  | record r owner s => exact fun _ h => (submitRecord_emt h).imp fun _ same => ⟨same.1, same.2.2⟩
  | tripped s p => exact enterTripped_energy { s with pru := p }
  | closing s => exact .of_same (enterClosing_emt _)
  | standby s => exact fun n h => ⟨n, clearClosed_emt (enterStandby_emt s ▸ h), rfl, rfl⟩
  | shipJudged s => exact .of_same (shipJudged_emt s)
  | seek s => exact .of_same (enterShipSync_emt s)
  | meter s e _ same => exact fun n h => (same n h).imp fun _ kept => ⟨kept.1, kept.2.2⟩
  | integrate p s meters => exact absurd meters still
  | session s c e opens => exact absurd opens asleep
  | _ => exact .of_same rfl

theorem integrate_rises (p : Int) (s : State) : EnergyRises s (integrate p s) := by
  intro n h
  simp only [integrate] at h
  split at h
  · obtain ⟨m, had, rfl⟩ := Option.map_eq_some_iff.mp h
    exact ⟨m, had, Nat.le_add_right .., Nat.le_add_right ..⟩
  · exact ⟨n, h, le_rfl, le_rfl⟩

theorem Work.energy_rises (asleep : .opens ∉ leave) (w : Work leave s t) : EnergyRises s t := by
  induction w with
  | trans _ _ first second => exact first.trans second
  | record r owner s => exact EnergyFrom.rises fun _ h => (submitRecord_emt h).imp fun _ same => ⟨same.1, same.2.2⟩
  | tripped s p => exact (enterTripped_energy { s with pru := p }).rises
  | closing s => exact (EnergyFrom.of_same (enterClosing_emt _)).rises
  | standby s => exact EnergyFrom.rises fun n h => ⟨n, clearClosed_emt (enterStandby_emt s ▸ h), rfl, rfl⟩
  | shipJudged s => exact (EnergyFrom.of_same (shipJudged_emt s)).rises
  | seek s => exact (EnergyFrom.of_same (enterShipSync_emt s)).rises
  | meter s e _ same => exact EnergyFrom.rises fun n h => (same n h).imp fun _ kept => ⟨kept.1, kept.2.2⟩
  | integrate p s => exact integrate_rises p s
  | session s c e opens => exact absurd opens asleep
  | _ => exact (EnergyFrom.of_same rfl).rises

theorem reset_energy {c : Instr} (reset : isReset c = true) (h : exec c s = .next t) : EnergyFrom s t := by
  rcases reset_cases reset h with ⟨addr, rating, linkRate, ccAux, sbAux, tripIn, rfl⟩ | ⟨powerLost, rfl⟩ | ⟨rfl, -, -⟩ |
    ⟨rfl, -⟩ | rfl
  · intro n held
    obtain ⟨m, none, -⟩ := (raiseIf_work (leave := []) tripIn .tripInput
      (coldStart addr rating linkRate ccAux sbAux tripIn s)).energy_kept (by simp) (by simp) n held
    cases none
  · exact nofun
  · intro n held
    obtain ⟨m, had, rfl⟩ := Option.map_eq_some_iff.mp held
    exact ⟨m, had, rfl, rfl⟩
  · have restarted : EnergyFrom s (warmRestarted s) :=
      fun n held => (warmRestarted_emt held).imp fun m same => ⟨same.1, same.2.2⟩
    have stands {x : StationState} : EnergyFrom s (stood x (warmRestarted s)) :=
      fun n held => restarted n (clearClosed_emt held)
    exact warmEnded_keeps (P := EnergyFrom s) (fun _ _ w was => was.trans (w.energy_kept (by simp) (by simp)))
      (fun _ => restarted) (fun _ => stands) stands fun p _ => restarted.trans (enterTripped_energy
        { warmRestarted s with pvw := { (warmRestarted s).pvw with shipStale := true }, pru := p })
  · exact .of_same rfl

/-! ### PREPARE -/

/-- A context settled under the id it had keeps its energy; under another id it is another's (R89 to R91). -/
theorem settleSession_energy {p : PrepareParams} {i : SessionId} (held : sessionId s = some i)
    (same : sessionId (settleSession p s) = some i) : EnergyFrom s (settleSession p s) := by
  unfold settleSession at same ⊢
  rw [held] at same ⊢
  dsimp only at same ⊢
  split
  · exact (resumeSession_work (leave := []) p s).energy_kept (by simp) (by simp)
  next other =>
    rw [if_neg other, openSession, sessionId, recordOpening_ssc] at same
    exact absurd (Option.some.inj same).symm other

theorem woken_emt (p : PrepareParams) (s : State) :
    (announcing (fun x => enterPrepared (settleSession p x)) s).emt = (settleSession p s).emt := by
  simp only [announcing, announce_emt, enterPrepared, settled_emt, moveTo_emt]

theorem woken_session (p : PrepareParams) (s : State) :
    (announcing (fun x => enterPrepared (settleSession p x)) s).ssc.session = (settleSession p s).ssc.session := by
  simp only [announcing, announce_ssc, enterPrepared, settled_ssc, moveTo]

theorem prepareTaken_energy {number : Byte} {params : List Byte} {i : SessionId} (held : sessionId s = some i)
    (same : sessionId (prepareTaken number params s) = some i) : EnergyFrom s (prepareTaken number params s) := by
  unfold prepareTaken at same ⊢
  dsimp only at same ⊢
  split at same
  · rw [sessionId, answer, submit_ssc] at same
    split at same
    next standby =>
      rw [if_pos standby]
      rw [woken_session] at same
      exact (settleSession_energy held same).trans (.of_same (by rw [answer, submit_emt, woken_emt]))
    next other =>
      rw [if_neg other]
      exact .of_same (submit_emt ..)
  · exact .of_same (submit_emt ..)

/-- The duplicate-address check leaves SSC and the meter, or trips (R51). -/
theorem duplicateChecked_standby {sender : Addr} (standby : (duplicateChecked sender s).ssc.station = .standby) :
    (duplicateChecked sender s).ssc = s.ssc ∧ (duplicateChecked sender s).emt = s.emt := by
  unfold duplicateChecked at standby ⊢
  split at standby
  next own =>
    rw [if_pos own]
    rcases raise_cases .duplicateAddress { s with lkc := { s.lkc with dup := some s.now } } with same | ⟨-, -, -, trip⟩
    · rw [same]; exact ⟨rfl, rfl⟩
    · rw [trip, tripWith_station] at standby; cases standby
  next other => rw [if_neg other]; exact ⟨rfl, rfl⟩

theorem sessionId_of_open (opened : sessionOpen s = true) : ∃ i, sessionId s = some i := by
  cases session : s.ssc.session with
  | none => rw [sessionOpen, session] at opened; cases opened
  | some c => exact ⟨c.id, by rw [sessionId, session]; rfl⟩

theorem frameEnded_energy {r : Received} (enabled : s.lkc.enabled = true) (opened : sessionOpen s = true)
    (same : sessionId s = sessionId (frameEnded r s)) : EnergyFrom s (frameEnded r s) := by
  have heard : Work [] s (duplicateChecked r.sender (withRx .hunt s)) :=
    .after (duplicateChecked_work _ _) (withRx_work _ s)
  have first := heard.energy_kept (by simp) (by simp)
  by_cases prepares : r.asks 1 ∧ (duplicateChecked r.sender (withRx .hunt s)).ssc.station = .standby
  · unfold frameEnded at same ⊢
    split
    next good =>
      rw [if_pos good] at same
      rcases deliver_asks prepares.1 (duplicateChecked r.sender (withRx .hunt s)) with none | ⟨-, taken⟩
      · rw [none]; exact first
      · have prepare (v : State) : requestTaken r.payload v = prepareTaken (r.payload.getD 1 0) (r.payload.drop 3) v := by
          simp only [requestTaken, prepares.1.2]
        rw [taken, prepare] at same ⊢
        obtain ⟨i, held⟩ := sessionId_of_open opened
        obtain ⟨ssc, -⟩ := duplicateChecked_standby prepares.2
        have before : sessionId (duplicateChecked r.sender (withRx .hunt s)) = some i := by
          rw [sessionId, ssc]; exact held
        exact first.trans (prepareTaken_energy before (same.symm.trans held))
    next => exact (frameBad_work (leave := []) s).energy_kept (by simp) (by simp)
  · have w : Work [.clears] s (frameEnded r s) := by
      have heard : Work [.clears] s (duplicateChecked r.sender (withRx .hunt s)) :=
        .after (duplicateChecked_work _ _) (withRx_work _ s)
      unfold frameEnded
      split
      · exact .after (deliver_work (fun asks standby => absurd ⟨asks, standby⟩ prepares) (fun _ => by simp)
          (heard.enabled.trans enabled)) heard
      · exact frameBad_work s
    exact w.energy_kept (by simp) (by simp)

theorem leaveOf_meters {c : Instr} (s : State) (meters : .meters ∈ leaveOf c s) :
    (s.sbAux = true ∧ s.ccAux = true) ∧ .opens ∉ leaveOf c s := by
  have both (h : Leave.meters ∈ metering s) : s.sbAux = true ∧ s.ccAux = true := by
    by_contra not
    rw [metering, if_neg not] at h
    cases h
  have none : Leave.opens ∉ metering s := by
    unfold metering
    split <;> simp
  cases c with
  | carrierPeriodStart => exact ⟨both (by simpa [leaveOf] using meters), by simpa [leaveOf] using none⟩
  | recordComplete => exact ⟨both meters, none⟩
  | startMarkerWrong => exact ⟨both meters, none⟩
  | _ => simp [leaveOf] at meters

/-- The session's energy stands, or rises where both auxiliaries report closed. -/
theorem exec_energy {c : Instr} (h : exec c s = .next t) (opened : sessionOpen s = true) (same : sessionId s = sessionId t) :
    EnergyFrom s t ∨ EnergyRises s t ∧ s.sbAux = true ∧ s.ccAux = true := by
  cases reset : isReset c with
  | true => exact .inl (reset_energy reset h)
  | false =>
    have w := exec_work reset h
    by_cases meters : .meters ∈ leaveOf c s
    · obtain ⟨both, asleep⟩ := leaveOf_meters s meters
      exact .inr ⟨w.energy_rises asleep, both⟩
    · refine .inl ?_
      by_cases opens : .opens ∈ leaveOf c s
      · rcases frame_cases (.inl opens) h with rfl | rfl | ⟨enabled, r, rfl⟩
        · exact .of_same rfl
        · exact (frameBad_work (leave := []) s).energy_kept (by simp) (by simp)
        · exact frameEnded_energy enabled opened same
      · exact w.energy_kept opens meters

theorem step_energy (h : step s = .next t) (opened : sessionOpen s = true) (same : sessionId s = sessionId t) :
    EnergyFrom s t ∨ EnergyRises s t ∧ s.sbAux = true ∧ s.ccAux = true := by
  rcases step_cases h with ⟨c, rest, -, run⟩ | ⟨d, rest, -, -, rfl⟩ | ⟨-, -, rfl⟩
  · exact exec_energy (s := { s with pending := rest }) run opened same
  · exact .inl (.of_same rfl)
  · exact .inl (.of_same rfl)

end

/-- Settles O10: the balance by the induction over the pieces of work; the energy moves by the integration alone, which asks
for both auxiliaries. -/
theorem energyBalancesAndOnlyRises : Obligations.EnergyBalancesAndOnlyRises := by
  refine ⟨fun _ _ => EveryStep.meterLaw, fun s t m n h opened same held holds => ?_⟩
  rcases step_energy h opened same with stands | ⟨rises, both⟩
  · obtain ⟨m', had, fwd, rev⟩ := stands n holds
    obtain rfl := Option.some.inj (held.symm.trans had)
    rw [fwd, rev]
    exact ⟨le_rfl, le_rfl, fun more => more.elim (absurd · (lt_irrefl _)) (absurd · (lt_irrefl _))⟩
  · obtain ⟨m', had, fwd, rev⟩ := rises n holds
    obtain rfl := Option.some.inj (held.symm.trans had)
    exact ⟨fwd, rev, fun _ => both⟩

/-! ### The three statements about step, reset and invariants -/

/-- Settles O1. -/
theorem stepTakesFrontCommand : Obligations.StepTakesFrontCommand := by
  refine ⟨fun c rest s => rfl, fun s empty => ⟨fun d rest pair => ?_, fun pair => ?_⟩⟩ <;> simp only [step, empty, pair]

/-- Settles O2: a state written out, of which every invariant speaks trivially. -/
theorem resetIsAtRestAndMeetsTheInvariants : Obligations.ResetIsAtRestAndMeetsTheInvariants := by
  refine ⟨by decide, .of_rest ⟨rfl, rfl⟩ nofun, ⟨by decide, by decide, by decide⟩, ⟨by decide, by decide⟩, ⟨nofun, nofun⟩,
    .of_empty rfl ?_, .of_open nofun rfl nofun, .of_unready rfl rfl, ⟨nofun, nofun, by decide⟩, nofun, ?_⟩
  · rintro (on | low | ⟨run, -⟩)
    · cases on
    · cases low
    · cases run
  · exact .of_reset (.of_initial State.reset_mem_wf nofun) rfl rfl rfl rfl

/-- The entries' addresses are distinct station addresses other than the own: at most 11. -/
theorem viewLaw_of_inv {s : State} (inv : ViewInv s) : ViewLaw s := by
  obtain ⟨rising, stations, own⟩ := inv
  have distinct : (s.pvw.peers.map (·.addr)).Nodup :=
    List.pairwise_map.mpr (rising.imp fun below same => by rw [same] at below; exact absurd below (BitVec.lt_irrefl _))
  refine ⟨distinct, fun e h => (stations e h).2, ?_⟩
  by_cases empty : s.pvw.peers = []
  · rw [empty]; decide
  · have station := own (.inr (.inl empty))
    have numbers : (s.pvw.peers.map fun e => e.addr.toNat).Nodup := by
      have := distinct.map (f := BitVec.toNat) fun _ _ => BitVec.eq_of_toNat_eq
      rwa [List.map_map] at this
    have inside : (s.pvw.peers.map fun e => e.addr.toNat).toFinset ⊆ (Finset.Icc 1 12).erase s.addr.toNat := by
      intro n h
      obtain ⟨e, member, rfl⟩ := List.mem_map.mp (List.mem_toFinset.mp h)
      obtain ⟨named, other⟩ := stations e member
      simp only [isStation, decide_eq_true_eq] at named
      exact Finset.mem_erase.mpr ⟨fun same => other (BitVec.eq_of_toNat_eq same), Finset.mem_Icc.mpr named⟩
    have count := Finset.card_le_card inside
    rw [List.toFinset_card_of_nodup numbers, List.length_map, Finset.card_erase_of_mem, Nat.card_Icc] at count
    · exact count
    · simpa [isStation] using station

/-- Settles O3. -/
theorem invariantsGiveTheDeviceLaws : Obligations.InvariantsGiveTheDeviceLaws := by
  intro s
  refine ⟨fun inv held => ?_, fun inv => ?_, fun inv connected => inv.1 (shipConnected_serving connected), fun inv => ?_,
    fun inv => inv.1⟩
  · by_cases run : s.phase = .run
    · refine inv.1 (.inr ?_)
      rcases inv.2 run held with h | h | h <;> rw [h] <;> rfl
    · exact inv.1 (.inl run)
  · exact viewLaw_of_inv inv
  · intro released closed
    rw [inv.1, permitRule] at released
    simp only [Bool.or_eq_true, Bool.and_eq_true, Bool.not_eq_true'] at released
    rcases released with ⟨opened, clear⟩ | ⟨-, ready⟩
    · rcases closed with command | report
      · rw [opened] at command; cases command
      · rw [clear] at report; cases report
    · exact (inv.2 ready).2

end Sys2Proof.Machine
end

/-! PROOFS. Requests (chapter 6): how a REQUEST that names the station is answered, and what a refusal leaves. -/
section
namespace Sys2Proof.Machine

section
variable {s : State} {target number : Byte} {ps : List Byte}

/-! ### A REQUEST that names the station, kind by kind (R44, R99) -/

theorem exec_prepare_of_named (number : Byte) (ps : List Byte) (named : Named target s) :
    exec (.prepare target number ps) s = .next (prepareTaken number ps (withRx .hunt s)) := by
  have dispatched : exec (.prepare target number ps) s = execPrepare target number ps s := rfl
  rw [dispatched, execPrepare, running_run named.run, onLink_request_of_named _ named]
  rfl

theorem exec_shipSync_of_named (number : Byte) (ps : List Byte) (named : Named target s) :
    exec (.shipSync target number ps) s = .next (shipSyncTaken number ps (withRx .hunt s)) := by
  have dispatched : exec (.shipSync target number ps) s = execShipSync target number ps s := rfl
  rw [dispatched, execShipSync, running_run named.run, onLink_request_of_named _ named]
  rfl

theorem exec_returnLoad_of_named (number : Byte) (ps : List Byte) (named : Named target s) :
    exec (.returnLoad target number ps) s = .next (returnTaken number ps (withRx .hunt s)) := by
  have dispatched : exec (.returnLoad target number ps) s = execReturnLoad target number ps s := rfl
  rw [dispatched, execReturnLoad, running_run named.run, onLink_request_of_named _ named]
  rfl

theorem exec_disconnect_of_named (number : Byte) (ps : List Byte) (named : Named target s) :
    exec (.disconnect target number ps) s = .next (disconnectTaken number ps (withRx .hunt s)) := by
  have dispatched : exec (.disconnect target number ps) s = execDisconnect target number ps s := rfl
  rw [dispatched, execDisconnect, running_run named.run, onLink_request_of_named _ named]
  rfl

theorem exec_clear_of_named (number : Byte) (ps : List Byte) (named : Named target s) :
    exec (.clear target number ps) s = .next (clearTaken number ps (withRx .hunt s)) := by
  have dispatched : exec (.clear target number ps) s = execClear target number ps s := rfl
  rw [dispatched, execClear, running_run named.run, onLink_request_of_named _ named]
  rfl

theorem exec_readLog_of_named (number : Byte) (ps : List Byte) (named : Named target s) :
    exec (.readLog target number ps) s = .next (readLogTaken number ps (withRx .hunt s)) := by
  have dispatched : exec (.readLog target number ps) s = execReadLog target number ps s := rfl
  rw [dispatched, execReadLog, running_run named.run, onLink_request_of_named _ named]
  rfl

theorem exec_configStore_of_named (number : Byte) (ps : List Byte) (named : Named target s) :
    exec (.configStore target number ps) s = .next (configStoreTaken number ps (withRx .hunt s)) := by
  have dispatched : exec (.configStore target number ps) s = execConfigStore target number ps s := rfl
  rw [dispatched, execConfigStore, running_run named.run, onLink_request_of_named _ named]
  rfl

theorem exec_malformed_of_named (rest : List Byte) (named : Named target s) :
    exec (.malformedRequest (target :: rest)) s = .next (requestTaken (target :: rest) (withRx .hunt s)) := by
  have dispatched : exec (.malformedRequest (target :: rest)) s = execMalformedRequest (target :: rest) s := rfl
  rw [dispatched, execMalformedRequest, running_run named.run, onLink_request_of_named _ named]

/-! ### The REPLY (R99) -/

/-- The answer to a REQUEST just received puts its REPLY at the tail and changes nothing else. -/
theorem answer_of_room (number : Byte) (kind : Nat) (reason : Reason) (data : List Byte) (enabled : s.lkc.enabled = true)
    (room : s.lkc.queue.length < 8) :
    answer number (BitVec.ofNat 8 kind) reason data (withRx .hunt s) =
      onlyReplied number kind (if reason = .accepted then 0 else 1) reason.code (if reason = .accepted then data else []) s := by
  have queued : (submit (replyFrame number (BitVec.ofNat 8 kind) reason data) (withRx .hunt s)).lkc =
      (withRx .hunt s).lkc.push _ :=
    congrArg Prod.fst (enqueue_reply (l := (withRx .hunt s).lkc) s.ssc.station.listening rfl enabled room)
  rw [answer, submit_of_room (s := withRx .hunt s) rfl room, queued]
  cases reason <;> rfl

theorem refused_of_room (number : Byte) (kind : Nat) {reason : Reason} (refuses : reason ≠ .accepted) (named : Named target s)
    (room : s.lkc.queue.length < 8) :
    answer number (BitVec.ofNat 8 kind) reason [] (withRx .hunt s) = onlyReplied number kind 1 reason.code [] s := by
  rw [answer_of_room number kind reason [] named.enabled room, if_neg refuses, if_neg refuses]

/-! ### Refusals, kind by kind -/

section
variable (named : Named target s) (room : s.lkc.queue.length < 8) {r : Reason} (refuses : r ≠ .accepted)
include named room refuses

theorem prepare_refused (reason : prepareReason ps s = r) :
    exec (.prepare target number ps) s = .next (onlyReplied number 1 1 r.code [] s) := by
  have taken : prepareTaken number ps (withRx .hunt s) = answer number 1 r [] (withRx .hunt s) := by
    unfold prepareTaken
    rw [show prepareReason ps (withRx .hunt s) = r from reason]
    cases r <;> first | rfl | exact absurd rfl refuses
  rw [exec_prepare_of_named _ _ named, taken, ← refused_of_room number 1 refuses named room]
  rfl

theorem shipSync_refused (reason : shipSyncReason ps s = r) :
    exec (.shipSync target number ps) s = .next (onlyReplied number 2 1 r.code [] s) := by
  have taken : shipSyncTaken number ps (withRx .hunt s) = answer number 2 r [] (withRx .hunt s) := by
    unfold shipSyncTaken
    rw [show shipSyncReason ps (withRx .hunt s) = r from reason]
    cases r <;> first | rfl | exact absurd rfl refuses
  rw [exec_shipSync_of_named _ _ named, taken, ← refused_of_room number 2 refuses named room]
  rfl

theorem returnLoad_refused (reason : returnReason ps s = r) :
    exec (.returnLoad target number ps) s = .next (onlyReplied number 3 1 r.code [] s) := by
  have taken : returnTaken number ps (withRx .hunt s) = answer number 3 r [] (withRx .hunt s) := by
    unfold returnTaken
    rw [show returnReason ps (withRx .hunt s) = r from reason]
    cases r <;> first | rfl | exact absurd rfl refuses
  rw [exec_returnLoad_of_named _ _ named, taken, ← refused_of_room number 3 refuses named room]
  rfl

theorem disconnect_refused (reason : disconnectReason ps s = r) :
    exec (.disconnect target number ps) s = .next (onlyReplied number 4 1 r.code [] s) := by
  have taken : disconnectTaken number ps (withRx .hunt s) = answer number 4 r [] (withRx .hunt s) := by
    unfold disconnectTaken
    rw [show disconnectReason ps (withRx .hunt s) = r from reason]
    cases r <;> first | rfl | exact absurd rfl refuses
  rw [exec_disconnect_of_named _ _ named, taken, ← refused_of_room number 4 refuses named room]
  rfl

theorem mark_refused (reason : markReason ps s = r) :
    exec (.mark target number ps) s = .next (onlyReplied number 5 1 r.code [] s) := by
  have taken : markTaken number ps (withRx .hunt s) = answer number 5 r [] (withRx .hunt s) := by
    unfold markTaken
    rw [show markReason ps (withRx .hunt s) = r from reason]
    cases r <;> first | rfl | exact absurd rfl refuses
  rw [exec_mark_of_named _ _ named, taken, ← refused_of_room number 5 refuses named room]
  rfl

theorem clear_refused (reason : clearReason ps s = r) :
    exec (.clear target number ps) s = .next (onlyReplied number 6 1 r.code [] s) := by
  have taken : clearTaken number ps (withRx .hunt s) = answer number 6 r [] (withRx .hunt s) := by
    unfold clearTaken
    rw [show clearReason ps (withRx .hunt s) = r from reason]
    cases r <;> first | rfl | exact absurd rfl refuses
  rw [exec_clear_of_named _ _ named, taken, ← refused_of_room number 6 refuses named room]
  rfl

theorem readMeter_refused (reason : readMeterReason ps s = r) :
    exec (.readMeter target number ps) s = .next (onlyReplied number 7 1 r.code [] s) := by
  have taken : readMeterTaken number ps (withRx .hunt s) = answer number 7 r [] (withRx .hunt s) := by
    unfold readMeterTaken
    rw [show readMeterReason ps (withRx .hunt s) = r from reason]
    cases r <;> first | rfl | exact absurd rfl refuses
  rw [exec_readMeter_of_named _ _ named, taken, ← refused_of_room number 7 refuses named room]
  rfl

theorem readLog_refused (reason : readLogReason ps s = r) :
    exec (.readLog target number ps) s = .next (onlyReplied number 8 1 r.code [] s) := by
  have taken : readLogTaken number ps (withRx .hunt s) = answer number 8 r [] (withRx .hunt s) := by
    unfold readLogTaken
    rw [show readLogReason ps (withRx .hunt s) = r from reason]
    cases r <;> first | rfl | exact absurd rfl refuses
  rw [exec_readLog_of_named _ _ named, taken, ← refused_of_room number 8 refuses named room]
  rfl

theorem configStore_refused (reason : configStoreReason ps s = r) :
    exec (.configStore target number ps) s = .next (onlyReplied number 9 1 r.code [] s) := by
  have taken : configStoreTaken number ps (withRx .hunt s) = answer number 9 r [] (withRx .hunt s) := by
    unfold configStoreTaken
    rw [show configStoreReason ps (withRx .hunt s) = r from reason]
    cases r <;> first | rfl | exact absurd rfl refuses
  rw [exec_configStore_of_named _ _ named, taken, ← refused_of_room number 9 refuses named room]
  rfl

end

/-! ### R99's first three cases -/

theorem earlyReason_starting {length : Nat} {inTripped : Bool} (starting : s.ssc.station = .starting) :
    earlyReason length inTripped ps s = some .starting := if_pos starting

theorem earlyReason_length {length : Nat} {inTripped : Bool} (started : s.ssc.station ≠ .starting)
    (wrong : ps.length ≠ length) : earlyReason length inTripped ps s = some .range := by
  rw [earlyReason, if_neg started, if_pos wrong]

theorem earlyReason_held {length : Nat} (tripped : s.ssc.station = .tripped) (right : ps.length = length) :
    earlyReason length false ps s = some .held := by
  simp [earlyReason, tripped, right]

/-- No case of R99 comes first: the kind's own cases decide. -/
theorem earlyReason_none {length : Nat} {inTripped : Bool} (started : s.ssc.station ≠ .starting) (right : ps.length = length)
    (passes : s.ssc.station ≠ .tripped ∨ inTripped = true) : earlyReason length inTripped ps s = none := by
  rw [earlyReason, if_neg started, if_neg (not_not.mpr right), if_neg]
  rintro ⟨tripped, held⟩
  rcases passes with other | free
  · exact other tripped
  · rw [free] at held; cases held

/-- R99's first three cases of one kind, from what an early reason makes of it. -/
theorem early_cases {c : Instr} {kind length : Nat} {inTripped : Bool}
    (refused : ∀ r, r ≠ Reason.accepted → earlyReason length inTripped ps s = some r →
      exec c s = .next (onlyReplied number kind 1 r.code [] s)) (free : kind ∉ [5, 6, 7, 8] → inTripped = false) :
    (s.ssc.station = .starting → exec c s = .next (onlyReplied number kind 1 6 [] s)) ∧
      (s.ssc.station ≠ .starting → ps.length ≠ length → exec c s = .next (onlyReplied number kind 1 3 [] s)) ∧
      (s.ssc.station = .tripped → ps.length = length → kind ∉ [5, 6, 7, 8] →
        exec c s = .next (onlyReplied number kind 1 4 [] s)) :=
  ⟨fun starting => refused .starting nofun (earlyReason_starting starting),
    fun started wrong => refused .range nofun (earlyReason_length started wrong),
    fun tripped right other => refused .held nofun (by rw [free other]; exact earlyReason_held tripped right)⟩

theorem early_refusals {kind length : Nat} {c : Instr}
    (row : (kind, length, c) ∈
      [ (1, 8, .prepare target number ps), (2, 0, .shipSync target number ps), (3, 0, .returnLoad target number ps),
        (4, 0, .disconnect target number ps), (5, 3, .mark target number ps), (6, 0, .clear target number ps),
        (7, 0, .readMeter target number ps), (8, 6, .readLog target number ps), (9, 28, .configStore target number ps) ])
    (named : Named target s) (room : s.lkc.queue.length < 8) :
    (s.ssc.station = .starting → exec c s = .next (onlyReplied number kind 1 6 [] s)) ∧
      (s.ssc.station ≠ .starting → ps.length ≠ length → exec c s = .next (onlyReplied number kind 1 3 [] s)) ∧
      (s.ssc.station = .tripped → ps.length = length → kind ∉ [5, 6, 7, 8] →
        exec c s = .next (onlyReplied number kind 1 4 [] s)) := by
  simp only [List.mem_cons, Prod.mk.injEq, List.not_mem_nil, or_false] at row
  rcases row with ⟨rfl, rfl, rfl⟩ | ⟨rfl, rfl, rfl⟩ | ⟨rfl, rfl, rfl⟩ | ⟨rfl, rfl, rfl⟩ | ⟨rfl, rfl, rfl⟩ | ⟨rfl, rfl, rfl⟩ |
    ⟨rfl, rfl, rfl⟩ | ⟨rfl, rfl, rfl⟩ | ⟨rfl, rfl, rfl⟩
  · exact early_cases (inTripped := false) (fun r no early => prepare_refused named room no (by rw [prepareReason, early]))
      fun _ => rfl
  · exact early_cases (inTripped := false) (fun r no early => shipSync_refused named room no (by rw [shipSyncReason, early]))
      fun _ => rfl
  · exact early_cases (inTripped := false) (fun r no early => returnLoad_refused named room no (by rw [returnReason, early]))
      fun _ => rfl
  · exact early_cases (inTripped := false) (fun r no early => disconnect_refused named room no (by rw [disconnectReason, early]))
      fun _ => rfl
  · exact early_cases (inTripped := true) (fun r no early => mark_refused named room no (by rw [markReason, early]))
      fun other => absurd (by simp) other
  · exact early_cases (inTripped := true) (fun r no early => clear_refused named room no (by rw [clearReason, early]))
      fun other => absurd (by simp) other
  · exact early_cases (inTripped := true) (fun r no early => readMeter_refused named room no (by rw [readMeterReason, early]))
      fun other => absurd (by simp) other
  · exact early_cases (inTripped := true) (fun r no early => readLog_refused named room no (by rw [readLogReason, early]))
      fun other => absurd (by simp) other
  · exact early_cases (inTripped := false) (fun r no early => configStore_refused named room no (by rw [configStoreReason, early]))
      fun _ => rfl

/-! ### The parameters of a READ_LOG and of a PREPARE -/

theorem readLog_fields {sector offset len : Nat} (hs : sector < 65536) (ho : offset < 65536) (hl : len < 65536) :
    fieldNat (beBytes 2 sector ++ beBytes 2 offset ++ beBytes 2 len) 0 2 = sector ∧
      fieldNat (beBytes 2 sector ++ beBytes 2 offset ++ beBytes 2 len) 2 2 = offset ∧
      fieldNat (beBytes 2 sector ++ beBytes 2 offset ++ beBytes 2 len) 4 2 = len := by
  simp [fieldNat, field, beNat, beBytes, List.range_succ]
  omega

theorem fieldNat_one (ps : List Byte) (i : Nat) : fieldNat ps i 1 = (ps.getD i 0).toNat := by
  simp [fieldNat, field, beNat, List.range_succ]

theorem goodMinutes_iff (m : Nat) : goodMinutes m = true ↔ m ∈ [5, 10, 15, 30, 60] := by
  simp [goodMinutes, or_assoc]

theorem prepareOutOfRange_iff (ps : List Byte) :
    prepareOutOfRange (prepareParams ps) = true ↔
      BitVec.ofNat 32 (fieldNat ps 0 4) = 0 ∨ (ps.getD 4 0).toNat ∉ [50, 60] ∨ (ps.getD 7 0).toNat ∉ [5, 10, 15, 30, 60] := by
  have minutes : (!goodMinutes (ps.getD 7 0).toNat) = true ↔ (ps.getD 7 0).toNat ∉ [5, 10, 15, 30, 60] := by
    rw [← goodMinutes_iff, Bool.not_eq_true', Bool.not_eq_true]
  simp only [prepareOutOfRange, prepareParams, fieldNat_one, Bool.or_eq_true, minutes, or_assoc]
  simp

/-! ### The later cases of R99 -/

theorem unloaded_iff (x : StationState) : x.unloaded = true ↔ x ∈ [StationState.prepared, .joining, .online] := by
  cases x <;> decide

theorem readLog_in_range (started : s.ssc.station ≠ .starting) {sector offset len : Nat} (hs : sector < 512) (hl : 0 < len) (ends : offset + len ≤ 4096) :
    readLogReason (beBytes 2 sector ++ beBytes 2 offset ++ beBytes 2 len) s =
      if readoutActive s then .busy else .accepted := by
  obtain ⟨first, second, third⟩ := readLog_fields (sector := sector) (offset := offset) (len := len) (by omega) (by omega) (by omega)
  have within : readLogOutOfRange (beBytes 2 sector ++ beBytes 2 offset ++ beBytes 2 len) = false := by
    simp only [readLogOutOfRange, first, second, third, Bool.or_eq_false_iff, decide_eq_false_iff_not]
    omega
  rw [readLogReason, earlyReason_none started (by simp) (.inr rfl), within]
  rfl

section
variable (named : Named target s) (room : s.lkc.queue.length < 8) (started : s.ssc.station ≠ .starting)
include named room started

theorem mark_no_session (closed : sessionOpen s = false) {n : Nat} (tariff : Byte) (positive : 0 < n) (small : n < 65536) :
    exec (.mark target number (beBytes 2 n ++ [tariff])) s = .next (onlyReplied number 5 1 2 [] s) := by
  refine mark_refused named room (r := .session) nofun ?_
  rw [markReason, earlyReason_none started (by simp) (.inr rfl)]
  simp [fieldNat_beBytes_two small, positive.ne', closed]

theorem mark_zero (tariff : Byte) : exec (.mark target number [0, 0, tariff]) s = .next (onlyReplied number 5 1 3 [] s) := by
  refine mark_refused named room (r := .range) nofun ?_
  rw [markReason, earlyReason_none started (by simp) (.inr rfl)]
  simp [fieldNat, field, beNat, List.range_succ]

theorem readMeter_no_session (closed : sessionOpen s = false) :
    exec (.readMeter target number []) s = .next (onlyReplied number 7 1 2 [] s) := by
  refine readMeter_refused named room (r := .session) nofun ?_
  rw [readMeterReason, earlyReason_none (ps := []) (length := 0) started rfl (.inr rfl), closed]
  rfl

theorem readLog_out_of_range {sector offset len : Nat} (hs : sector < 65536) (ho : offset < 65536) (hl : len < 65536)
    (off : 511 < sector ∨ len = 0 ∨ 4096 < len ∨ 4096 < offset + len) :
    exec (.readLog target number (beBytes 2 sector ++ beBytes 2 offset ++ beBytes 2 len)) s =
      .next (onlyReplied number 8 1 3 [] s) := by
  refine readLog_refused named room (r := .range) nofun ?_
  obtain ⟨first, second, third⟩ := readLog_fields hs ho hl
  have out : readLogOutOfRange (beBytes 2 sector ++ beBytes 2 offset ++ beBytes 2 len) = true := by
    simp only [readLogOutOfRange, first, second, third, Bool.or_eq_true, decide_eq_true_eq]
    omega
  rw [readLogReason, earlyReason_none started (by simp) (.inr rfl), out]
  rfl

theorem readLog_busy (active : s.fpt.readout.isSome = true) {sector offset len : Nat} (hs : sector < 512) (hl : 0 < len)
    (ends : offset + len ≤ 4096) :
    exec (.readLog target number (beBytes 2 sector ++ beBytes 2 offset ++ beBytes 2 len)) s =
      .next (onlyReplied number 8 1 5 [] s) := by
  refine readLog_refused named room (r := .busy) nofun ?_
  rw [readLog_in_range started hs hl ends, if_pos (show readoutActive s = true from active)]

section
variable (untripped : s.ssc.station ≠ .tripped)
include untripped

theorem shipSync_other_state (seeking : s.ssc.station ≠ .shipSync) (dark : s.ssc.station ≠ .online ∨ s.btr.shipState ≠ .live) :
    exec (.shipSync target number []) s = .next (onlyReplied number 2 1 1 [] s) := by
  refine shipSync_refused named room (r := .state) nofun ?_
  rw [shipSyncReason, earlyReason_none (ps := []) (length := 0) started rfl (.inl untripped)]
  exact if_neg fun met => met.elim seeking fun online => dark.elim (· online.1) (· online.2)

theorem returnLoad_other_state (other : s.ssc.station ≠ .supplying) :
    exec (.returnLoad target number []) s = .next (onlyReplied number 3 1 1 [] s) := by
  refine returnLoad_refused named room (r := .state) nofun ?_
  rw [returnReason, earlyReason_none (ps := []) (length := 0) started rfl (.inl untripped)]
  exact if_neg other

theorem disconnect_other_state (other : s.ssc.station ∉ [StationState.prepared, .joining, .online, .closing]) :
    exec (.disconnect target number []) s = .next (onlyReplied number 4 1 1 [] s) := by
  refine disconnect_refused named room (r := .state) nofun ?_
  rw [disconnectReason, earlyReason_none (ps := []) (length := 0) started rfl (.inl untripped)]
  refine if_neg fun met => other ?_
  rcases met with unloaded | closing
  · have := (unloaded_iff s.ssc.station).mp unloaded
    simp only [List.mem_cons, List.not_mem_nil, or_false] at this ⊢
    tauto
  · rw [closing]; decide

theorem prepare_other_state (right : ps.length = 8) (awake : s.ssc.station ≠ .standby)
    (other : s.ssc.station ∉ [StationState.prepared, .joining, .online] ∨
      sessionId s ≠ some (BitVec.ofNat 32 (fieldNat ps 0 4))) :
    exec (.prepare target number ps) s = .next (onlyReplied number 1 1 1 [] s) := by
  refine prepare_refused named room (r := .state) nofun ?_
  rw [prepareReason, earlyReason_none started right (.inl untripped)]
  refine (if_neg awake).trans (if_neg fun ⟨unloaded, held⟩ => ?_)
  exact other.elim (· ((unloaded_iff _).mp unloaded)) (· held)

theorem prepare_out_of_range (right : ps.length = 8) (standby : s.ssc.station = .standby)
    (off : BitVec.ofNat 32 (fieldNat ps 0 4) = 0 ∨ (ps.getD 4 0).toNat ∉ [50, 60] ∨
      (ps.getD 7 0).toNat ∉ [5, 10, 15, 30, 60]) :
    exec (.prepare target number ps) s = .next (onlyReplied number 1 1 3 [] s) := by
  refine prepare_refused named room (r := .range) nofun ?_
  rw [prepareReason, earlyReason_none started right (.inl untripped)]
  exact (if_pos standby).trans (if_pos ((prepareOutOfRange_iff ps).mpr off))

theorem prepare_mismatch {c : Session} (right : ps.length = 8) (standby : s.ssc.station = .standby)
    (held : s.ssc.session = some c) (nonzero : c.id ≠ 0) (same : fieldNat ps 0 4 = c.id.toNat)
    (frequency : (ps.getD 4 0).toNat ∈ [50, 60]) (minutes : (ps.getD 7 0).toNat ∈ [5, 10, 15, 30, 60])
    (differs : (ps.getD 4 0).toNat ≠ (if c.is60 then 60 else 50) ∨ (ps.getD 7 0).toNat ≠ c.minutes) :
    exec (.prepare target number ps) s = .next (onlyReplied number 1 1 2 [] s) := by
  have id : BitVec.ofNat 32 (fieldNat ps 0 4) = c.id := by rw [same, BitVec.ofNat_toNat, BitVec.setWidth_eq]
  have within : ¬ prepareOutOfRange (prepareParams ps) = true := by
    rw [prepareOutOfRange_iff, id]
    exact fun off => off.elim nonzero fun off => off.elim (· frequency) (· minutes)
  have other : prepareMismatch (prepareParams ps) s = true := by
    have split : (c.is60 != ((ps.getD 4 0).toNat == 60)) = true ∨ (c.minutes != (ps.getD 7 0).toNat) = true := by
      simp only [List.mem_cons, List.not_mem_nil, or_false] at frequency
      rcases differs with frequencies | lengths
      · refine .inl ?_
        rcases frequency with at50 | at60
        · rw [at50] at frequencies ⊢
          cases is60 : c.is60 <;> simp [is60] at frequencies ⊢
        · rw [at60] at frequencies ⊢
          cases is60 : c.is60 <;> simp [is60] at frequencies ⊢
      · exact .inr (bne_iff_ne.mpr (Ne.symm lengths))
    simpa [prepareMismatch, held, prepareParams, id, fieldNat_one] using split
  refine prepare_refused named room (r := .session) nofun ?_
  rw [prepareReason, earlyReason_none started right (.inl untripped)]
  exact (if_pos standby).trans ((if_neg within).trans (if_pos other))

theorem configStore_other_state (right : ps.length = 28) (other : s.ssc.station ≠ .standby) :
    exec (.configStore target number ps) s = .next (onlyReplied number 9 1 1 [] s) := by
  refine configStore_refused named room (r := .state) nofun ?_
  rw [configStoreReason, earlyReason_none started right (.inl untripped)]
  exact if_pos other

theorem configStore_busy (right : ps.length = 28) (standby : s.ssc.station = .standby) (pending : s.rwr.config.isSome = true) :
    exec (.configStore target number ps) s = .next (onlyReplied number 9 1 5 [] s) := by
  refine configStore_refused named room (r := .busy) nofun ?_
  rw [configStoreReason, earlyReason_none started right (.inl untripped)]
  exact (if_neg (not_not.mpr standby)).trans (if_pos pending)

end

end

end

/-- Settles O42: each kind's outcome is R99's first case that applies, and a refusal is its REPLY alone. -/
theorem refusedRequestsChangeNothing : Obligations.RefusedRequestsChangeNothing := by
  refine ⟨fun s target number ps kind len c row named room => early_refusals row named room, ?inEveryState, ?untripped⟩
  case inEveryState =>
    intro s target number named room started
    exact ⟨fun closed n tariff positive small => mark_no_session named room started closed tariff positive small,
      mark_zero named room started, readMeter_no_session named room started,
      fun sector offset len hs ho hl off => readLog_out_of_range named room started hs ho hl off,
      fun active sector offset len hs hl ends => readLog_busy named room started active hs hl ends⟩
  case untripped =>
    intro s target number named room started untripped
    exact ⟨shipSync_other_state named room started untripped, returnLoad_other_state named room started untripped,
      disconnect_other_state named room started untripped,
      fun ps right awake other => prepare_other_state named room started untripped right awake other,
      fun ps right standby zero => prepare_out_of_range named room started untripped right standby (.inl (by rw [zero]; rfl)),
      fun ps right standby off => prepare_out_of_range named room started untripped right standby (.inr off),
      fun ps c right standby held nonzero same frequency minutes differs =>
        prepare_mismatch named room started untripped right standby held nonzero same frequency minutes differs,
      fun block right other => configStore_other_state named room started untripped right other,
      fun block right standby pending => configStore_busy named room started untripped right standby pending⟩

/-! ### READ_LOG, CONFIG_STORE and a malformed REQUEST (R103, R159, R181) -/

section
variable {s : State} {target number : Byte}

theorem field_all {ps : List Byte} {n : Nat} (length : ps.length = n) : field ps 0 n = ps := by
  subst length
  refine List.ext_getElem (by simp [field]) fun i _ inside => ?_
  simp [field, inside]

theorem exec_readLog_of_inactive (named : Named target s) (room : s.lkc.queue.length < 8)
    (started : s.ssc.station ≠ .starting) {sector offset len : Nat} (hs : sector < 512) (hl : 0 < len)
    (ends : offset + len ≤ 4096) (inactive : s.fpt.readout = none) :
    exec (.readLog target number (beBytes 2 sector ++ beBytes 2 offset ++ beBytes 2 len)) s =
      .next (startReadout { sector := sector, next := offset, remaining := len, ended := false }
        (onlyReplied number 8 0 0 (beBytes 2 sector ++ beBytes 2 offset ++ beBytes 2 len) s)) := by
  obtain ⟨first, second, third⟩ := readLog_fields (sector := sector) (offset := offset) (len := len) (by omega) (by omega) (by omega)
  have accepted : readLogReason (beBytes 2 sector ++ beBytes 2 offset ++ beBytes 2 len) (withRx .hunt s) = .accepted := by
    rw [readLog_in_range (s := withRx .hunt s) started hs hl ends, if_neg]
    simp [readoutActive, withRx, inactive]
  rw [exec_readLog_of_named _ _ named, readLogTaken, accepted]
  simp only [first, second, third, field_all (show (beBytes 2 sector ++ beBytes 2 offset ++ beBytes 2 len).length = 6 by simp)]
  have answered := answer_of_room number 8 .accepted (beBytes 2 sector ++ beBytes 2 offset ++ beBytes 2 len) named.enabled room
  exact congrArg (fun t => Host.Outcome.next (startReadout _ t)) answered

theorem exec_configStore_of_free (named : Named target s) (room : s.lkc.queue.length < 8) {block : List Byte}
    (right : block.length = 28) (standby : s.ssc.station = .standby) (free : s.rwr.config = none) :
    exec (.configStore target number block) s =
      .next { onlyReplied number 9 0 0 [] s with rwr := { s.rwr with config := some block } } := by
  have accepted : configStoreReason block (withRx .hunt s) = .accepted := by
    rw [configStoreReason, earlyReason_none (s := withRx .hunt s) (by rw [withRx_ssc, standby]; decide) right
      (.inl (by rw [withRx_ssc, standby]; decide))]
    simp [standby, withRx, free]
  rw [exec_configStore_of_named _ _ named, configStoreTaken, accepted]
  exact congrArg _ (answer_of_room (s := { s with rwr := { s.rwr with config := some block } }) number 9 .accepted []
    named.enabled room)

/-- A REQUEST of an unknown kind, or too short to have one, is refused: STARTING in STARTING, RANGE elsewhere (R99, R181). -/
theorem malformedTaken_of_room (number kind : Byte) (named : Named target s) (room : s.lkc.queue.length < 8) :
    malformedTaken number kind (withRx .hunt s) =
      onlyReplied number kind.toNat 1 (if s.ssc.station = .starting then 6 else 3) [] s := by
  have same : BitVec.ofNat 8 kind.toNat = kind := by simp
  have refused (r : Reason) (refuses : r ≠ .accepted) :
      answer number kind r [] (withRx .hunt s) = onlyReplied number kind.toNat 1 r.code [] s := by
    rw [← refused_of_room number kind.toNat refuses named room, same]
  rw [malformedTaken, withRx_ssc]
  split_ifs
  · exact refused .starting nofun
  · exact refused .range nofun

theorem requestTaken_unknown {payload : List Byte} (unknown : (payload.getD 2 0).toNat = 0 ∨ 9 < (payload.getD 2 0).toNat)
    (s : State) : requestTaken payload s = malformedTaken (payload.getD 1 0) (payload.getD 2 0) s := by
  unfold requestTaken
  generalize (payload.getD 2 0).toNat = k at unknown ⊢
  match k, unknown with
  | 0, _ => rfl
  | k + 10, _ => rfl

theorem exec_malformedRequest_unknown (named : Named target s) (room : s.lkc.queue.length < 8) {rest : List Byte}
    (unknown : ((target :: rest).getD 2 0).toNat = 0 ∨ 9 < ((target :: rest).getD 2 0).toNat) :
    exec (.malformedRequest (target :: rest)) s =
      .next (onlyReplied ((target :: rest).getD 1 0) ((target :: rest).getD 2 0).toNat 1
        (if s.ssc.station = .starting then 6 else 3) [] s) := by
  rw [exec_malformed_of_named _ named, requestTaken_unknown unknown, malformedTaken_of_room _ _ named room]

end

/-- Settles O41, from the outcome of each of the three requests. -/
theorem storeRequestsAreTaken : Obligations.StoreRequestsAreTaken := by
  intro s target number named room
  exact ⟨fun sector offset len started hs hl ends inactive =>
      exec_readLog_of_inactive named room started hs hl ends inactive,
    fun block right standby free => exec_configStore_of_free named room right standby free,
    fun kind ps unknown => exec_malformedRequest_unknown (rest := number :: kind :: ps) named room unknown,
    exec_malformedRequest_unknown (rest := []) named room (.inl rfl)⟩

/-! ### The restoration expiry (R79, R80) -/

section
variable {s : State} {start : Nat}

theorem exec_restorationTick_of_supplying (run : s.phase = .run) (supplying : s.ssc.station = .supplying)
    (rest : s.shc.rest = some start) : exec .restorationTick s = .next (restorationWork (catchUp start 80 s)) := by
  have dispatched : exec .restorationTick s = execRestorationTick s := rfl
  rw [dispatched, execRestorationTick, running_run run, if_pos supplying, onExpiry_some rest]

theorem exec_restorationTick_of_other (run : s.phase = .run) (other : s.ssc.station ≠ .supplying) :
    exec .restorationTick s = .next s := by
  have dispatched : exec .restorationTick s = execRestorationTick s := rfl
  rw [dispatched, execRestorationTick, running_run run, if_neg other]

theorem restorationWork_sameBut (s : State) (start : Nat) : sameBut [.clock, .shc] s (restorationWork (catchUp start 80 s)) := by
  intro part other
  cases part with
  | clock => simp at other
  | shc => simp at other
  | _ => simp [Part.same, restorationWork]

theorem nextFRest_of_valid {f : Int} (valid : s.btr.berth.freq = some f) :
    nextFRest s = clamp (-(s.params.droop * 1000)) (s.params.droop * 1000)
      (s.shc.fRest + s.params.kr * (fBase s / 1000 - f)) := by
  rw [nextFRest, valid]

theorem nextFRest_of_invalid (invalid : s.btr.berth.freq = none) : nextFRest s = s.shc.fRest := by
  rw [nextFRest, invalid]

end

/-- Settles O33: the state after the expiry is `restorationWork` of the state at its moment. -/
theorem restorationStepsInSupplying : Obligations.RestorationStepsInSupplying := by
  intro s start run rest
  refine ⟨fun supplying => ⟨_, exec_restorationTick_of_supplying run supplying rest, restorationWork_sameBut s start, ?shc,
    fun f valid => nextFRest_of_valid (s := catchUp start 80 s) valid,
    fun invalid => nextFRest_of_invalid (s := catchUp start 80 s) invalid⟩,
    exec_restorationTick_of_other run⟩
  case shc => simp [restorationWork, rest, Timer.restart]

end Sys2Proof.Machine
end

/-! PROOFS. What the receiver makes of a sync byte and of a bad frame (R42 to R45). -/
section
namespace Sys2Proof.Machine

/-! ### A bad frame, counted or noted (R45, R49) -/

/-- One bad frame is counted between the two states, or noted with the own attempt (R41, R45, R49): the count, the held set
and the attempt are as that leaves them, and the rest of the parts but LKC's receiver are as they were. -/
def CountedBad (s t : State) : Prop :=
  (s.lkc.attempt = none → t.lkc.attempt = none ∧
    t.lkc.badCount = (if countsBad s then min 255 (s.lkc.badCount + 1) else s.lkc.badCount) ∧
      (countsBad s = true → s.lkc.badCount = 15 → .linkNoisy ∈ t.pru.held) ∧
      (countsBad s = false ∨ s.lkc.badCount ≠ 15 → t.pru = s.pru)) ∧
  (∀ a, s.lkc.attempt = some a →
    t.lkc.attempt = some { a with bad := a.bad + 1 } ∧ t.lkc.badCount = s.lkc.badCount ∧ t.pru = s.pru) ∧
  t.lkc.queue = s.lkc.queue ∧ sameBut [.lkc, .pru] s t

theorem countBad_of_uncounted {s : State} (uncounted : countsBad s = false) : countBad s = s := by
  simp [countBad, uncounted]

theorem countBad_of_counted {s : State} (counted : countsBad s = true) :
    countBad s = raiseIf (min 255 (s.lkc.badCount + 1) == 16) .linkNoisy
      { s with lkc := { s.lkc with badCount := min 255 (s.lkc.badCount + 1) } } := by
  simp [countBad, counted]

theorem countBad_holds_linkNoisy {s : State} (counted : countsBad s = true) (last : s.lkc.badCount = 15) :
    .linkNoisy ∈ (countBad s).pru.held := by
  rw [countBad_of_counted counted, raiseIf, if_pos (by simp [last]), raise_alarm (c := .linkNoisy) rfl]
  exact mem_held_hold ..

theorem countBad_pru_of_other {s : State} (other : countsBad s = false ∨ s.lkc.badCount ≠ 15) :
    (countBad s).pru = s.pru := by
  cases counted : countsBad s with
  | false => rw [countBad_of_uncounted counted]
  | true =>
    have before : (min 255 (s.lkc.badCount + 1) == 16) = false := by
      have := other.resolve_left (by simp [counted])
      rw [beq_eq_false_iff_ne]
      omega
    rw [countBad_of_counted counted, before]
    rfl

theorem countBad_sameBut (s : State) : sameBut [.lkc, .pru] s (countBad s) := by
  obtain ⟨p, counted⟩ := countBad_only s
  rw [counted]
  intro part other
  cases part with
  | lkc => simp at other
  | pru => simp at other
  | _ => simp [Part.same]

/-- A bad frame heard is counted or noted, whatever receive state it leaves. -/
theorem countedBad_withRx_heardBad (rx : RxState) (s : State) : CountedBad s (withRx rx (heardBad s)) := by
  cases own : s.lkc.attempt with
  | none =>
    obtain ⟨p, counted⟩ := countBad_only s
    have lkc : (countBad s).lkc = { s.lkc with
        badCount := if countsBad s then min 255 (s.lkc.badCount + 1) else s.lkc.badCount } := by rw [counted]
    rw [heardBad_none own]
    refine ⟨fun _ => ⟨?_, ?_, countBad_holds_linkNoisy, countBad_pru_of_other⟩, fun a held => ?_, ?_, ?_⟩
    · simp [withRx, Lkc.receive, lkc, own]
    · simp [withRx, Lkc.receive, lkc]
    · rw [own] at held; cases held
    · simp [withRx, Lkc.receive, lkc]
    · intro part other
      have kept := countBad_sameBut s part other
      cases part with
      | lkc => simp at other
      | _ => exact kept
  | some a =>
    rw [heardBad_some own]
    refine ⟨fun none => ?_, fun b held => ?_, rfl, ?_⟩
    · rw [own] at none; cases none
    · obtain rfl := Option.some.inj (own.symm.trans held)
      exact ⟨rfl, rfl, rfl⟩
    · intro part other
      cases part with
      | lkc => simp at other
      | _ => simp [Part.same]

/-! ### The sync byte (R42) -/

theorem exec_sync {s : State} {run : Nat} {tail : Bool} {c : Instr} (row : c = .syncError run tail ∨ c = .syncAccepted run tail)
    (running : s.phase = .run) (enabled : s.lkc.enabled = true) : exec c s = .next (syncJudged run tail s) := by
  rcases row with rfl | rfl
  · have dispatched : exec (.syncError run tail) s = execSyncError run tail s := rfl
    rw [dispatched, execSyncError, running_run running, onLink, if_pos enabled]
  · have dispatched : exec (.syncAccepted run tail) s = execSyncAccepted run tail s := rfl
    rw [dispatched, execSyncAccepted, running_run running, onLink, if_pos enabled]

/-- R42's bounds are 6% of the nominal run on either side. -/
theorem syncGood_iff (s : State) (run : Nat) (tail : Bool) :
    syncGood s run tail = true ↔
      94 * (if s.linkRate then 200 else 400) ≤ 100 * run ∧ 100 * run ≤ 106 * (if s.linkRate then 200 else 400) ∧ tail = true := by
  cases rate : s.linkRate <;> cases tail <;> simp [syncGood, rate] <;> omega

/-- Settles O20: within the bounds the byte is accepted as measured; a sync error is a bad frame, counted or noted. -/
theorem syncByteIsJudged : Obligations.SyncByteIsJudged := by
  intro s run tail c row running enabled
  have good := syncGood_iff s run tail
  rw [exec_sync row running enabled]
  refine ⟨fun within => ?accepted, fun beyond => ?error⟩
  case accepted =>
    rw [syncJudged, if_pos (show syncGood s run tail = true from good.mpr within)]
    rfl
  case error =>
    have bad : ¬ syncGood s run tail = true := by
      rw [good]
      rintro ⟨low, high, recessive⟩
      rcases beyond with below | above | dominant
      · omega
      · omega
      · rw [recessive] at dominant; cases dominant
    rw [syncJudged, if_neg bad]
    obtain ⟨alone, noted, queue, kept⟩ :=
      countedBad_withRx_heardBad .hunt { s with lkc := { s.lkc with rxRun := run } }
    refine ⟨_, rfl, rfl, queue, fun part other => ?_, fun own => ?_, noted⟩
    · have same := kept part other
      cases part with
      | lkc => simp at other
      | _ => exact same
    · obtain ⟨none, count, -, pru⟩ := alone own
      refine ⟨none, fun counted => ?_, fun uncounted => ⟨?_, pru (.inl uncounted)⟩⟩
      · exact count.trans (if_pos counted)
      · exact count.trans (if_neg (ne_of_eq_of_ne uncounted Bool.false_ne_true))

/-! ### Bad frames (R41, R43 to R45) -/

theorem exec_badFrame_of_none {s : State} {bytes : List Byte} (running : s.phase = .run) (enabled : s.lkc.enabled = true)
    (bad : judgeFrame bytes = none) : exec (.badFrame bytes) s = .next (frameBad s) := by
  have dispatched : exec (.badFrame bytes) s = execBadFrame bytes s := rfl
  rw [dispatched, execBadFrame, running_run running, onLink, if_pos enabled, bad]

theorem exec_badFrame_of_some {s : State} {bytes : List Byte} {r : Received} (running : s.phase = .run)
    (enabled : s.lkc.enabled = true) (good : judgeFrame bytes = some r) : exec (.badFrame bytes) s = .next (frameEnded r s) := by
  have dispatched : exec (.badFrame bytes) s = execBadFrame bytes s := rfl
  rw [dispatched, execBadFrame, running_run running, onLink, if_pos enabled, good]

theorem sender_eq_iff (id : Byte) (n : Nat) (small : n < 16) :
    (id.setWidth 4 : Addr) = BitVec.ofNat 4 n ↔ id.toNat % 16 = n := by
  rw [← BitVec.toNat_inj, BitVec.toNat_setWidth, BitVec.toNat_ofNat, Nat.mod_eq_of_lt small]

/-- R44 finds no good frame where the CRC is wrong, or the sender 0 or 13. -/
theorem judgeFrame_none {id1 id2 c1 c2 : Byte} {payload : List Byte} (short : payload.length ≤ 32)
    (bad : [c1, c2] ≠ beBytes 2 (crc16 (id1 :: id2 :: BitVec.ofNat 8 payload.length :: payload)).toNat ∨
      id1.toNat % 16 = 0 ∨ id1.toNat % 16 = 13) :
    judgeFrame (id1 :: id2 :: BitVec.ofNat 8 payload.length :: (payload ++ [c1, c2])) = none := by
  have length : (BitVec.ofNat 8 payload.length).toNat = payload.length := by
    rw [BitVec.toNat_ofNat]; exact Nat.mod_eq_of_lt (by omega)
  have body : (id1 :: id2 :: BitVec.ofNat 8 payload.length :: (payload ++ [c1, c2])).take (3 + payload.length) =
      id1 :: id2 :: BitVec.ofNat 8 payload.length :: payload := by
    rw [Nat.add_comm, List.take_succ_cons, List.take_succ_cons, List.take_succ_cons, List.take_left]
  refine if_neg ?_
  simp only [List.getD_cons_zero, List.getD_cons_succ, length, body]
  rintro ⟨-, -, crc, notZero, notThirteen⟩
  rcases bad with wrong | zero | thirteen
  · refine wrong (List.append_cancel_left (as := id1 :: id2 :: BitVec.ofNat 8 payload.length :: payload) ?_)
    exact crc
  · exact notZero ((sender_eq_iff id1 0 (by decide)).mpr zero)
  · exact notThirteen ((sender_eq_iff id1 13 (by decide)).mpr thirteen)

section
variable {s : State}

theorem exec_stopBitDominant_of_run (running : s.phase = .run) (enabled : s.lkc.enabled = true) (frame : s.lkc.rx = .frame) :
    exec .stopBitDominant s = .next (frameBad s) := by
  have dispatched : exec .stopBitDominant s = execStopBitDominant s := rfl
  rw [dispatched, execStopBitDominant, running_run running, onLink, if_pos enabled, if_pos frame]

theorem exec_lengthAbove32_of_run {n : Byte} (running : s.phase = .run) (enabled : s.lkc.enabled = true)
    (frame : s.lkc.rx = .frame) (long : 32 < n.toNat) : exec (.lengthAbove32 n) s = .next (frameBad s) := by
  have dispatched : exec (.lengthAbove32 n) s = execLengthAbove32 n s := rfl
  rw [dispatched, execLengthAbove32, running_run running, onLink, if_pos enabled, if_pos ⟨frame, long⟩]

theorem exec_partialFrameDiscarded_of_run {b : Bool} (running : s.phase = .run) (enabled : s.lkc.enabled = true)
    (cut : s.lkc.rx = .frame ∨ s.lkc.ownAbort = true) :
    exec (.partialFrameDiscarded b) s = .next (discardPartial (if b then .brk else .idle) s) := by
  have dispatched : exec (.partialFrameDiscarded b) s = execPartialFrameDiscarded b s := rfl
  rw [dispatched, execPartialFrameDiscarded, running_run running, onLink, if_pos enabled, if_pos cut]

/-- Outside FRAME the three commands that end a frame do nothing (log 5). -/
theorem exec_frameEnd_outside {c : Instr} (running : s.phase = .run) (outside : s.lkc.rx ≠ .frame)
    (free : s.lkc.ownAbort = false)
    (row : c = .stopBitDominant ∨ (∃ n : Byte, c = .lengthAbove32 n) ∨ ∃ b, c = .partialFrameDiscarded b) :
    exec c s = .next s := by
  rcases row with rfl | ⟨n, rfl⟩ | ⟨b, rfl⟩
  · have dispatched : exec .stopBitDominant s = execStopBitDominant s := rfl
    simp [dispatched, execStopBitDominant, running_run running, onLink, outside]
  · have dispatched : exec (.lengthAbove32 n) s = execLengthAbove32 n s := rfl
    simp [dispatched, execLengthAbove32, running_run running, onLink, outside]
  · have dispatched : exec (.partialFrameDiscarded b) s = execPartialFrameDiscarded b s := rfl
    simp [dispatched, execPartialFrameDiscarded, running_run running, onLink, outside, free]

theorem exec_lengthAbove32_short {n : Byte} (running : s.phase = .run) (short : n.toNat ≤ 32) :
    exec (.lengthAbove32 n) s = .next s := by
  have dispatched : exec (.lengthAbove32 n) s = execLengthAbove32 n s := rfl
  simp [dispatched, execLengthAbove32, running_run running, onLink, Nat.not_lt.mpr short]

end

/-- A command that hears a bad frame counts or notes it, in the receive state it leaves. -/
theorem badHeard_of_exec {s : State} {c : Instr} (rx : RxState) (taken : exec c s = .next (withRx rx (heardBad s))) :
    ∃ t, exec c s = .next t ∧
      (s.lkc.attempt = none → t.lkc.attempt = none ∧
        t.lkc.badCount = (if countsBad s then min 255 (s.lkc.badCount + 1) else s.lkc.badCount) ∧
          (countsBad s = true → s.lkc.badCount = 15 → .linkNoisy ∈ t.pru.held) ∧
          (countsBad s = false ∨ s.lkc.badCount ≠ 15 → t.pru = s.pru)) ∧
      (∀ a, s.lkc.attempt = some a →
        t.lkc.attempt = some { a with bad := a.bad + 1 } ∧ t.lkc.badCount = s.lkc.badCount ∧ t.pru = s.pru) ∧
      t.lkc.rx = rx ∧ t.lkc.queue = s.lkc.queue ∧ sameBut [.lkc, .pru] s t := by
  obtain ⟨alone, noted, queue, kept⟩ := countedBad_withRx_heardBad rx s
  exact ⟨_, taken, alone, noted, rfl, queue, kept⟩

/-- Settles O21: each command that reports a bad frame hears one, in the receive state that its row leaves. -/
theorem badFramesAreCounted : Obligations.BadFramesAreCounted := by
  refine ⟨fun s c running outside free row => exec_frameEnd_outside running outside free row,
    fun s n running short => exec_lengthAbove32_short running short, fun s c running enabled free row => ?_⟩
  rcases row with ⟨frame, rfl | ⟨n, long, rfl⟩ | ⟨b, rfl⟩⟩ | ⟨id1, id2, c1, c2, payload, short, bad, rfl⟩
  · exact badHeard_of_exec .hunt (exec_stopBitDominant_of_run running enabled frame)
  · exact badHeard_of_exec .hunt (exec_lengthAbove32_of_run running enabled frame long)
  · have discarded : exec (.partialFrameDiscarded b) s = .next (withRx (if b then .brk else .idle) (heardBad s)) := by
      simp only [exec_partialFrameDiscarded_of_run running enabled (.inl frame), discardPartial, free, Bool.false_eq_true,
        if_false]
    cases b with
    | true => exact badHeard_of_exec .brk discarded
    | false => exact badHeard_of_exec .idle discarded
  · exact badHeard_of_exec .hunt (exec_badFrame_of_none running enabled (judgeFrame_none short bad))

end Sys2Proof.Machine
end

/-! PROOFS. A condition raised and the trip it makes (R172 to R176), and the frames that LKC drops or hears under the own address
(R44, R51). -/
section
namespace Sys2Proof.Machine

section
variable {s : State} {c : Condition}

/-! ### A condition raised (R172) -/

theorem isHeld_false (fresh : c ∉ s.pru.held) : isHeld s c = false := decide_eq_false fresh

theorem isHeld_true (held : c ∈ s.pru.held) : isHeld s c = true := decide_eq_true held

theorem hold_of_held (held : c ∈ s.pru.held) : hold c s = s := by
  simp [hold, Pru.hold, held]

theorem raise_of_held (held : c ∈ s.pru.held) : raise c s = s := by
  rw [raise, if_neg (by simp [isHeld_true held]), hold_of_held held]

theorem raise_of_trip (fresh : c ∉ s.pru.held) (cls : tripClass s.params c = true) (can : canTrip s = true) :
    raise c s = tripWith { cause := c, state := s.ssc.station, following := [] } (hold c s) :=
  if_pos ⟨isHeld_false fresh, cls, can⟩

theorem hold_sameBut (c : Condition) (s : State) : sameBut [.pru] s (hold c s) := by
  intro part other
  cases part with
  | pru => simp at other
  | _ => simp [Part.same]

/-- A report that makes no trip moves the held set alone. -/
theorem raise_quiet (quiet : c ∈ s.pru.held ∨ tripClass s.params c = false ∨ canTrip s = false) : raise c s = hold c s := by
  rcases quiet with held | alarm | standing
  · rw [raise_of_held held, hold_of_held held]
  · exact raise_alarm alarm
  · exact raise_cannot_trip standing

/-! ### The trip (R174, R175) -/

/-- The first-cause record names this cause and state (R175). -/
def FirstNames (cause : Condition) (state : StationState) (p : Pru) : Prop :=
  ∃ following, p.first = some { cause := cause, state := state, following := following }

theorem FirstNames.hold {cause : Condition} {state : StationState} {p : Pru} (names : FirstNames cause state p)
    (waits tripped : Bool) (c : Condition) : FirstNames cause state (p.hold waits tripped c) := by
  obtain ⟨following, first⟩ := names
  unfold Pru.hold
  split
  · exact ⟨following, first⟩
  · cases tripped
    · exact ⟨following, first⟩
    · refine ⟨(FirstCause.follow c { cause := cause, state := state, following := following }).following, ?_⟩
      simp only [first, if_true, Option.map_some, FirstCause.follow]
      split <;> rfl

/-- PRU as one frame's overflow may leave it: as it was, or with LINK_OVERRUN held (R53). -/
theorem submit_pru_cases (f : Frame) (s : State) :
    (submit f s).pru = s.pru ∨ (submit f s).pru = (Machine.hold .linkOverrun s).pru := by
  simp only [submit]
  split
  · exact .inr rfl
  · exact .inl rfl

theorem announce_pru_cases (before after : State) :
    (announce before after).pru = after.pru ∨ (announce before after).pru = (Machine.hold .linkOverrun after).pru := by
  rw [announce_eq]
  split
  · exact submit_pru_cases _ _
  · exact .inl rfl

/-- A law of PRU that a further held condition keeps is kept through a trip. -/
theorem tripWith_pru_keeps {P : Pru → Prop} (keeps : ∀ p waits tripped c, P p → P (p.hold waits tripped c)) (r : FirstCause)
    (s : State) (start : P { s.pru with first := some r }) : P (tripWith r s).pru := by
  have entered : P (announcing enterTripped { s with pru := { s.pru with first := some r } }).pru := by
    have moved : P (enterTripped { s with pru := { s.pru with first := some r } }).pru := by
      rw [enterTripped_pru]; exact start
    rcases announce_pru_cases { s with pru := { s.pru with first := some r } }
      (enterTripped { s with pru := { s.pru with first := some r } }) with same | held
    · rw [announcing, same]; exact moved
    · rw [announcing, held]; exact keeps _ _ _ _ moved
  rw [tripWith, submitRecord_pru]
  rcases submit_pru_cases (tripNoticeFrame r) (announcing enterTripped { s with pru := { s.pru with first := some r } })
    with same | held
  · rw [same]; exact entered
  · rw [held]; exact keeps _ _ _ _ entered

theorem tripWith_first (r : FirstCause) (s : State) : FirstNames r.cause r.state (tripWith r s).pru :=
  tripWith_pru_keeps (fun _ waits tripped c names => names.hold waits tripped c) r s ⟨r.following, rfl⟩

theorem Pru.hold_grows {p : Pru} {x : Condition} (held : x ∈ p.held) (waits tripped : Bool) (c : Condition) :
    x ∈ (p.hold waits tripped c).held := by
  unfold Pru.hold
  split
  · exact held
  · exact List.mem_append_left _ held

theorem tripWith_held {x : Condition} (r : FirstCause) (held : x ∈ s.pru.held) : x ∈ (tripWith r s).pru.held :=
  tripWith_pru_keeps (P := fun p => x ∈ p.held) (fun _ waits tripped c was => Pru.hold_grows was waits tripped c) r s held

theorem mem_held_raise (c : Condition) (s : State) : c ∈ (raise c s).pru.held := by
  rcases raise_cases c s with same | ⟨-, -, -, same⟩ <;> rw [same]
  · exact mem_held_hold c s
  · exact tripWith_held _ (mem_held_hold c s)

/-- What every trip makes of the station (R174): TRIPPED, gates off, contactor commanded open. -/
theorem raise_trips (fresh : c ∉ s.pru.held) (cls : tripClass s.params c = true) (can : canTrip s = true) :
    (raise c s).ssc.station = .tripped ∧ (raise c s).mod.gate = .gatesOff ∧ (raise c s).syn.cmdClosed = false ∧
      FirstNames c s.ssc.station (raise c s).pru := by
  rw [raise_of_trip fresh cls can]
  exact ⟨tripWith_station .., tripWith_gate .., tripWith_cmdClosed .., tripWith_first _ _⟩

end

/-! ### LKC beside its queue -/

theorem enqueue_dup (listening : Bool) (f : Frame) (l : Lkc) : (l.enqueue listening f).1.dup = l.dup := by
  unfold Lkc.enqueue
  repeat' split
  all_goals rfl

@[simp] theorem submit_dup (f : Frame) (s : State) : (submit f s).lkc.dup = s.lkc.dup := enqueue_dup ..

@[simp] theorem tripWith_now (r : FirstCause) (s : State) : (tripWith r s).now = s.now := by
  simp [tripWith, announcing, enterTripped]

theorem tripWith_dup (r : FirstCause) (s : State) : (tripWith r s).lkc.dup = s.lkc.dup := by
  have entered : (enterTripped { s with pru := { s.pru with first := some r } }).lkc.dup = s.lkc.dup := by
    rw [enterTripped_lkc]
    split <;> rfl
  rw [tripWith, submitRecord_lkc, submit_dup, announcing, announce_eq]
  split
  · rw [← entered]
    exact submit_dup _ _
  · exact entered

theorem raise_dup (c : Condition) (s : State) : (raise c s).lkc.dup = s.lkc.dup := by
  rcases raise_cases c s with same | ⟨-, -, -, same⟩ <;> rw [same]
  · rfl
  · exact tripWith_dup _ _

theorem raise_now (c : Condition) (s : State) : (raise c s).now = s.now := by
  rcases raise_cases c s with same | ⟨-, -, -, same⟩ <;> rw [same]
  · rfl
  · exact tripWith_now _ _

theorem raise_addr (c : Condition) (s : State) : (raise c s).addr = s.addr := (raise_work (leave := []) c s).addr

/-- A change that leaves the announced items as they were triggers no STATUS (R57). -/
theorem announce_self (s : State) : announce s s = s := by
  have silent : announces s s = false := by simp [announces]
  simp [announce, silent]

/-! ### The frame that a command reports (R44) -/

theorem ofCode_code {n : Nat} {k : FrameKind} (known : FrameKind.ofCode n = some k) : n = k.code := by
  unfold FrameKind.ofCode at known
  split at known <;> first | (cases known; done) | (obtain rfl := Option.some.inj known; rfl)

theorem identifier_fields (cls sender : BitVec 4) :
    ((cls ++ sender : Byte).setWidth 4 : Addr) = sender ∧ ((cls ++ sender : Byte) >>> 4).setWidth 4 = cls := by
  revert cls sender
  decide

/-- The bytes of a good frame are judged good (R44). -/
theorem judgeFrame_good {f : Received} (short : f.payload.length ≤ 32) (notZero : f.sender ≠ 0) (notThirteen : f.sender ≠ 13) :
    judgeFrame (withCrc16 ((f.cls ++ f.sender : Byte) :: f.kind :: BitVec.ofNat 8 f.payload.length :: f.payload)) = some f := by
  have length : (BitVec.ofNat 8 f.payload.length).toNat = f.payload.length := by
    rw [BitVec.toNat_ofNat]; exact Nat.mod_eq_of_lt (by omega)
  have body : ((f.cls ++ f.sender : Byte) :: f.kind :: BitVec.ofNat 8 f.payload.length :: (f.payload ++
      beBytes 2 (crc16 ((f.cls ++ f.sender : Byte) :: f.kind :: BitVec.ofNat 8 f.payload.length :: f.payload)).toNat)).take
        (3 + f.payload.length) = (f.cls ++ f.sender : Byte) :: f.kind :: BitVec.ofNat 8 f.payload.length :: f.payload := by
    rw [Nat.add_comm 3 f.payload.length, List.take_succ_cons, List.take_succ_cons, List.take_succ_cons, List.take_left]
  obtain ⟨sender, cls⟩ := identifier_fields f.cls f.sender
  unfold judgeFrame withCrc16
  simp only [List.cons_append, List.getD_cons_zero, List.getD_cons_succ, length]
  simp only [List.cons_append, body, sender, cls, true_and]
  rw [if_pos ⟨by simp; omega, short, notZero, notThirteen⟩]
  simp

/-- A command that reports a good frame hands it to R44 and R51. -/
theorem exec_of_reports {s : State} {c : Instr} {f : Received} (reports : Reports c f) (run : s.phase = .run)
    (enabled : s.lkc.enabled = true) (notZero : f.sender ≠ 0) (notThirteen : f.sender ≠ 13) :
    exec c s = .next (frameEnded f s) := by
  have heard {x : Instr} (row : exec x s = running (onLink (frameEnded f)) s) : exec x s = .next (frameEnded f s) := by
    rw [row, running_run run, onLink, if_pos enabled]
  rcases reports with rfl | ⟨short, rfl⟩ | row | ⟨cls, kind, sender, rfl⟩ | ⟨cls, kind, sender, request⟩
  · exact heard rfl
  · exact exec_badFrame_of_some run enabled (judgeFrame_good short notZero notThirteen)
  · obtain ⟨cls, sender, kind, payload⟩ := f
    simp only [List.mem_cons, Prod.mk.injEq, List.not_mem_nil, or_false] at row
    rcases row with ⟨rfl, rfl, rfl⟩ | ⟨rfl, rfl, rfl⟩ | ⟨rfl, rfl, rfl⟩ | ⟨rfl, rfl, rfl⟩ <;> exact heard rfl
  · obtain ⟨_, _, _, payload⟩ := f
    obtain rfl := cls; obtain rfl := kind; obtain rfl := sender
    exact heard rfl
  · obtain ⟨_, _, _, payload⟩ := f
    obtain rfl := cls; obtain rfl := kind; obtain rfl := sender
    rcases request with rfl | ⟨target, number, code, ps, rfl, row⟩
    · exact heard rfl
    · simp only [List.mem_cons, Prod.mk.injEq, List.not_mem_nil, or_false] at row
      rcases row with ⟨rfl, rfl⟩ | ⟨rfl, rfl⟩ | ⟨rfl, rfl⟩ | ⟨rfl, rfl⟩ | ⟨rfl, rfl⟩ | ⟨rfl, rfl⟩ | ⟨rfl, rfl⟩ | ⟨rfl, rfl⟩ |
        ⟨rfl, rfl⟩ <;> exact heard rfl

/-! ### A frame that is not handed on -/

theorem fromStation_iff (sender : Addr) (s : State) :
    fromStation sender s = true ↔
      (1 ≤ sender.toNat ∧ sender.toNat ≤ 12) ∧ s.ssc.station ≠ .starting ∧ s.ssc.station ≠ .standby := by
  have listening : s.ssc.station.listening = false ↔ s.ssc.station ≠ .starting ∧ s.ssc.station ≠ .standby := by
    cases s.ssc.station <;> simp [StationState.listening]
  simp [fromStation, isStation, listening]

/-- R44's table drops a frame that it does not hand on. -/
theorem deliver_dropped {s : State} {f : Received} (dropped : ¬ HandedOn s f) : deliver f s = s := by
  unfold deliver
  split
  · rfl
  next k known =>
    have code := ofCode_code known
    rcases ne_or_eq f.cls.toNat k.cls with wrong | cls
    · exact if_pos wrong
    rw [if_neg (not_not.mpr cls)]
    have station {n : BitVec 4} {code : Byte} (sameCls : f.cls = n) (sameKind : f.kind = code)
        (row : (n, code) ∈ [(0#4, 0x01#8), (2#4, 0x20#8), (3#4, 0x30#8), (4#4, 0x31#8)]) : ¬ fromStation f.sender s = true := by
      intro passes
      obtain ⟨⟨low, high⟩, started, awake⟩ := (fromStation_iff _ _).mp passes
      exact dropped (.inr ⟨started, awake, .inl ⟨by rw [sameCls, sameKind]; exact row, low, high⟩⟩)
    have clsIs {n : BitVec 4} (is : k.cls = n.toNat) : f.cls = n := BitVec.eq_of_toNat_eq (cls.trans is)
    have kindIs {n : Byte} (is : k.code = n.toNat) : f.kind = n := BitVec.eq_of_toNat_eq (code.trans is)
    cases k with
    | tripNotice => exact if_neg (station (clsIs (n := 0#4) rfl) (kindIs (n := 0x01#8) rfl) (by simp))
    | claim => exact if_neg (station (clsIs (n := 2#4) rfl) (kindIs (n := 0x20#8) rfl) (by simp))
    | status => exact if_neg (station (clsIs (n := 3#4) rfl) (kindIs (n := 0x30#8) rfl) (by simp))
    | contStatus => exact if_neg (station (clsIs (n := 4#4) rfl) (kindIs (n := 0x31#8) rfl) (by simp))
    | request =>
      refine if_neg fun ⟨panel, filled, named⟩ => dropped (.inl ⟨clsIs (n := 1#4) rfl, kindIs (n := 0x10#8) rfl,
        BitVec.eq_of_toNat_eq (by rw [panel]; rfl), ?_⟩)
      cases payload : f.payload with
      | nil => exact (filled payload).elim
      | cons target rest => exact ⟨target, rest, rfl, by simpa [payload] using named⟩
    | shipStatus =>
      refine if_neg fun ⟨gateway, awake⟩ => dropped (.inr ?_)
      have quiet : s.ssc.station ≠ .starting ∧ s.ssc.station ≠ .standby := by
        cases at_ : s.ssc.station <;> simp [at_, StationState.listening] at awake ⊢
      exact ⟨quiet.1, quiet.2, .inr ⟨clsIs (n := 2#4) rfl, kindIs (n := 0x21#8) rfl,
        BitVec.eq_of_toNat_eq (by rw [gateway]; rfl)⟩⟩
    | reply => rfl
    | intervalReport => rfl
    | logData => rfl

/-- A frame under the own address does nothing else (R51). -/
theorem deliver_own {s : State} {f : Received} (own : f.sender = s.addr) (station : isStation s.addr = true) :
    deliver f s = s := by
  have within : 1 ≤ s.addr.toNat ∧ s.addr.toNat ≤ 12 := by simpa [isStation] using station
  unfold deliver
  rw [own]
  split
  · rfl
  next k _ =>
    rcases ne_or_eq f.cls.toNat k.cls with wrong | cls
    · exact if_pos wrong
    rw [if_neg (not_not.mpr cls)]
    cases k with
    | tripNotice => simp [announcing, tripNoticeTaken, announce_self]
    | claim => simp [announcing, claimTaken, announce_self]
    | status => simp [announcing, statusTaken, announce_self]
    | contStatus => simp [contStatusTaken]
    | request => exact if_neg fun ⟨panel, _⟩ => by omega
    | shipStatus => exact if_neg fun ⟨gateway, _⟩ => by omega
    | reply => rfl
    | intervalReport => rfl
    | logData => rfl

theorem goodSender_of_ne {a : Addr} (notZero : a ≠ 0) (notThirteen : a ≠ 13) : goodSender a = true :=
  decide_eq_true ⟨fun zero => notZero (BitVec.eq_of_toNat_eq zero), fun thirteen => notThirteen (BitVec.eq_of_toNat_eq thirteen)⟩

/-- A good frame of another sender is delivered with the receiver in HUNT. -/
theorem frameEnded_of_peer {s : State} {f : Received} (notZero : f.sender ≠ 0) (notThirteen : f.sender ≠ 13)
    (other : f.sender ≠ s.addr) : frameEnded f s = deliver f (withRx .hunt s) := by
  rw [frameEnded, if_pos (goodSender_of_ne notZero notThirteen), duplicateChecked]
  exact congrArg _ (if_neg other)

theorem frameEnded_of_own {s : State} {f : Received} (own : f.sender = s.addr) (station : isStation s.addr = true) :
    frameEnded f s = raise .duplicateAddress { withRx .hunt s with lkc := { (withRx .hunt s).lkc with dup := some s.now } } := by
  have within : 1 ≤ s.addr.toNat ∧ s.addr.toNat ≤ 12 := by simpa [isStation] using station
  have good : goodSender f.sender = true := by
    rw [own]
    exact decide_eq_true ⟨by omega, by omega⟩
  have checked : duplicateChecked f.sender (withRx .hunt s) =
      raise .duplicateAddress { withRx .hunt s with lkc := { (withRx .hunt s).lkc with dup := some s.now } } :=
    if_pos own
  have address := raise_addr .duplicateAddress { withRx .hunt s with lkc := { (withRx .hunt s).lkc with dup := some s.now } }
  rw [frameEnded, if_pos good, checked]
  refine deliver_own (own.trans address.symm) ?_
  rw [address]
  exact station

theorem isStation_ne {a : Addr} (station : isStation a = true) : a ≠ 0 ∧ a ≠ 13 := by
  have within : 1 ≤ a.toNat ∧ a.toNat ≤ 12 := by simpa [isStation] using station
  constructor <;> rintro rfl <;> simp at within

/-- Settles O26: a frame that no row accepts moves the receive state alone; one under the own address is raised, and no more. -/
theorem framesAreDroppedOrHeardAsDuplicates : Obligations.FramesAreDroppedOrHeardAsDuplicates := by
  refine ⟨fun s c f reports run enabled other notZero notThirteen dropped => ?dropped,
    fun s c f reports run enabled own station => ?own⟩
  case dropped =>
    rw [exec_of_reports reports run enabled notZero notThirteen, frameEnded_of_peer notZero notThirteen other,
      deliver_dropped (s := withRx .hunt s) dropped]
    rfl
  case own =>
    obtain ⟨notZero, notThirteen⟩ := isStation_ne station
    rw [exec_of_reports reports run enabled (own ▸ notZero) (own ▸ notThirteen), frameEnded_of_own own station]
    generalize marked : { withRx .hunt s with lkc := { (withRx .hunt s).lkc with dup := some s.now } } = u
    have dup : (raise .duplicateAddress u).lkc.dup = some s.now := by rw [raise_dup, ← marked]
    have now : (raise .duplicateAddress u).now = s.now := by rw [raise_now, ← marked]; rfl
    have held : u.pru = s.pru := by rw [← marked]; rfl
    refine ⟨_, rfl, mem_held_raise .duplicateAddress u, dup, ?live, fun quiet => ?quiet, fun fresh can => ?trips⟩
    case live => simp [causeLive, dup, now]
    case quiet =>
      have standing : raise .duplicateAddress u = hold .duplicateAddress u := by
        refine raise_quiet (quiet.imp (fun held' => held ▸ held') fun can => .inr ?_)
        rw [← can, ← marked]
        rfl
      rw [standing]
      refine ⟨by rw [hold_lkc, ← marked]; rfl, fun part other => ?_⟩
      subst marked
      cases part with
      | lkc => simp at other
      | pru => simp at other
      | _ => simp [Part.same]
    case trips =>
      have can' : canTrip u = true := by rw [← can, ← marked]; rfl
      obtain ⟨station, gate, contactor, -⟩ := raise_trips (c := .duplicateAddress) (held ▸ fresh) rfl can'
      exact ⟨station, gate, contactor⟩

end Sys2Proof.Machine
end

/-! PROOFS. The peer view and the ship record (chapter 4): what a STATUS, a CONT_STATUS, a TRIP_NOTICE and a SHIP_STATUS make of
them. -/
section
namespace Sys2Proof.Machine

/-! ### The entries (R63) -/

theorem peerAt_putPeer_same (e : Peer) (ps : List Peer) : peerAt e.addr (putPeer e ps) = some e := by
  induction ps with
  | nil => simp [peerAt, putPeer]
  | cons x xs ih =>
    unfold putPeer
    split
    · simp [peerAt]
    · next other =>
      split
      · simpa [peerAt, other] using ih
      · simp [peerAt]

theorem peerAt_putPeer_other {a : Addr} {e : Peer} (other : a ≠ e.addr) (ps : List Peer) :
    peerAt a (putPeer e ps) = peerAt a ps := by
  have skips : (e.addr == a) = false := beq_eq_false_iff_ne.mpr (Ne.symm other)
  induction ps with
  | nil => simp [peerAt, putPeer, skips]
  | cons x xs ih =>
    unfold putPeer
    split
    · next same => simp [peerAt, same, skips]
    · split
      · unfold peerAt at ih ⊢
        rw [List.find?_cons, List.find?_cons, ih]
      · simp [peerAt, skips]

theorem peerAt_dropPeer_same (a : Addr) (ps : List Peer) : peerAt a (dropPeer a ps) = none := by
  simp [peerAt, dropPeer]

theorem peerAt_dropPeer_other {a b : Addr} (other : b ≠ a) (ps : List Peer) : peerAt b (dropPeer a ps) = peerAt b ps := by
  unfold peerAt dropPeer
  rw [List.find?_filter]
  congr 1
  funext e
  by_cases at_ : e.addr = b <;> simp [at_, other]

theorem peerAt_staled_same {a : Addr} {e : Peer} {ps : List Peer} (entry : peerAt a ps = some e) :
    peerAt a (ps.map fun e => if e.addr = a then { e with stale := true } else e) = some { e with stale := true } := by
  have same : (fun x : Peer => x.addr == a) ∘ (fun x : Peer => if x.addr = a then { x with stale := true } else x) =
      fun x => x.addr == a := by
    funext x
    by_cases at_ : x.addr = a <;> simp [at_]
  unfold peerAt at entry ⊢
  rw [List.find?_map, same, entry]
  have at_ : e.addr = a := by simpa using List.find?_some entry
  simp [at_]

theorem peerAt_staled_other {a b : Addr} (other : b ≠ a) (ps : List Peer) :
    peerAt b (ps.map fun e => if e.addr = a then { e with stale := true } else e) = peerAt b ps := by
  have same : (fun x : Peer => x.addr == b) ∘ (fun x : Peer => if x.addr = a then { x with stale := true } else x) =
      fun x => x.addr == b := by
    funext x
    by_cases at_ : x.addr = a <;> simp [at_]
  unfold peerAt
  rw [List.find?_map, same]
  cases found : ps.find? fun x => x.addr == b with
  | none => rfl
  | some e =>
    have at_ : e.addr = b := by simpa using List.find?_some found
    have away : e.addr ≠ a := at_ ▸ other
    simp [away]

/-! ### What a change triggers (R57) -/

section
variable {s : State}

/-- A change of none of R57's items triggers no STATUS. -/
theorem announce_of_same {before after : State} (same : announced before = announced after) : announce before after = after := by
  have silent : announces before after = false := by simp [announces, same]
  simp [announce, silent]

theorem announce_view (before after : State) :
    (announce before after).pvw = { after.pvw with cadence := (announce before after).pvw.cadence, slot := (announce before after).pvw.slot } := by
  rw [announce_eq]
  split <;> rfl

theorem announce_peers (before after : State) : (announce before after).pvw.peers = after.pvw.peers := by
  rw [announce_view]

theorem announce_sameBut (before after : State) : sameBut [.lkc, .pvw, .pru] after (announce before after) := by
  intro part other
  cases part with
  | lkc => simp at other
  | pvw => simp at other
  | pru => simp at other
  | _ => simp [Part.same]

/-! ### HOC at a change of the view (R139) -/

theorem judgeTrip_elsewhere (elsewhere : s.ssc.station ≠ .handoverOut) : judgeTrip s = s := by
  simp [judgeTrip, elsewhere]

theorem viewJudged_elsewhere (inward : s.ssc.station ≠ .handoverIn) (outward : s.ssc.station ≠ .handoverOut) :
    viewJudged s = s := by
  rw [viewJudged, if_neg fun met => inward met.2, judgeTrip_elsewhere outward]

theorem judgedIf_elsewhere (changed : Bool) (inward : s.ssc.station ≠ .handoverIn) (outward : s.ssc.station ≠ .handoverOut) :
    judgedIf changed s = s := by
  cases changed
  · rfl
  · exact viewJudged_elsewhere inward outward

theorem enterHandoverOut_peers (s : State) : (enterHandoverOut s).pvw.peers = s.pvw.peers := by
  have moved : (moveTo .handoverOut s).pvw.peers = s.pvw.peers := by
    simp only [moveTo]
    split <;> rfl
  unfold enterHandoverOut
  split
  · rw [submitEvent_pvw, settled_pvw]; exact moved
  · rw [settled_pvw]; exact moved

theorem abortHandover_peers (cause peer : Byte) (s : State) : (abortHandover cause peer s).pvw.peers = s.pvw.peers := by
  simp only [abortHandover, enterHandoverOut_peers, submitEvent_pvw, raise_alarm (c := .handoverAborted) rfl, hold_pvw]

theorem viewJudged_peers (s : State) : (viewJudged s).pvw.peers = s.pvw.peers := by
  unfold viewJudged
  split
  · split
    · exact abortHandover_peers _ _ _
    · rfl
  · rfl

theorem judgedIf_peers (changed : Bool) (s : State) : (judgedIf changed s).pvw.peers = s.pvw.peers := by
  cases changed
  · rfl
  · exact viewJudged_peers s

/-! ### Frames from a peer (R44, R51, R54) -/

theorem fromStation_of_awake {sender : Addr} (station : isStation sender = true) (awake : s.ssc.station.listening = false) :
    fromStation sender s = true := by
  simp [fromStation, station, awake]

/-- A frame of a station's row from a peer out of listening mode is delivered. -/
theorem exec_of_peer {c : Instr} {f : Received} (run : s.phase = .run) (enabled : s.lkc.enabled = true)
    (station : isStation f.sender = true) (other : f.sender ≠ s.addr)
    (row : (f.cls, f.kind, c) ∈
      [ (0#4, 0x01#8, Instr.tripNoticeReceived f.sender f.payload), (2#4, 0x20#8, .claimReceived f.sender f.payload),
        (3#4, 0x30#8, .statusReceived f.sender f.payload), (4#4, 0x31#8, .contStatusReceived f.sender f.payload) ]) :
    exec c s = .next (deliver f (withRx .hunt s)) := by
  obtain ⟨notZero, notThirteen⟩ := isStation_ne station
  rw [exec_of_reports (.inr (.inr (.inl row))) run enabled notZero notThirteen, frameEnded_of_peer notZero notThirteen other]

section
variable {sender : Addr} {p : List Byte} (run : s.phase = .run) (enabled : s.lkc.enabled = true)
  (awake : s.ssc.station.listening = false) (station : isStation sender = true) (other : sender ≠ s.addr)
include run enabled awake station other

theorem exec_statusReceived_of_peer :
    exec (.statusReceived sender p) s = .next (announcing (statusTaken sender p) (withRx .hunt s)) := by
  rw [exec_of_peer (f := { cls := 3, sender := sender, kind := 0x30, payload := p }) run enabled station other (by simp)]
  exact congrArg _ (if_pos (fromStation_of_awake (s := withRx .hunt s) station awake))

theorem exec_contStatusReceived_of_peer :
    exec (.contStatusReceived sender p) s = .next (contStatusTaken sender p (withRx .hunt s)) := by
  rw [exec_of_peer (f := { cls := 4, sender := sender, kind := 0x31, payload := p }) run enabled station other (by simp)]
  exact congrArg _ (if_pos (fromStation_of_awake (s := withRx .hunt s) station awake))

theorem exec_tripNoticeReceived_of_peer :
    exec (.tripNoticeReceived sender p) s = .next (announcing (tripNoticeTaken sender p) (withRx .hunt s)) := by
  rw [exec_of_peer (f := { cls := 0, sender := sender, kind := 0x01, payload := p }) run enabled station other (by simp)]
  exact congrArg _ (if_pos (fromStation_of_awake (s := withRx .hunt s) station awake))

theorem exec_claimReceived_of_peer :
    exec (.claimReceived sender p) s = .next (announcing (claimTaken sender p) (withRx .hunt s)) := by
  rw [exec_of_peer (f := { cls := 2, sender := sender, kind := 0x20, payload := p }) run enabled station other (by simp)]
  exact congrArg _ (if_pos (fromStation_of_awake (s := withRx .hunt s) station awake))

end

theorem exec_shipStatusReceived_of_awake {p : List Byte} (run : s.phase = .run) (enabled : s.lkc.enabled = true)
    (awake : s.ssc.station.listening = false) (other : s.addr ≠ 14) :
    exec (.shipStatusReceived p) s = .next (announcing (shipStatusTaken p) (withRx .hunt s)) := by
  rw [exec_of_reports (f := { cls := 2, sender := 14, kind := 0x21, payload := p }) (.inr (.inr (.inr (.inl ⟨rfl, rfl, rfl, rfl⟩))))
    run enabled (by simp) (by simp), frameEnded_of_peer (by simp) (by simp) (Ne.symm other)]
  exact congrArg _ (if_pos ⟨rfl, awake⟩)

/-! ### A STATUS (R64) -/

theorem StationState.ofCode_code (x : StationState) : StationState.ofCode x.code = some x := by cases x <;> rfl

/-- A state code of a STATUS is STANDBY's, a broadcasting state's, or no such state's. -/
theorem stateCode_cases (n : Nat) :
    n = 3 ∨ (∃ st : StationState, st.broadcasting = true ∧ n = st.code) ∨ (n < 3 ∨ 12 < n) := by
  match n with
  | 0 | 1 | 2 => exact .inr (.inr (.inl (by decide)))
  | 3 => exact .inl rfl
  | 4 => exact .inr (.inl ⟨.prepared, rfl, rfl⟩)
  | 5 => exact .inr (.inl ⟨.joining, rfl, rfl⟩)
  | 6 => exact .inr (.inl ⟨.online, rfl, rfl⟩)
  | 7 => exact .inr (.inl ⟨.shipSync, rfl, rfl⟩)
  | 8 => exact .inr (.inl ⟨.handoverIn, rfl, rfl⟩)
  | 9 => exact .inr (.inl ⟨.supplying, rfl, rfl⟩)
  | 10 => exact .inr (.inl ⟨.handoverOut, rfl, rfl⟩)
  | 11 => exact .inr (.inl ⟨.closing, rfl, rfl⟩)
  | 12 => exact .inr (.inl ⟨.tripped, rfl, rfl⟩)
  | n + 13 => exact .inr (.inr (.inr (by omega)))

section
variable {sender : Addr} {p : List Byte} (other : sender ≠ s.addr) (length : p.length = 16) (rating : (p.getD 6 0).toNat ≤ 3)
include other length rating

theorem statusTaken_wellFormed :
    statusTaken sender p s =
      match StationState.ofCode (p.getD 0 0).toNat with
      | none => s
      | some st =>
          if st = .standby then
            judgedIf (peerAt sender s.pvw.peers).isSome (withPeers (dropPeer sender s.pvw.peers) s)
          else if st.broadcasting then
            judgedIf (entryChanges (peerAt sender s.pvw.peers) (statusEntry sender st p s.now))
              (withPeers (putPeer (statusEntry sender st p s.now) s.pvw.peers) s)
          else s := by
  refine if_neg ?_
  rintro (own | short | high)
  · exact other own
  · exact short length
  · omega

theorem statusTaken_standby (standby : (p.getD 0 0).toNat = 3) :
    statusTaken sender p s =
      judgedIf (peerAt sender s.pvw.peers).isSome (withPeers (dropPeer sender s.pvw.peers) s) := by
  rw [statusTaken_wellFormed other length rating, standby]
  rfl

theorem statusTaken_broadcasting {st : StationState} (broadcasting : st.broadcasting = true)
    (code : (p.getD 0 0).toNat = st.code) :
    statusTaken sender p s =
      judgedIf (entryChanges (peerAt sender s.pvw.peers) (statusEntry sender st p s.now))
        (withPeers (putPeer (statusEntry sender st p s.now) s.pvw.peers) s) := by
  have awake : st ≠ .standby := by rintro rfl; simp [StationState.broadcasting] at broadcasting
  rw [statusTaken_wellFormed other length rating, code, StationState.ofCode_code]
  exact (if_neg awake).trans (if_pos broadcasting)

theorem statusTaken_other (code : (p.getD 0 0).toNat < 3 ∨ 12 < (p.getD 0 0).toNat) : statusTaken sender p s = s := by
  rw [statusTaken_wellFormed other length rating]
  generalize (p.getD 0 0).toNat = n at code ⊢
  match n with
  | 0 | 1 | 2 => rfl
  | 3 | 4 | 5 | 6 | 7 | 8 | 9 | 10 | 11 | 12 => omega
  | n + 13 => rfl

/-- A STATUS replaces the entries of the view, and HOC judges them or not. -/
theorem statusTaken_cases : ∃ (ps : List Peer) (changed : Bool),
    statusTaken sender p s = judgedIf changed (withPeers ps s) ∧ ∀ a, a ≠ sender → peerAt a ps = peerAt a s.pvw.peers := by
  rcases stateCode_cases (p.getD 0 0).toNat with standby | ⟨st, broadcasting, code⟩ | none
  · exact ⟨_, _, statusTaken_standby other length rating standby, fun a away => peerAt_dropPeer_other away _⟩
  · exact ⟨_, _, statusTaken_broadcasting other length rating broadcasting code, fun a away => peerAt_putPeer_other away _⟩
  · exact ⟨s.pvw.peers, false, statusTaken_other other length rating none, fun _ _ => rfl⟩

end

theorem withPeers_announced (ps : List Peer) (s : State) : announced (withPeers ps s) = announced s := rfl

theorem withPeers_withRx_sameBut (ps : List Peer) (rx : RxState) (s : State) :
    sameBut [.lkc, .pvw] s (withPeers ps (withRx rx s)) := by
  intro part other
  cases part with
  | lkc => simp at other
  | pvw => simp at other
  | _ => simp [Part.same, withPeers, withRx]

/-! ### A CONT_STATUS (R65) -/

theorem contStatusTaken_none {sender : Addr} {p : List Byte} (absent : peerAt sender s.pvw.peers = none) :
    contStatusTaken sender p s = s := by
  simp [contStatusTaken, absent]

theorem contStatusTaken_some {sender : Addr} {p : List Byte} {e : Peer} (other : sender ≠ s.addr) (length : p.length = 6)
    (entry : peerAt sender s.pvw.peers = some e) :
    contStatusTaken sender p s = withPeers (putPeer (e.continued p s.now) s.pvw.peers) s := by
  simp [contStatusTaken, other, length, entry]

theorem peerAt_continued {sender : Addr} {p : List Byte} {e : Peer} {now : Nat} {ps : List Peer} (at_ : e.addr = sender) :
    peerAt sender (putPeer (e.continued p now) ps) = some (e.continued p now) := by
  have put := peerAt_putPeer_same (e.continued p now) ps
  rwa [Peer.continued_addr, at_] at put

end

theorem peerBroadcastsSetTheirEntry_status {s : State} {sender : Addr} {p : List Byte} (run : s.phase = .run)
    (enabled : s.lkc.enabled = true) (awake : s.ssc.station.listening = false) (station : isStation sender = true)
    (other : sender ≠ s.addr) (length : p.length = 16) (rating : (p.getD 6 0).toNat ≤ 3) :
    ∃ t, exec (.statusReceived sender p) s = .next t ∧
      (s.ssc.station ≠ .handoverIn → s.ssc.station ≠ .handoverOut → sameBut [.lkc, .pvw] s t ∧ t.lkc.queue = s.lkc.queue) ∧
      (∀ a, a ≠ sender → peerAt a t.pvw.peers = peerAt a s.pvw.peers) ∧
      ((p.getD 0 0).toNat = 3 → peerAt sender t.pvw.peers = none) ∧
      (∀ st : StationState, st.broadcasting = true → (p.getD 0 0).toNat = st.code →
        peerAt sender t.pvw.peers = some (statusEntry sender st p s.now)) ∧
      ((p.getD 0 0).toNat < 3 ∨ 12 < (p.getD 0 0).toNat → t.pvw = s.pvw) := by
  obtain ⟨ps, changed, taken, others⟩ := statusTaken_cases (s := withRx .hunt s) other length rating
  have peers : (announcing (statusTaken sender p) (withRx .hunt s)).pvw.peers = (statusTaken sender p (withRx .hunt s)).pvw.peers :=
    announce_peers _ _
  refine ⟨_, exec_statusReceived_of_peer run enabled awake station other, fun inward outward => ?elsewhere,
    fun a away => ?others, fun standby => ?standby, fun st broadcasting code => ?entry, fun none => ?none⟩
  case elsewhere =>
    rw [announcing, taken, judgedIf_elsewhere (s := withPeers ps (withRx .hunt s)) changed inward outward,
      announce_of_same (withPeers_announced _ _).symm]
    exact ⟨withPeers_withRx_sameBut ps .hunt s, rfl⟩
  case others =>
    rw [peers, taken, judgedIf_peers]
    exact others a away
  case standby =>
    rw [peers, statusTaken_standby (s := withRx .hunt s) other length rating standby, judgedIf_peers]
    exact peerAt_dropPeer_same _ _
  case entry =>
    rw [peers, statusTaken_broadcasting (s := withRx .hunt s) other length rating broadcasting code, judgedIf_peers]
    exact peerAt_putPeer_same (statusEntry sender st p s.now) s.pvw.peers
  case none =>
    rw [announcing, statusTaken_other (s := withRx .hunt s) other length rating none, announce_self]
    rfl

theorem peerBroadcastsSetTheirEntry_contStatus {s : State} {sender : Addr} {p : List Byte} (run : s.phase = .run)
    (enabled : s.lkc.enabled = true) (awake : s.ssc.station.listening = false) (station : isStation sender = true)
    (other : sender ≠ s.addr) (length : p.length = 6) :
    ∃ t, exec (.contStatusReceived sender p) s = .next t ∧ sameBut [.lkc, .pvw] s t ∧ t.lkc.queue = s.lkc.queue ∧
      (∀ a, a ≠ sender → peerAt a t.pvw.peers = peerAt a s.pvw.peers) ∧
      (peerAt sender s.pvw.peers = none → t.pvw = s.pvw) ∧
      ∀ e, peerAt sender s.pvw.peers = some e → peerAt sender t.pvw.peers = some (e.continued p s.now) := by
  refine ⟨_, exec_contStatusReceived_of_peer run enabled awake station other, ?_⟩
  cases entry : peerAt sender s.pvw.peers with
  | none =>
    rw [contStatusTaken_none (s := withRx .hunt s) entry]
    exact ⟨withPeers_withRx_sameBut s.pvw.peers .hunt s, rfl, fun _ _ => rfl, fun _ => rfl, fun e held => absurd held (by simp)⟩
  | some e =>
    have at_ : e.addr = sender := (peerAt_some entry).2
    rw [contStatusTaken_some (s := withRx .hunt s) other length entry]
    refine ⟨withPeers_withRx_sameBut _ .hunt s, rfl, fun a away => ?_, fun absent => absurd absent (by simp), fun d held => ?_⟩
    · exact peerAt_putPeer_other (by rw [Peer.continued_addr, at_]; exact away) _
    · obtain rfl := Option.some.inj held
      exact peerAt_continued at_

/-- Settles O27: a STATUS puts or drops its sender's entry, a CONT_STATUS continues it. -/
theorem peerBroadcastsSetTheirEntry : Obligations.PeerBroadcastsSetTheirEntry := by
  intro s sender p run enabled awake station other
  refine ⟨fun length rating => ?status, fun length => ?contStatus⟩
  case status =>
    obtain ⟨t, taken, elsewhere, others, standby, entry, none⟩ :=
      peerBroadcastsSetTheirEntry_status run enabled awake station other length rating
    exact ⟨t, taken, elsewhere, others, standby, entry, none⟩
  case contStatus =>
    obtain ⟨t, taken, kept, queue, others, none, entry⟩ :=
      peerBroadcastsSetTheirEntry_contStatus run enabled awake station other length
    exact ⟨t, taken, kept, queue, others, none, entry⟩

end Sys2Proof.Machine
end

/-! PROOFS. Notices, the ship record and ageing (R66 to R69): what they leave, also where HOC or SSC acts on them. -/
section
namespace Sys2Proof.Machine

section
variable {s : State}

/-! ### A TRIP_NOTICE (R66, R108) -/

/-- The view as a TRIP_NOTICE leaves it (R66). -/
def noticed (sender : Addr) (s : State) : State :=
  match peerAt sender s.pvw.peers with
  | some e => withPeers (putPeer e.tripped s.pvw.peers) s
  | none => s

theorem tripNoticeTaken_eq {sender : Addr} {p : List Byte} (other : sender ≠ s.addr) (length : p.length = 2) :
    tripNoticeTaken sender p s =
      judgedIf (peerAt sender s.pvw.peers).isSome (expireClaimOf sender (noticed sender s)) := by
  unfold tripNoticeTaken noticed
  exact if_neg (by simp [other, length])

theorem noticed_eq (sender : Addr) (s : State) : ∃ ps, noticed sender s = withPeers ps s := by
  unfold noticed
  split
  · exact ⟨_, rfl⟩
  · exact ⟨s.pvw.peers, rfl⟩

theorem peerAt_noticed_other {a sender : Addr} (other : a ≠ sender) :
    peerAt a (noticed sender s).pvw.peers = peerAt a s.pvw.peers := by
  unfold noticed
  split
  next e entry => exact peerAt_putPeer_other (by rw [show e.tripped.addr = e.addr from rfl, (peerAt_some entry).2]; exact other) _
  · rfl

theorem peerAt_noticed_same (sender : Addr) (s : State) :
    peerAt sender (noticed sender s).pvw.peers = (peerAt sender s.pvw.peers).map Peer.tripped := by
  unfold noticed
  cases entry : peerAt sender s.pvw.peers with
  | none => exact entry
  | some e =>
    have put := peerAt_putPeer_same e.tripped s.pvw.peers
    rwa [show e.tripped.addr = e.addr from rfl, (peerAt_some entry).2] at put

theorem raiseClaim_of_other (other : s.ssc.station ≠ .joining) : raiseClaim s = s := by
  simp [raiseClaim, mayClaim, other]

@[simp] theorem raiseClaim_pvw (s : State) : (raiseClaim s).pvw = s.pvw := by
  unfold raiseClaim
  split <;> rfl

@[simp] theorem raiseClaim_ssc (s : State) : (raiseClaim s).ssc = s.ssc := by
  unfold raiseClaim
  split <;> rfl

@[simp] theorem raiseClaim_claim (s : State) : (raiseClaim s).syn.claim = s.syn.claim := by
  unfold raiseClaim
  split <;> rfl

theorem expireClaimOf_of_foreign {sender : Addr} {time : Nat} (foreign : s.syn.claim = .foreign sender time) :
    expireClaimOf sender s = raiseClaim { s with syn := { s.syn with claim := .expired } } := by
  simp [expireClaimOf, foreign]

/-- A claim that ends by a TRIP_NOTICE: SYN and, for a new CLAIM, LKC and PRU alone. -/
theorem expireClaimOf_cases (sender : Addr) (s : State) :
    expireClaimOf sender s = s ∨
      (∃ time, s.syn.claim = .foreign sender time) ∧
        expireClaimOf sender s = raiseClaim { s with syn := { s.syn with claim := .expired } } := by
  unfold expireClaimOf
  split
  next a time held =>
    split_ifs with same
    · exact .inr ⟨⟨time, same ▸ held⟩, rfl⟩
    · exact .inl rfl
  · exact .inl rfl

@[simp] theorem expireClaimOf_pvw (sender : Addr) (s : State) : (expireClaimOf sender s).pvw = s.pvw := by
  rcases expireClaimOf_cases sender s with same | ⟨-, same⟩ <;> rw [same]
  exact raiseClaim_pvw _

@[simp] theorem expireClaimOf_ssc (sender : Addr) (s : State) : (expireClaimOf sender s).ssc = s.ssc := by
  rcases expireClaimOf_cases sender s with same | ⟨-, same⟩ <;> rw [same]
  exact raiseClaim_ssc _

/-- Out of JOINING a claim that ends by a TRIP_NOTICE moves SYN alone, and none of R57's items. -/
theorem expireClaimOf_elsewhere (sender : Addr) (other : s.ssc.station ≠ .joining) :
    ∃ y : Syn, expireClaimOf sender s = { s with syn := y } ∧ announced { s with syn := y } = announced s := by
  rcases expireClaimOf_cases sender s with same | ⟨⟨time, held⟩, same⟩ <;> rw [same]
  · exact ⟨s.syn, rfl, rfl⟩
  · rw [raiseClaim_of_other (s := { s with syn := { s.syn with claim := .expired } }) other]
    exact ⟨_, rfl, by simp [announced, held]⟩

/-! ### HOC's judgement of the view leaves the claim -/

theorem enterHandoverOut_of_in (inward : s.ssc.station = .handoverIn) :
    enterHandoverOut s = settled { s with
      ssc := { s.ssc with station := .handoverOut }
      hoc := s.hoc.enterOut s.msu.p s.params.partReady s.now } := by
  simp [enterHandoverOut, moveTo, inward, Syn.moved, Shc.moved, Hoc.enterOut, StationState.shipConnected,
    StationState.broadcasting]

theorem settled_claim (s : State) : (settled s).syn.claim = s.syn.claim := rfl

theorem viewJudged_claim (s : State) : (viewJudged s).syn.claim = s.syn.claim := by
  unfold viewJudged
  split
  next inward =>
    split
    · rw [abortHandover, enterHandoverOut_of_in, settled_claim]
      · simp [raise_alarm (c := .handoverAborted) rfl]
      · simpa [raise_alarm (c := .handoverAborted) rfl] using inward.2
    · rfl
  · rfl

theorem judgedIf_claim (changed : Bool) (s : State) : (judgedIf changed s).syn.claim = s.syn.claim := by
  cases changed
  · rfl
  · exact viewJudged_claim s

theorem judgedIf_syn (changed : Bool) (other : s.ssc.station ≠ .handoverIn) : (judgedIf changed s).syn = s.syn := by
  cases changed
  · rfl
  · rw [judgedIf_true, viewJudged, if_neg fun met => other met.2]
    rfl

end

section
variable {s : State} {p : List Byte} (run : s.phase = .run) (enabled : s.lkc.enabled = true)
  (awake : s.ssc.station.listening = false)

/-! ### The notice taken -/

section
variable {sender : Addr} (station : isStation sender = true) (other : sender ≠ s.addr) (length : p.length = 2)
include run enabled awake station other length

theorem exec_tripNoticeReceived_files :
    ∃ t, exec (.tripNoticeReceived sender p) s = .next t ∧
      (s.ssc.station ∉ [StationState.joining, .handoverIn, .handoverOut] →
        sameBut [.lkc, .pvw, .syn] s t ∧ t.lkc.queue = s.lkc.queue) ∧
      (∀ a, a ≠ sender → peerAt a t.pvw.peers = peerAt a s.pvw.peers) ∧
      peerAt sender t.pvw.peers = (peerAt sender s.pvw.peers).map Peer.tripped := by
  have taken := tripNoticeTaken_eq (s := withRx .hunt s) other length
  have peers : (announcing (tripNoticeTaken sender p) (withRx .hunt s)).pvw.peers =
      (noticed sender (withRx .hunt s)).pvw.peers := by
    rw [announcing, announce_peers, taken, judgedIf_peers, expireClaimOf_pvw]
  refine ⟨_, exec_tripNoticeReceived_of_peer run enabled awake station other, fun elsewhere => ?_, fun a away => ?_, ?_⟩
  · simp only [List.mem_cons, List.not_mem_nil, or_false, not_or] at elsewhere
    obtain ⟨joining, inward, outward⟩ := elsewhere
    obtain ⟨ps, filed⟩ := noticed_eq sender (withRx .hunt s)
    obtain ⟨y, expired, same⟩ := expireClaimOf_elsewhere (s := withPeers ps (withRx .hunt s)) sender joining
    rw [announcing, taken, filed, expired, judgedIf_elsewhere (s := { withPeers ps (withRx .hunt s) with syn := y }) _ inward outward,
      announce_of_same (same.trans (withPeers_announced _ _)).symm]
    refine ⟨fun part other => ?_, rfl⟩
    cases part with
    | lkc => simp at other
    | pvw => simp at other
    | syn => simp at other
    | _ => simp [Part.same, withPeers, withRx]
  · rw [peers]
    exact peerAt_noticed_other (s := withRx .hunt s) away
  · rw [peers]
    exact peerAt_noticed_same sender (withRx .hunt s)

theorem exec_tripNoticeReceived_expires {time : Nat} (held : s.syn.claim = .foreign sender time) :
    ∃ t, exec (.tripNoticeReceived sender p) s = .next t ∧ t.syn.claim = .expired ∧
      (s.ssc.station ∉ [StationState.joining, .handoverIn] → t.syn = { s.syn with claim := .expired }) := by
  have taken := tripNoticeTaken_eq (s := withRx .hunt s) other length
  obtain ⟨ps, filed⟩ := noticed_eq sender (withRx .hunt s)
  have expired := expireClaimOf_of_foreign (s := withPeers ps (withRx .hunt s)) held
  refine ⟨_, exec_tripNoticeReceived_of_peer run enabled awake station other, ?_, fun elsewhere => ?_⟩
  · rw [announcing, announce_syn, taken, judgedIf_claim, filed, expired, raiseClaim_claim]
  · simp only [List.mem_cons, List.not_mem_nil, or_false, not_or] at elsewhere
    obtain ⟨joining, inward⟩ := elsewhere
    have stands : (withPeers ps (withRx .hunt s)).ssc.station ≠ .handoverIn := inward
    have away : (withPeers ps (withRx .hunt s)).ssc.station ≠ .joining := joining
    rw [announcing, announce_syn, taken, filed, judgedIf_syn _ (by rw [expireClaimOf_ssc]; exact stands), expired,
      raiseClaim_of_other]
    · rfl
    · exact away

end

/-! ### A SHIP_STATUS (R68, R69, R94, R133) -/

theorem gensetsJudged_supplies {n : Nat} (inward : s.ssc.station = .handoverIn) (none : n = 0) :
    gensetsJudged n s = enterSupplying s := if_pos ⟨inward, none⟩

theorem gensetsJudged_returns {n : Nat} (supplying : s.ssc.station = .supplying) (some : 1 ≤ n)
    (armed : s.hoc.returnArmed = true) : gensetsJudged n s = enterHandoverOut s := by
  rw [gensetsJudged, if_neg (by simp [supplying]), if_pos ⟨supplying, some, armed⟩]

theorem gensetsJudged_cases (n : Nat) (s : State) :
    gensetsJudged n s = s ∨ s.ssc.station = .handoverIn ∧ gensetsJudged n s = enterSupplying s ∨
      s.ssc.station = .supplying ∧ gensetsJudged n s = enterHandoverOut s := by
  unfold gensetsJudged
  split_ifs with inward back
  · exact .inr (.inl ⟨inward.1, rfl⟩)
  · exact .inr (.inr ⟨back.1, rfl⟩)
  · exact .inl rfl

theorem gensetsJudged_elsewhere (n : Nat) (inward : s.ssc.station ≠ .handoverIn) (supplying : s.ssc.station ≠ .supplying) :
    gensetsJudged n s = s := by
  simp [gensetsJudged, inward, supplying]

theorem enterSupplying_of_in (inward : s.ssc.station = .handoverIn) :
    (enterSupplying s).ssc = { s.ssc with station := .supplying } ∧ (enterSupplying s).pvw = s.pvw ∧
      (enterSupplying s).hoc = { s.hoc with
        pTarget := none, pFinal := none, fHo := 0, timer := none, stale := none, tick := none } ∧
      (enterSupplying s).shc = { s.shc with rest := some s.now } := by
  simp [enterSupplying, moveTo, inward, StationState.broadcasting]

theorem enterHandoverOut_of_supplying (supplying : s.ssc.station = .supplying) :
    (enterHandoverOut s).ssc = { s.ssc with station := .handoverOut } ∧ (enterHandoverOut s).pvw = s.pvw ∧
      (enterHandoverOut s).hoc = s.hoc.enterOut s.msu.p s.params.partReady s.now ∧
      (enterHandoverOut s).shc = { s.shc with rest := none } := by
  simp [enterHandoverOut, moveTo, supplying, StationState.broadcasting, Shc.moved, StationState.shipConnected]

/-- What a SHIP_STATUS leaves of view and handover, SSC's turn taken or not. -/
theorem gensetsJudged_files (n : Nat) (p : List Byte) (s : State) :
    (gensetsJudged n (shipRecorded p s)).pvw = (shipRecorded p s).pvw ∧ (gensetsJudged n (shipRecorded p s)).hoc.stale = none := by
  rcases gensetsJudged_cases n (shipRecorded p s) with same | ⟨inward, same⟩ | ⟨supplying, same⟩ <;> rw [same]
  · exact ⟨rfl, rfl⟩
  · obtain ⟨-, view, handover, -⟩ := enterSupplying_of_in inward
    exact ⟨view, by rw [handover]⟩
  · obtain ⟨-, view, handover, -⟩ := enterHandoverOut_of_supplying supplying
    exact ⟨view, by rw [handover]; rfl⟩

theorem shipStatusTaken_eq (length : p.length = 4) (count : (p.getD 0 0).toNat ≤ 8) (s : State) :
    shipStatusTaken p s = gensetsJudged (p.getD 0 0).toNat (shipRecorded p s) := if_pos ⟨length, count⟩

include run enabled awake in
theorem exec_shipStatusReceived_files (away : s.addr ≠ 14) (length : p.length = 4) (count : (p.getD 0 0).toNat ≤ 8) :
    ∃ t, exec (.shipStatusReceived p) s = .next t ∧
      t.pvw.ship = some { gensets := (p.getD 0 0).toNat, load := fieldNat p 1 2, refreshed := s.now, stale := false } ∧
      t.pvw.shipStale = false ∧ t.pvw.peers = s.pvw.peers ∧ t.hoc.stale = none ∧
      (s.ssc.station ∉ [StationState.handoverIn, .supplying] →
        t.pvw = { s.pvw with ship := t.pvw.ship, shipStale := false } ∧ t.hoc = { s.hoc with stale := none } ∧
          t.lkc.queue = s.lkc.queue ∧ sameBut [.lkc, .pvw, .hoc] s t) := by
  have taken := shipStatusTaken_eq length count (withRx .hunt s)
  obtain ⟨view, stale⟩ := gensetsJudged_files (p.getD 0 0).toNat p (withRx .hunt s)
  have filed : (announcing (shipStatusTaken p) (withRx .hunt s)).pvw.ship = (shipRecorded p (withRx .hunt s)).pvw.ship ∧
      (announcing (shipStatusTaken p) (withRx .hunt s)).pvw.shipStale = false ∧
      (announcing (shipStatusTaken p) (withRx .hunt s)).pvw.peers = s.pvw.peers := by
    rw [announcing, announce_view, taken, view]
    exact ⟨rfl, rfl, rfl⟩
  obtain ⟨ship, fresh, peers⟩ := filed
  refine ⟨_, exec_shipStatusReceived_of_awake run enabled awake away, ship, fresh, peers, ?_, fun elsewhere => ?_⟩
  · rw [announcing, announce_hoc, taken]
    exact stale
  · simp only [List.mem_cons, List.not_mem_nil, or_false, not_or] at elsewhere
    obtain ⟨inward, supplying⟩ := elsewhere
    rw [announcing, taken, gensetsJudged_elsewhere (s := shipRecorded p (withRx .hunt s)) _ inward supplying,
      announce_of_same (show announced (withRx .hunt s) = announced (shipRecorded p (withRx .hunt s)) from rfl)]
    refine ⟨rfl, rfl, rfl, fun part other => ?_⟩
    cases part with
    | lkc => simp at other
    | pvw => simp at other
    | hoc => simp at other
    | _ => simp [Part.same, shipRecorded, withRx]

end

/-- Settles O28: a notice files its entry and ends its sender's claim; a SHIP_STATUS is recorded, whatever SSC does then. -/
theorem noticesAndShipStatusAreFiled : Obligations.NoticesAndShipStatusAreFiled := by
  intro s p run enabled awake
  refine ⟨fun sender station other length => ?notice, fun sender time station other length held =>
    exec_tripNoticeReceived_expires run enabled awake station other length held, fun away length count =>
    exec_shipStatusReceived_files run enabled awake away length count⟩
  case notice =>
    obtain ⟨t, taken, elsewhere, others, entry⟩ := exec_tripNoticeReceived_files run enabled awake station other length
    exact ⟨t, taken, elsewhere, others, entry⟩

/-! ### SSC's turns (R94) -/

theorem exec_shipStatusReceived_frameEnded {s : State} {p : List Byte} (run : s.phase = .run) (enabled : s.lkc.enabled = true) :
    exec (.shipStatusReceived p) s = .next (frameEnded { cls := 2, sender := 14, kind := 0x21, payload := p } s) :=
  exec_of_reports (f := { cls := 2, sender := 14, kind := 0x21, payload := p }) (.inr (.inr (.inr (.inl ⟨rfl, rfl, rfl, rfl⟩))))
    run enabled (by simp) (by simp)

/-- Settles O29, by the two turns of SSC and the states they enter. -/
theorem shipStatusTurnsTheHandover : Obligations.ShipStatusTurnsTheHandover := by
  intro s p run enabled away length count
  have turned (awake : s.ssc.station.listening = false) :
      frameEnded { cls := 2, sender := 14, kind := 0x21, payload := p } s =
        announce (withRx .hunt s) (gensetsJudged (p.getD 0 0).toNat (shipRecorded p (withRx .hunt s))) := by
    have taken := exec_shipStatusReceived_of_awake (p := p) run enabled awake away
    rw [exec_shipStatusReceived_frameEnded run enabled] at taken
    rw [Host.Outcome.next.inj taken, announcing, shipStatusTaken_eq length count]
  refine ⟨_, exec_shipStatusReceived_frameEnded run enabled, fun inward none => ?supplies, fun supplying some armed => ?returns,
    fun supplying unarmed => ?stays⟩
  case supplies =>
    have inward' : (shipRecorded p (withRx .hunt s)).ssc.station = .handoverIn := inward
    obtain ⟨ssc, -, hoc, shc⟩ := enterSupplying_of_in inward'
    rw [turned (by simp [inward, StationState.listening]), gensetsJudged_supplies inward' none, announce_ssc, announce_hoc,
      announce_shc, ssc, hoc, shc]
    exact ⟨rfl, rfl, rfl, rfl, rfl, rfl, rfl, rfl⟩
  case returns =>
    have supplying' : (shipRecorded p (withRx .hunt s)).ssc.station = .supplying := supplying
    obtain ⟨ssc, -, hoc, shc⟩ := enterHandoverOut_of_supplying supplying'
    rw [turned (by simp [supplying, StationState.listening]),
      gensetsJudged_returns (s := shipRecorded p (withRx .hunt s)) supplying some armed, announce_ssc, announce_hoc, announce_shc,
      ssc, hoc, shc]
    exact ⟨rfl, rfl, rfl, rfl, rfl⟩
  case stays =>
    have still : gensetsJudged (p.getD 0 0).toNat (shipRecorded p (withRx .hunt s)) = shipRecorded p (withRx .hunt s) := by
      simp [gensetsJudged, shipRecorded, supplying, unarmed]
    rw [turned (by simp [supplying, StationState.listening]), still]
    exact ⟨rfl, rfl⟩

/-! ### Ages (R67, R69) -/

section
variable {s : State} {a : Addr} {e : Peer}

theorem enterHandoverOut_now (s : State) : (enterHandoverOut s).now = s.now := by
  unfold enterHandoverOut
  split <;> simp

theorem viewJudged_now (s : State) : (viewJudged s).now = s.now := by
  unfold viewJudged
  split
  · split
    · simp [abortHandover, enterHandoverOut_now, raise_now]
    · rfl
  · rfl

theorem judgedIf_now (changed : Bool) (s : State) : (judgedIf changed s).now = s.now := by
  cases changed
  · rfl
  · exact viewJudged_now s

theorem withPeers_catchUp_sameBut (ps : List Peer) (start length : Nat) (s : State) :
    sameBut [.clock, .pvw] s (withPeers ps (catchUp start length s)) := by
  intro part other
  cases part with
  | clock => simp at other
  | pvw => simp at other
  | _ => simp [Part.same, withPeers]

theorem exec_peerEntryStale_of_entry (run : s.phase = .run) (entry : peerAt a s.pvw.peers = some e) :
    exec (.peerEntryStale a) s = .next (announce s (peerStale a (catchUp e.refreshed 480 s))) := by
  have dispatched : exec (.peerEntryStale a) s = execPeerEntryStale a s := rfl
  rw [dispatched, execPeerEntryStale, running_run run, announcing,
    onExpiry_some (show peerTimer a s = some e.refreshed by simp [peerTimer, entry])]

theorem exec_peerEntryRemoved_of_entry (run : s.phase = .run) (entry : peerAt a s.pvw.peers = some e) :
    exec (.peerEntryRemoved a) s = .next (announce s (peerRemoved a (catchUp e.refreshed 4000 s))) := by
  have dispatched : exec (.peerEntryRemoved a) s = execPeerEntryRemoved a s := rfl
  rw [dispatched, execPeerEntryRemoved, running_run run, announcing,
    onExpiry_some (show peerTimer a s = some e.refreshed by simp [peerTimer, entry])]

theorem exec_peerEntryStale_ages (run : s.phase = .run) (entry : peerAt a s.pvw.peers = some e) :
    ∃ t, exec (.peerEntryStale a) s = .next t ∧ t.now = max s.now (e.refreshed + 480) ∧
      (s.ssc.station ≠ .handoverIn → s.ssc.station ≠ .handoverOut → sameBut [.clock, .pvw] s t) ∧
      peerAt a t.pvw.peers = some { e with stale := true } ∧ Peer.fresh t.now { e with stale := true } = false ∧
      ∀ b, b ≠ a → peerAt b t.pvw.peers = peerAt b s.pvw.peers := by
  refine ⟨_, exec_peerEntryStale_of_entry run entry, ?_, fun inward outward => ?_, ?_, by simp [Peer.fresh], fun b other => ?_⟩
  · rw [announce_now, peerStale, judgedIf_now]
    rfl
  · rw [peerStale, judgedIf_elsewhere (s := withPeers _ (catchUp e.refreshed 480 s)) _ inward outward,
      announce_of_same (show announced s = announced (withPeers _ (catchUp e.refreshed 480 s)) from rfl)]
    exact withPeers_catchUp_sameBut _ _ _ s
  · rw [announce_peers, peerStale, judgedIf_peers]
    exact peerAt_staled_same entry
  · rw [announce_peers, peerStale, judgedIf_peers]
    exact peerAt_staled_other other _

theorem exec_peerEntryRemoved_removes (run : s.phase = .run) (entry : peerAt a s.pvw.peers = some e) :
    ∃ t, exec (.peerEntryRemoved a) s = .next t ∧ t.now = max s.now (e.refreshed + 4000) ∧
      (s.ssc.station ≠ .handoverIn → s.ssc.station ≠ .handoverOut → sameBut [.clock, .pvw] s t) ∧
      peerAt a t.pvw.peers = none ∧ ∀ b, b ≠ a → peerAt b t.pvw.peers = peerAt b s.pvw.peers := by
  refine ⟨_, exec_peerEntryRemoved_of_entry run entry, ?_, fun inward outward => ?_, ?_, fun b other => ?_⟩
  · rw [announce_now, peerRemoved, viewJudged_now]
    rfl
  · rw [peerRemoved, viewJudged_elsewhere (s := withPeers _ (catchUp e.refreshed 4000 s)) inward outward,
      announce_of_same (show announced s = announced (withPeers _ (catchUp e.refreshed 4000 s)) from rfl)]
    exact withPeers_catchUp_sameBut _ _ _ s
  · rw [announce_peers, peerRemoved, viewJudged_peers]
    exact peerAt_dropPeer_same _ _
  · rw [announce_peers, peerRemoved, viewJudged_peers]
    exact peerAt_dropPeer_other other _

theorem exec_shipRecordStale_of_record {r : ShipRecord} (run : s.phase = .run) (record : s.pvw.ship = some r) :
    exec .shipRecordStale s = .next (shipAged (catchUp r.refreshed 2400 s)) := by
  have dispatched : exec .shipRecordStale s = execShipRecordStale s := rfl
  rw [dispatched, execShipRecordStale, running_run run,
    onExpiry_some (show s.pvw.ship.map (·.refreshed) = some r.refreshed by simp [record])]

theorem shipAged_sameBut (start length : Nat) (s : State) : sameBut [.clock, .pvw, .hoc] s (shipAged (catchUp start length s)) := by
  intro part other
  cases part with
  | clock => simp at other
  | pvw => simp at other
  | hoc => simp at other
  | _ => simp [Part.same, shipAged]

end

/-- Settles O31: each age's work, on the state at its moment. -/
theorem entriesAndShipRecordAge : Obligations.EntriesAndShipRecordAge := by
  intro s run
  refine ⟨fun a e entry => ⟨exec_peerEntryStale_ages run entry, exec_peerEntryRemoved_removes run entry⟩, fun r record => ?_⟩
  refine ⟨_, exec_shipRecordStale_of_record run record, shipAged_sameBut _ _ s, ?_, ?_, rfl, rfl, fun inward unset => ?_,
    fun other => ?_⟩
  · simp [shipFresh, shipAged, record]
  · simp [shipAged, record]
  · simp [shipAged, inward, unset]
  · simp [shipAged, other]

end Sys2Proof.Machine
end

/-! PROOFS. The handover (chapter 9): what aborts it, what a change of the view does to it, its timers, and the ship breaker. -/
section
namespace Sys2Proof.Machine

section
variable {s u : State}

theorem sameBut.widen {small large : List Part} (within : ∀ p ∈ small, p ∈ large) (same : sameBut small s u) :
    sameBut large s u := fun part other => same part fun inside => other (within part inside)

theorem Part.same_trans {part : Part} {t : State} (first : part.same s t) (second : part.same t u) : part.same s u := by
  cases part
  case straps =>
    obtain ⟨addr, rating, rate⟩ := first
    obtain ⟨addr', rating', rate'⟩ := second
    exact ⟨addr'.trans addr, rating'.trans rating, rate'.trans rate⟩
  all_goals exact Eq.trans second first

theorem sameBut.then {parts : List Part} {t : State} (first : sameBut parts s t) (second : sameBut parts t u) :
    sameBut parts s u := fun part other => Part.same_trans (first part other) (second part other)

/-! ### An abort of the handover in (R135, R137, R154) -/

/-- What HOC holds with aborted set and HANDOVER_ABORTED raised, before the EVENT (R135). -/
def aborting (s : State) : State := hold .handoverAborted { s with hoc := { s.hoc with aborted := true } }

theorem abortHandover_eq (cause peer : Byte) (s : State) :
    abortHandover cause peer s =
      enterHandoverOut { submitEvent 3 (cause :: peer :: satBytes 2 (secondsSince s.hoc.entered s)) (aborting s) with
        emt := (submitEvent 3 (cause :: peer :: satBytes 2 (secondsSince s.hoc.entered s)) (aborting s)).emt.map
          (Meter.addHandover (secondsSince s.hoc.entered s)) } := by
  rw [abortHandover, raise_alarm (c := .handoverAborted) rfl]
  rfl

theorem announce_held {c : Condition} (before : State) (held : c ∈ u.pru.held) : c ∈ (announce before u).pru.held := by
  rcases announce_pru_cases before u with same | more
  · rw [same]; exact held
  · rw [more]; exact Pru.hold_grows held _ _ _

theorem abortHandover_sameBut (cause peer : Byte) (inward : u.ssc.station = .handoverIn) :
    sameBut [.btr, .ssc, .syn, .hoc, .emt, .rwr, .pru] u (abortHandover cause peer u) := by
  rw [abortHandover_eq, enterHandoverOut_of_in (by simpa [aborting] using inward)]
  intro part other
  cases part with
  | btr => simp at other
  | ssc => simp at other
  | syn => simp at other
  | hoc => simp at other
  | emt => simp at other
  | rwr => simp at other
  | pru => simp at other
  | _ => simp [Part.same, aborting]

theorem field_cons (b : Byte) (bs : List Byte) (n : Nat) : field (b :: bs) 0 (n + 1) = b :: field bs 0 n := by
  simp [field, List.range_succ_eq_map, Function.comp_def]

/-- The handover in is aborted from a state that differs from `s` by the clock, LKC, the view and SYN. -/
theorem handoverAborted_announce (before : State) (cause : Nat) (peer : Byte) (near : sameBut [.clock, .lkc, .pvw, .syn] s u)
    (inward : u.ssc.station = .handoverIn) :
    HandoverAborted cause s (announce before (abortHandover (BitVec.ofNat 8 cause) peer u)) := by
  have ssc : u.ssc = s.ssc := near .ssc (by decide)
  have hoc : u.hoc = s.hoc := near .hoc (by decide)
  have msu : u.msu = s.msu := near .msu (by decide)
  have emt : u.emt = s.emt := near .emt (by decide)
  have rwr : u.rwr = s.rwr := near .rwr (by decide)
  rw [abortHandover_eq, enterHandoverOut_of_in (by simpa [aborting] using inward)]
  refine ⟨?ssc, ?aborted, ?held, ?target, ?term, ?timer, ?stale, ?ready, ?line, fun room => ⟨?meter, ?event⟩, ?rest⟩
  case ssc => simp [aborting, ssc]
  case aborted => simp [aborting, Hoc.enterOut]
  case held => exact announce_held before (by simp only [settled_pru, submitEvent_pru]; exact mem_held_hold .handoverAborted _)
  case target => simp [aborting, Hoc.enterOut, targetOf, msu]
  case term => simp [Hoc.enterOut]
  case timer => simp [aborting, Hoc.enterOut]
  case stale => simp [Hoc.enterOut]
  case ready => simp [Hoc.enterOut]
  case line => simp [aborting, Hoc.enterOut, hoc]
  case meter =>
    simp [aborting, submitEvent, submitRecord, rwr, room, emt, hoc, secondsSince]
    rfl
  case event =>
    refine ⟨field (peer :: satBytes 2 (secondsSince u.hoc.entered u)) 0 6, ?_⟩
    simp [aborting, submitEvent, submitRecord, rwr, room, eventRecord, field_cons]
  case rest =>
    have entered : sameBut [.btr, .ssc, .syn, .hoc, .emt, .rwr, .pru] u
        (abortHandover (BitVec.ofNat 8 cause) peer u) := abortHandover_sameBut _ _ inward
    rw [abortHandover_eq, enterHandoverOut_of_in (by simpa [aborting] using inward)] at entered
    exact ((near.widen (by decide)).then (entered.widen (by decide))).then ((announce_sameBut before _).widen (by decide))

end

/-! ### The view, judged (R135, R139) -/

section
variable {s u : State}

theorem showsAbort_iff (e : Peer) :
    showsAbort s e = true ↔ e.stale = false ∧ s.now ≤ e.refreshed + 480 ∧ e.session ≠ 0 ∧ sessionId s = some e.session ∧
      e.state = .handoverOut ∧ e.aborted = true := by
  simp only [showsAbort, Peer.fresh, Bool.and_eq_true, Bool.not_eq_true', decide_eq_true_eq, bne_iff_ne, beq_iff_eq, and_assoc,
    Nat.sub_le_iff_le_add, Nat.add_comm 480]

theorem peerShowsAbort_iff : PeerShowsAbort s ↔ ∃ e ∈ s.pvw.peers, showsAbort s e = true := by
  simp only [PeerShowsAbort, showsAbort_iff]

theorem peerShowsAbort_congr (peers : u.pvw.peers = s.pvw.peers) (now : u.now = s.now) (session : sessionId u = sessionId s) :
    PeerShowsAbort u ↔ PeerShowsAbort s := by
  simp only [PeerShowsAbort, peers, now, session]

theorem onBus_of_shipConnected {x : StationState} (connected : x.shipConnected = true) : x.onBus = true := by
  cases x <;> simp_all [StationState.shipConnected, StationState.onBus]

theorem shipConnected_iff (x : StationState) :
    x.shipConnected = true ↔ x ∈ [StationState.handoverIn, .supplying, .handoverOut] := by
  cases x <;> decide

/-- Every fresh ship-connected participant shows its ready-to-part (R139). -/
theorem peersReady_iff : peersReady s = true ↔ PeersShowReady s := by
  simp only [peersReady, peerParticipants, List.all_eq_true, List.mem_filter, PeersShowReady, isParticipant, Peer.fresh,
    Bool.and_eq_true, Bool.not_eq_true', decide_eq_true_eq, bne_iff_ne, beq_iff_eq, Bool.or_eq_true, ← shipConnected_iff]
  constructor
  · intro ready e member fresh young session own contactor connected
    have shown := ready e ⟨member, ⟨⟨⟨⟨fresh, by omega⟩, session⟩, own⟩, contactor⟩, onBus_of_shipConnected connected⟩
    exact shown.resolve_left (by simp [connected])
  · rintro ready e ⟨member, ⟨⟨⟨⟨fresh, young⟩, session⟩, own⟩, contactor⟩, -⟩
    cases connected : e.state.shipConnected with
    | false => exact .inl rfl
    | true => exact .inr (ready e member fresh (by omega) session own contactor connected)

theorem peersShowReady_congr (peers : u.pvw.peers = s.pvw.peers) (now : u.now = s.now) (session : sessionId u = sessionId s) :
    PeersShowReady u ↔ PeersShowReady s := by
  simp only [PeersShowReady, peers, now, session]

theorem judgeTrip_pulls (outward : s.ssc.station = .handoverOut) (ready : s.hoc.ready = true) (free : s.hoc.sbtLow = false)
    (shown : PeersShowReady s) :
    judgeTrip s = { s with hoc := { s.hoc with sbtLow := true, trip := some s.now, tripDone := false } } := by
  simp [judgeTrip, outward, ready, peersReady_iff.mpr shown, Hoc.pull, free]

theorem judgeTrip_stands (stands : s.hoc.ready = false ∨ s.hoc.sbtLow = true ∨ ¬ PeersShowReady s) : judgeTrip s = s := by
  rcases stands with unready | low | hidden
  · simp [judgeTrip, unready]
  · simp [judgeTrip, Hoc.pull, low]
  · have unready : peersReady s = false := by
      rw [← Bool.not_eq_true, peersReady_iff]
      exact hidden
    simp [judgeTrip, unready]

theorem judgeTrip_hoc_only (s : State) : ∃ h : Hoc, judgeTrip s = { s with hoc := h } ∧ h.ready = s.hoc.ready ∧
    h.returnArmed = s.hoc.returnArmed ∧ h.aborted = s.hoc.aborted := by
  refine ⟨_, rfl, ?_⟩
  unfold Hoc.pull
  split_ifs <;> exact ⟨rfl, rfl, rfl⟩

theorem viewNear (ps : List Peer) (s : State) : sameBut [.clock, .lkc, .pvw, .syn] s (withPeers ps (withRx .hunt s)) :=
  (withPeers_withRx_sameBut ps .hunt s).widen (by decide)

/-- A command that changes the view has HOC judge it, the rest near to what it was (R139). -/
theorem exec_changesView {c : Instr} {a : Addr} {now : Nat} (run : s.phase = .run)
    (handover : s.ssc.station = .handoverIn ∨ s.ssc.station = .handoverOut) (changes : ChangesView s c a now) :
    ∃ before u : State, exec c s = .next (announce before (viewJudged u)) ∧ u.now = now ∧
      sameBut [.clock, .lkc, .pvw, .syn] s u ∧ announced before = announced u := by
  have awake : s.ssc.station.listening = false := by rcases handover with at_ | at_ <;> rw [at_] <;> rfl
  have joining : s.ssc.station ≠ .joining := by rcases handover with at_ | at_ <;> rw [at_] <;> decide
  rcases changes with ⟨enabled, station, other, rfl, ⟨p, rfl, length, rating, status⟩ | ⟨p, rfl, length, held⟩⟩ |
    ⟨e, entry, ⟨rfl, fresh, rfl⟩ | ⟨rfl, rfl⟩⟩
  · rw [exec_statusReceived_of_peer run enabled awake station other, announcing]
    rcases status with ⟨st, broadcasting, code, differs⟩ | ⟨standby, held⟩
    · have changed : entryChanges (peerAt a s.pvw.peers) (statusEntry a st p s.now) = true := by
        cases entry : peerAt a s.pvw.peers with
        | none => rfl
        | some e =>
          rw [← Bool.not_eq_false]
          intro same
          obtain ⟨state, contactor, ready, aborted⟩ := entryChanges_some.mp same
          rcases differs e entry with d | d | d | d
          · exact d state
          · exact d contactor
          · exact d ready
          · exact d aborted
      have taken := statusTaken_broadcasting (s := withRx .hunt s) other length rating broadcasting code
      rw [show entryChanges (peerAt a (withRx .hunt s).pvw.peers) (statusEntry a st p (withRx .hunt s).now) = true from changed,
        judgedIf_true] at taken
      rw [taken]
      exact ⟨_, _, rfl, rfl, viewNear _ s, rfl⟩
    · have taken := statusTaken_standby (s := withRx .hunt s) other length rating standby
      rw [show (peerAt a (withRx .hunt s).pvw.peers).isSome = true from held, judgedIf_true] at taken
      rw [taken]
      exact ⟨_, _, rfl, rfl, viewNear _ s, rfl⟩
  · have taken := tripNoticeTaken_eq (s := withRx .hunt s) other length
    obtain ⟨ps, filed⟩ := noticed_eq a (withRx .hunt s)
    obtain ⟨y, expired, same⟩ := expireClaimOf_elsewhere (s := withPeers ps (withRx .hunt s)) a joining
    rw [show (peerAt a (withRx .hunt s).pvw.peers).isSome = true from held, judgedIf_true, filed, expired] at taken
    rw [exec_tripNoticeReceived_of_peer run enabled awake station other, announcing, taken]
    refine ⟨_, _, rfl, rfl, fun part other => ?_, same.symm⟩
    have near := viewNear ps s part other
    cases part with
    | syn => simp at other
    | _ => exact near
  · have aged : ((peerAt a s.pvw.peers).any fun e => !e.stale) = true := by simp [entry, fresh]
    rw [exec_peerEntryStale_of_entry run entry, peerStale,
      show ((peerAt a (catchUp e.refreshed 480 s).pvw.peers).any fun e => !e.stale) = true from aged, judgedIf_true]
    exact ⟨_, _, rfl, rfl, (withPeers_catchUp_sameBut _ _ _ s).widen (by decide), rfl⟩
  · rw [exec_peerEntryRemoved_of_entry run entry, peerRemoved]
    exact ⟨_, _, rfl, rfl, (withPeers_catchUp_sameBut _ _ _ s).widen (by decide), rfl⟩

theorem viewJudged_of_abort (run : u.phase = .run) (inward : u.ssc.station = .handoverIn) (shown : PeerShowsAbort u) :
    ∃ peer : Byte, viewJudged u = abortHandover (BitVec.ofNat 8 3) peer u := by
  obtain ⟨e, member, shows⟩ := peerShowsAbort_iff.mp shown
  rw [viewJudged, if_pos ⟨run, inward⟩]
  cases found : u.pvw.peers.find? (showsAbort u) with
  | none => exact absurd shows (List.find?_eq_none.mp found e member)
  | some e => exact ⟨e.addr.setWidth 8, rfl⟩

theorem viewJudged_of_none (run : u.phase = .run) (inward : u.ssc.station = .handoverIn) (hidden : ¬ PeerShowsAbort u) :
    viewJudged u = u := by
  rw [viewJudged, if_pos ⟨run, inward⟩]
  cases found : u.pvw.peers.find? (showsAbort u) with
  | none => rfl
  | some e => exact absurd (peerShowsAbort_iff.mpr ⟨e, List.mem_of_find?_eq_some found, List.find?_some found⟩) hidden

theorem enterHandoverOut_session (s : State) : (enterHandoverOut s).ssc.session = s.ssc.session := by
  unfold enterHandoverOut
  split
  · rw [submitEvent_ssc, settled_ssc]; rfl
  · rw [settled_ssc]; rfl

theorem viewJudged_session (s : State) : sessionId (viewJudged s) = sessionId s := by
  have kept : (viewJudged s).ssc.session = s.ssc.session := by
    unfold viewJudged
    split
    · split
      · rw [abortHandover_eq, enterHandoverOut_session, submitEvent_ssc]; rfl
      · rfl
    · rfl
  rw [sessionId, sessionId, kept]

/-- HANDOVER_IN: the judged view aborts exactly where it shows an abort (R135). -/
theorem announce_viewJudged_inward {before : State} (run : u.phase = .run) (inward : u.ssc.station = .handoverIn)
    (near : sameBut [.clock, .lkc, .pvw, .syn] s u) (same : announced before = announced u) :
    (PeerShowsAbort u → HandoverAborted 3 s (announce before (viewJudged u))) ∧
      (¬ PeerShowsAbort u → announce before (viewJudged u) = u) := by
  refine ⟨fun shown => ?_, fun hidden => ?_⟩
  · obtain ⟨peer, aborts⟩ := viewJudged_of_abort run inward shown
    rw [aborts]
    exact handoverAborted_announce before 3 peer near inward
  · rw [viewJudged_of_none run inward hidden, announce_of_same same]

theorem announced_judgeTrip (s : State) : announced (judgeTrip s) = announced s := by
  obtain ⟨h, judged, ready, armed, aborted⟩ := judgeTrip_hoc_only s
  rw [judged]
  simp only [announced, ready, armed, aborted]

theorem announce_viewJudged_outward {before : State} (outward : u.ssc.station = .handoverOut)
    (same : announced before = announced u) : announce before (viewJudged u) = judgeTrip u := by
  rw [viewJudged, if_neg (by simp [outward]), announce_of_same (same.trans (announced_judgeTrip u).symm)]

end

section
variable {s : State} {start : Nat}

/-! ### The timers (R133, R135, R138, R140, R141) -/

theorem exec_staleTimerExpiry_of_in (run : s.phase = .run) (inward : s.ssc.station = .handoverIn) (timer : s.hoc.stale = some start) :
    exec .staleTimerExpiry s = .next (announce s (abortHandover 2 0 (catchUp start 16000 s))) := by
  have dispatched : exec .staleTimerExpiry s = execStaleTimerExpiry s := rfl
  rw [dispatched, execStaleTimerExpiry, running_run run, announcing, if_pos inward, onExpiry_some timer]

theorem exec_handoverTimerExpiryIn_of_in (run : s.phase = .run) (inward : s.ssc.station = .handoverIn)
    (timer : s.hoc.timer = some start) :
    exec .handoverTimerExpiryIn s = .next (announce s (abortHandover 1 0 (catchUp start (sec s.params.handoverLimit) s))) := by
  have dispatched : exec .handoverTimerExpiryIn s = execHandoverTimerExpiryIn s := rfl
  rw [dispatched, execHandoverTimerExpiryIn, running_run run, announcing, if_pos inward, onExpiry_some timer]

theorem exec_partTimerExpiry_of_out (run : s.phase = .run) (outward : s.ssc.station = .handoverOut) (timer : s.hoc.part = some start) :
    exec .partTimerExpiry s = .next (announce s (partReached (catchUp start 8000 s))) := by
  have dispatched : exec .partTimerExpiry s = execPartTimerExpiry s := rfl
  rw [dispatched, execPartTimerExpiry, running_run run, announcing, if_pos outward, onExpiry_some timer]

theorem exec_tripTimerExpiry_of_out (run : s.phase = .run) (outward : s.ssc.station = .handoverOut) (timer : s.hoc.trip = some start) :
    exec .tripTimerExpiry s = .next (tripReached (catchUp start 4000 s)) := by
  have dispatched : exec .tripTimerExpiry s = execTripTimerExpiry s := rfl
  rw [dispatched, execTripTimerExpiry, running_run run, if_pos outward, onExpiry_some timer]

theorem exec_handoverTimerExpiryOut_of_out (run : s.phase = .run) (outward : s.ssc.station = .handoverOut)
    (timer : s.hoc.timer = some start) :
    exec .handoverTimerExpiryOut s = .next (announce s (handoverOutExpired (catchUp start (sec s.params.handoverLimit) s))) := by
  have dispatched : exec .handoverTimerExpiryOut s = execHandoverTimerExpiryOut s := rfl
  rw [dispatched, execHandoverTimerExpiryOut, running_run run, announcing, if_pos outward, onExpiry_some timer]

theorem catchUp_near (start length : Nat) (s : State) : sameBut [.clock] s (catchUp start length s) := by
  intro part other
  cases part with
  | clock => simp at other
  | _ => simp [Part.same]

theorem abortHandover_now (cause peer : Byte) (s : State) : (abortHandover cause peer s).now = s.now := by
  simp [abortHandover, enterHandoverOut_now, raise_now]

theorem abort_after_timer {cause length : Nat} (inward : s.ssc.station = .handoverIn) :
    (announce s (abortHandover (BitVec.ofNat 8 cause) 0 (catchUp start length s))).now = max s.now (start + length) ∧
      HandoverAborted cause s (announce s (abortHandover (BitVec.ofNat 8 cause) 0 (catchUp start length s))) :=
  ⟨by rw [announce_now, abortHandover_now]; rfl,
    handoverAborted_announce s cause 0 ((catchUp_near start length s).widen (by decide)) inward⟩

theorem exec_partTimerExpiry_sets (run : s.phase = .run) (outward : s.ssc.station = .handoverOut) (timer : s.hoc.part = some start)
    (unready : s.hoc.ready = false) :
    ∃ t u : State, exec .partTimerExpiry s = .next t ∧ u = { s with now := max s.now (start + 8000) } ∧
      t.now = u.now ∧ sameBut [.clock, .lkc, .pvw, .hoc, .pru] s t ∧
      (s.hoc.sbtLow = false → PeersShowReady u → t.hoc =
        { s.hoc with ready := true, part := none, sbtLow := true, trip := some u.now, tripDone := false }) ∧
      (s.hoc.sbtLow = true ∨ ¬ PeersShowReady u → t.hoc = { s.hoc with ready := true, part := none }) := by
  have reached := partReached_clear (s := catchUp start 8000 s) unready
  refine ⟨_, catchUp start 8000 s, exec_partTimerExpiry_of_out run outward timer, rfl, ?_, ?_, fun free shown => ?_,
    fun stands => ?_⟩
  · rw [announce_now, reached, judgeTrip_now]
  · obtain ⟨h, judged, -⟩ :=
      judgeTrip_hoc_only { catchUp start 8000 s with hoc := { (catchUp start 8000 s).hoc with ready := true, part := none } }
    rw [reached, judged]
    refine sameBut.then (u := announce s _) (t := { catchUp start 8000 s with hoc := h }) (fun part other => ?_)
      ((announce_sameBut s { catchUp start 8000 s with hoc := h }).widen (by decide))
    cases part with
    | clock => simp at other
    | hoc => simp at other
    | _ => simp [Part.same]
  · rw [announce_hoc, reached, judgeTrip_pulls]
    · rfl
    · exact outward
    · rfl
    · exact free
    · exact shown
  · rw [announce_hoc, reached, judgeTrip_stands]
    · rfl
    · exact .inr (stands.imp id id)

theorem exec_handoverTimerExpiryOut_pulls (run : s.phase = .run) (outward : s.ssc.station = .handoverOut)
    (timer : s.hoc.timer = some start) :
    ∃ t, exec .handoverTimerExpiryOut s = .next t ∧ sameBut [.clock, .emt, .hoc, .rwr, .pru] s t ∧
      .handoverAborted ∈ t.pru.held ∧ t.now = max s.now (start + sec s.params.handoverLimit) ∧
      t.hoc = (if s.hoc.sbtLow then { s.hoc with timer := none }
        else { s.hoc with timer := none, sbtLow := true, trip := some t.now, tripDone := false }) := by
  have expired (u : State) : handoverOutExpired u =
      { submitEvent 3 (4 :: 0 :: satBytes 2 (secondsSince u.hoc.entered u)) (hold .handoverAborted u) with
        hoc := Hoc.pull u.now { u.hoc with timer := none } } := by
    rw [handoverOutExpired, raise_alarm (c := .handoverAborted) rfl]
    simp
  have pulled (h : Hoc) (now : Nat) : (h.pull now).ready = h.ready ∧ (h.pull now).returnArmed = h.returnArmed ∧
      (h.pull now).aborted = h.aborted := by
    unfold Hoc.pull
    split_ifs <;> exact ⟨rfl, rfl, rfl⟩
  have silent : announced s = announced (handoverOutExpired (catchUp start (sec s.params.handoverLimit) s)) := by
    obtain ⟨ready, armed, aborted⟩ := pulled { s.hoc with timer := none } (catchUp start (sec s.params.handoverLimit) s).now
    rw [expired]
    simp [announced, ready, armed, aborted]
  refine ⟨_, exec_handoverTimerExpiryOut_of_out run outward timer, ?_⟩
  rw [announce_of_same silent, expired]
  refine ⟨fun part other => ?_, ?_, ?_, ?_⟩
  · cases part with
    | clock => simp at other
    | emt => simp at other
    | hoc => simp at other
    | rwr => simp at other
    | pru => simp at other
    | _ => simp [Part.same]
  · simpa using mem_held_hold .handoverAborted (catchUp start (sec s.params.handoverLimit) s)
  · simp [catchUp]
  · cases low : s.hoc.sbtLow <;> simp [Hoc.pull, low]

end

/-! ### The four parts of the statement -/

theorem handoverIn_aborts {s : State} {c : Instr} {length cause : Nat} (run : s.phase = .run)
    (inward : s.ssc.station = .handoverIn)
    (row : (∃ start, c = .staleTimerExpiry ∧ s.hoc.stale = some start ∧ length = start + 16000 ∧ cause = 2) ∨
       (∃ start, c = .handoverTimerExpiryIn ∧ s.hoc.timer = some start ∧
         length = start + sec s.params.handoverLimit ∧ cause = 1) ∨
       (∃ (sender : Addr) (p : List Byte) (id : SessionId), c = .statusReceived sender p ∧ s.lkc.enabled = true ∧
         isStation sender = true ∧ sender ≠ s.addr ∧ p.length = 16 ∧ (p.getD 6 0).toNat ≤ 3 ∧ (p.getD 0 0).toNat = 10 ∧
         (∀ e, peerAt sender s.pvw.peers = some e →
           e.state ≠ .handoverOut ∨ e.contactor ≠ (p.getD 1 0).getLsbD 0 ∨ e.ready ≠ (p.getD 1 0).getLsbD 2 ∨
             e.aborted = false) ∧
         (p.getD 1 0).getLsbD 4 = true ∧ sessionId s = some id ∧ id ≠ 0 ∧ BitVec.ofNat 32 (fieldNat p 2 4) = id ∧
         length = s.now ∧ cause = 3)) :
    ∃ t, exec c s = .next t ∧ t.now = max s.now length ∧ HandoverAborted cause s t := by
  rcases row with ⟨start, rfl, timer, rfl, rfl⟩ | ⟨start, rfl, timer, rfl, rfl⟩ |
    ⟨sender, p, key, rfl, enabled, station, other, size, rating, code, differs, aborts, own, nonzero, session, rfl, rfl⟩
  · exact ⟨_, exec_staleTimerExpiry_of_in run inward timer, abort_after_timer (cause := 2) inward⟩
  · exact ⟨_, exec_handoverTimerExpiryIn_of_in run inward timer, abort_after_timer (cause := 1) inward⟩
  · have changes : ChangesView s (.statusReceived sender p) sender s.now :=
      .inl ⟨enabled, station, other, rfl, .inl ⟨p, rfl, size, rating, .inl ⟨.handoverOut, rfl, code, fun e entry =>
        (differs e entry).imp id (.imp id (.imp id fun unset same => by rw [unset, aborts] at same; cases same))⟩⟩⟩
    obtain ⟨before, u, taken, now, near, same⟩ := exec_changesView run (.inl inward) changes
    obtain ⟨t, taken', -, -, -, entry, -⟩ := peerBroadcastsSetTheirEntry_status run enabled
      (by rw [inward]; rfl) station other size rating
    obtain rfl : t = announce before (viewJudged u) := Host.Outcome.next.inj (taken'.symm.trans taken)
    have stands := entry .handoverOut rfl code
    rw [announce_peers, viewJudged_peers] at stands
    have shown : PeerShowsAbort u := by
      refine ⟨_, (peerAt_some stands).1, rfl, ?_, ?_, ?_, rfl, aborts⟩
      · rw [now]; exact Nat.le_add_right _ _
      · exact ne_of_eq_of_ne session nonzero
      · have held : u.ssc = s.ssc := near .ssc (by decide)
        rw [sessionId, held, ← sessionId, own, ← session]
        rfl
    have inward' : u.ssc.station = .handoverIn := by rw [show u.ssc = s.ssc from near .ssc (by decide)]; exact inward
    have run' : u.phase = .run := (show u.phase = s.phase from near .phase (by decide)).trans run
    refine ⟨_, taken, ?_, (announce_viewJudged_inward run' inward' near same).1 shown⟩
    rw [announce_now, viewJudged_now, now, Nat.max_self]

theorem handover_judges {s : State} {c : Instr} {a : Addr} {now : Nat} (run : s.phase = .run) (changes : ChangesView s c a now) :
    (s.ssc.station = .handoverIn →
       ∃ t, exec c s = .next t ∧ t.now = now ∧ (PeerShowsAbort t → HandoverAborted 3 s t) ∧
         (¬ PeerShowsAbort t → t.hoc = s.hoc ∧ sameBut [.clock, .lkc, .pvw, .syn] s t)) ∧
     (s.ssc.station = .handoverOut →
       ∃ t, exec c s = .next t ∧ t.now = now ∧ sameBut [.clock, .lkc, .pvw, .syn, .hoc] s t ∧
         (s.hoc.ready = true → s.hoc.sbtLow = false → PeersShowReady t →
           t.hoc = { s.hoc with sbtLow := true, trip := some now, tripDone := false }) ∧
         (s.hoc.ready = false ∨ s.hoc.sbtLow = true ∨ ¬ PeersShowReady t → t.hoc = s.hoc)) := by
  refine ⟨fun inward => ?_, fun outward => ?_⟩
  · obtain ⟨before, u, taken, moment, near, same⟩ := exec_changesView run (.inl inward) changes
    have inward' : u.ssc.station = .handoverIn := by rw [show u.ssc = s.ssc from near .ssc (by decide)]; exact inward
    have run' : u.phase = .run := (show u.phase = s.phase from near .phase (by decide)).trans run
    obtain ⟨aborts, stands⟩ := announce_viewJudged_inward run' inward' near same
    have shows : PeerShowsAbort (announce before (viewJudged u)) ↔ PeerShowsAbort u :=
      peerShowsAbort_congr (by rw [announce_peers, viewJudged_peers]) (by rw [announce_now, viewJudged_now])
        (by rw [sessionId, announce_ssc, ← sessionId, viewJudged_session])
    refine ⟨_, taken, by rw [announce_now, viewJudged_now, moment], fun shown => aborts (shows.mp shown), fun hidden => ?_⟩
    rw [stands (fun shown => hidden (shows.mpr shown))]
    exact ⟨near .hoc (by decide), near⟩
  · obtain ⟨before, u, taken, moment, near, same⟩ := exec_changesView run (.inr outward) changes
    have outward' : u.ssc.station = .handoverOut := by rw [show u.ssc = s.ssc from near .ssc (by decide)]; exact outward
    have hoc : u.hoc = s.hoc := near .hoc (by decide)
    rw [announce_viewJudged_outward outward' same] at taken
    obtain ⟨h, judged, -⟩ := judgeTrip_hoc_only u
    have shows : PeersShowReady (judgeTrip u) ↔ PeersShowReady u := by
      rw [judged]
      exact peersShowReady_congr rfl rfl rfl
    refine ⟨_, taken, by rw [judgeTrip_now, moment], fun part other => ?_, fun ready free shown => ?_, fun stands => ?_⟩
    · rw [judged]
      have kept := near.widen (large := [.clock, .lkc, .pvw, .syn, .hoc]) (by decide) part other
      cases part with
      | hoc => simp at other
      | _ => exact kept
    · rw [judgeTrip_pulls outward' (hoc ▸ ready) (hoc ▸ free) (shows.mp shown), ← hoc, ← moment]
    · rw [judgeTrip_stands (hoc ▸ stands.imp id (.imp id fun hidden shown => hidden (shows.mpr shown))), hoc]

/-- A STATUS that changes neither state nor flags touches the view alone (log 30). -/
theorem status_unchanged {s : State} {sender : Addr} {p : List Byte} {e : Peer} (run : s.phase = .run)
    (enabled : s.lkc.enabled = true) (awake : s.ssc.station.listening = false) (station : isStation sender = true)
    (other : sender ≠ s.addr) (entry : peerAt sender s.pvw.peers = some e) (length : p.length = 16)
    (code : (p.getD 0 0).toNat = e.state.code) (broadcasting : e.state.broadcasting = true)
    (contactor : e.contactor = (p.getD 1 0).getLsbD 0) (ready : e.ready = (p.getD 1 0).getLsbD 2)
    (aborted : e.aborted = (p.getD 1 0).getLsbD 4) :
    ∃ t, exec (.statusReceived sender p) s = .next t ∧ sameBut [.lkc, .pvw] s t := by
  refine ⟨_, exec_statusReceived_of_peer run enabled awake station other, ?_⟩
  rcases Nat.lt_or_ge 3 (p.getD 6 0).toNat with high | rating
  · have ignored : statusTaken sender p (withRx .hunt s) = withRx .hunt s := if_pos (.inr (.inr high))
    rw [announcing, ignored, announce_self]
    exact withPeers_withRx_sameBut s.pvw.peers .hunt s
  · have same : entryChanges (some e) (statusEntry sender e.state p s.now) = false :=
      entryChanges_some.mpr ⟨rfl, contactor, ready, aborted⟩
    have taken := statusTaken_broadcasting (s := withRx .hunt s) other length rating broadcasting code
    rw [show peerAt sender (withRx .hunt s).pvw.peers = some e from entry,
      show entryChanges (some e) (statusEntry sender e.state p (withRx .hunt s).now) = false from same, judgedIf_false] at taken
    rw [announcing, taken, announce_of_same (withPeers_announced _ _).symm]
    exact withPeers_withRx_sameBut _ .hunt s

theorem tripReached_of_closed {s : State} (closed : s.sbAux = true) :
    tripReached s = hold .shipBreakerFail { s with hoc := { s.hoc with trip := none, tripDone := true } } := by
  rw [tripReached, raiseIf, if_pos closed, raise_alarm (c := .shipBreakerFail) rfl]

theorem tripReached_of_open {s : State} (opened : s.sbAux = false) :
    tripReached s = { s with hoc := { s.hoc with trip := none, tripDone := true } } := by
  rw [tripReached, raiseIf, if_neg (by simp [opened])]

theorem handoverOut_timers {s : State} {start : Nat} (run : s.phase = .run) (outward : s.ssc.station = .handoverOut) :
    (s.hoc.part = some start → s.hoc.ready = true →
       exec .partTimerExpiry s =
         .next { s with now := max s.now (start + 8000), hoc := { s.hoc with part := none } }) ∧
     (s.hoc.trip = some start →
       ∃ t, exec .tripTimerExpiry s = .next t ∧ sameBut [.clock, .hoc, .pru] s t ∧
         t.hoc = { s.hoc with trip := none, tripDone := true } ∧
         (s.sbAux = true → .shipBreakerFail ∈ t.pru.held) ∧ (s.sbAux = false → t.pru = s.pru)) := by
  refine ⟨fun timer ready => ?_, fun timer => ⟨_, exec_tripTimerExpiry_of_out run outward timer, ?_⟩⟩
  · rw [exec_partTimerExpiry_of_out run outward timer, partReached_ready (s := catchUp start 8000 s) ready,
      announce_of_same]
    · rfl
    · rfl
  · rcases Bool.eq_false_or_eq_true s.sbAux with closed | closed
    · rw [tripReached_of_closed (s := catchUp start 4000 s) closed]
      refine ⟨fun part other => ?_, rfl, fun _ => mem_held_hold _ _, fun is => absurd (closed.symm.trans is) (by simp)⟩
      cases part with
      | clock => simp at other
      | hoc => simp at other
      | pru => simp at other
      | _ => simp [Part.same]
    · rw [tripReached_of_open (s := catchUp start 4000 s) closed]
      refine ⟨fun part other => ?_, rfl, fun is => absurd (closed.symm.trans is) (by simp), fun _ => rfl⟩
      cases part with
      | clock => simp at other
      | hoc => simp at other
      | _ => simp [Part.same]

/-- Settles O52: the causes of an abort, HOC's judgement at each change of the view, and the timers of HANDOVER_OUT. -/
theorem handoverTimersAbortAndPart : Obligations.HandoverTimersAbortAndPart := by
  refine ⟨fun s c length cause run inward row => handoverIn_aborts run inward row,
    fun s c a now run changes => handover_judges run changes,
    fun s sender p e run enabled station other entry handover => ?unchanged, fun s start run outward => ?timers⟩
  case unchanged =>
    have awake : s.ssc.station.listening = false := by rcases handover with at_ | at_ <;> rw [at_] <;> rfl
    refine ⟨fun length code broadcasting contactor ready aborted =>
      status_unchanged run enabled awake station other entry length code broadcasting contactor ready aborted, fun length => ?_⟩
    obtain ⟨t, taken, kept, -⟩ := peerBroadcastsSetTheirEntry_contStatus run enabled awake station other length
    exact ⟨t, taken, kept⟩
  case timers =>
    obtain ⟨part, trip⟩ := handoverOut_timers (start := start) run outward
    exact ⟨exec_partTimerExpiry_sets run outward, part, trip, exec_handoverTimerExpiryOut_pulls run outward⟩

end Sys2Proof.Machine
end

/-! PROOFS. The ship breaker (R93, R94, R125, R126, R142): what its changes make of the station. -/
section
namespace Sys2Proof.Machine

section
variable {s : State}

/-! ### The breaker closes -/

/-- The state with SB_AUX closed and the own permit drive judged (R125). -/
def breakerJudged (s : State) : State := raiseIf (!s.syn.permit) .shipBreakerFail { s with sbAux := true }

theorem breakerJudged_low (low : s.syn.permit = false) : breakerJudged s = hold .shipBreakerFail { s with sbAux := true } := by
  rw [breakerJudged, raiseIf, if_pos (by simp [low]), raise_alarm (c := .shipBreakerFail) rfl]

theorem breakerJudged_released (released : s.syn.permit = true) : breakerJudged s = { s with sbAux := true } := by
  rw [breakerJudged, raiseIf, if_neg (by simp [released])]

/-- The judgement moves SB_AUX and the held set alone. -/
theorem breakerJudged_eq (s : State) : ∃ p : Pru, breakerJudged s = { s with sbAux := true, pru := p } := by
  cases permit : s.syn.permit with
  | false => exact ⟨_, breakerJudged_low permit⟩
  | true => exact ⟨s.pru, breakerJudged_released permit⟩

theorem exec_sbAuxClose_of_open (run : s.phase = .run) (opened : s.sbAux = false) :
    exec .sbAuxClose s = .next (announce s (breakerCloses s)) := by
  have dispatched : exec .sbAuxClose s = execSbAuxClose s := rfl
  rw [dispatched, execSbAuxClose, taken_up (by rw [run]; decide), announcing, if_neg (by simp [opened])]

theorem breakerCloses_eq (s : State) :
    breakerCloses s =
      if (breakerJudged s).phase = .run ∧ ((breakerJudged s).ssc.station = .online ∨ (breakerJudged s).ssc.station = .shipSync)
      then enterHandoverIn (breakerJudged s) else breakerJudged s := rfl

theorem breakerCloses_of_bus (run : s.phase = .run) (bus : s.ssc.station = .online ∨ s.ssc.station = .shipSync) :
    breakerCloses s = enterHandoverIn (breakerJudged s) := by
  obtain ⟨p, judged⟩ := breakerJudged_eq s
  rw [breakerCloses_eq, if_pos]
  rw [judged]
  exact ⟨run, bus⟩

theorem breakerCloses_elsewhere (online : s.ssc.station ≠ .online) (shipSync : s.ssc.station ≠ .shipSync) :
    breakerCloses s = breakerJudged s := by
  obtain ⟨p, judged⟩ := breakerJudged_eq s
  rw [breakerCloses_eq, if_neg]
  rw [judged]
  exact fun met => met.2.elim online shipSync

/-- From the bus into HANDOVER_IN (R93, R129). -/
theorem enterHandoverIn_of_bus (bus : s.ssc.station = .online ∨ s.ssc.station = .shipSync) :
    (enterHandoverIn s).ssc = { s.ssc with station := .handoverIn } ∧
      (enterHandoverIn s).hoc = s.hoc.enterIn s.msu.p (shipFresh s) s.now ∧
      (enterHandoverIn s).syn.cmdClosed = s.syn.cmdClosed ∧ (enterHandoverIn s).pru = s.pru ∧
      (s.ssc.station = .shipSync → (enterHandoverIn s).syn.fSync = 0 ∧ (enterHandoverIn s).syn.ready = false) := by
  rcases bus with at_ | at_ <;>
    simp [enterHandoverIn, moveTo, at_, Hoc.moved, Syn.moved, Syn.leaveShipSync, StationState.shipConnected, settled, setPermit,
      judgeBand]

theorem enterHandoverIn_sameBut (s : State) :
    sameBut [.btr, .lkc, .pvw, .shc, .ssc, .syn, .hoc, .emt, .rwr] s (enterHandoverIn s) := by
  intro part other
  cases part with
  | btr => simp at other
  | lkc => simp at other
  | pvw => simp at other
  | shc => simp at other
  | ssc => simp at other
  | syn => simp at other
  | hoc => simp at other
  | emt => simp at other
  | rwr => simp at other
  | _ => simp [Part.same, enterHandoverIn]

theorem breakerJudged_sameBut (s : State) : sameBut [.sbAux, .pru] s (breakerJudged s) := by
  obtain ⟨p, judged⟩ := breakerJudged_eq s
  rw [judged]
  intro part other
  cases part with
  | sbAux => simp at other
  | pru => simp at other
  | _ => simp [Part.same]

/-- PRU after the closure is that of the judgement alone. -/
theorem breakerCloses_pru (run : s.phase = .run) : (breakerCloses s).pru = (breakerJudged s).pru := by
  by_cases bus : s.ssc.station = .online ∨ s.ssc.station = .shipSync
  · rw [breakerCloses_of_bus run bus]
    have bus' : (breakerJudged s).ssc.station = .online ∨ (breakerJudged s).ssc.station = .shipSync := by
      rw [show (breakerJudged s).ssc = s.ssc from breakerJudged_sameBut s .ssc (by decide)]; exact bus
    obtain ⟨-, -, -, pru, -⟩ := enterHandoverIn_of_bus bus'
    exact pru
  · rw [breakerCloses_elsewhere (bus ∘ .inl) (bus ∘ .inr)]

theorem announce_held_iff {c : Condition} {before after : State} (other : c ≠ .linkOverrun) :
    c ∈ (announce before after).pru.held ↔ c ∈ after.pru.held := by
  rcases announce_pru_cases before after with same | more
  · rw [same]
  · rw [more, held_hold]
    simp [other]

theorem exec_sbAuxClose_moves (run : s.phase = .run) (opened : s.sbAux = false) :
    ∃ t, exec .sbAuxClose s = .next t ∧ t.sbAux = true ∧
      (s.syn.permit = false → .shipBreakerFail ∈ t.pru.held) ∧
      (s.syn.permit = true → (.shipBreakerFail ∈ t.pru.held ↔ .shipBreakerFail ∈ s.pru.held)) ∧
      (s.ssc.station = .online ∨ s.ssc.station = .shipSync →
        t.ssc.station = .handoverIn ∧ t.ssc.session = s.ssc.session ∧
          t.hoc.pTarget = some (clamp 0 1000 s.msu.p * 1000) ∧ t.hoc.fHo = 0 ∧ t.hoc.timer = some s.now ∧
          t.hoc.tick = some s.now ∧ t.hoc.stale = (if shipFresh s then none else some s.now) ∧
          t.syn.cmdClosed = s.syn.cmdClosed ∧ (s.ssc.station = .shipSync → t.syn.fSync = 0 ∧ t.syn.ready = false)) ∧
      (s.ssc.station ≠ .online → s.ssc.station ≠ .shipSync → t.ssc = s.ssc ∧ sameBut [.sbAux, .lkc, .pvw, .pru] s t) ∧
      sameBut [.sbAux, .btr, .lkc, .pvw, .shc, .ssc, .syn, .hoc, .emt, .rwr, .pru] s t := by
  obtain ⟨p, judged⟩ := breakerJudged_eq s
  have judgedKept := breakerJudged_sameBut s
  have closed : (breakerCloses s).sbAux = true ∧ sameBut [.sbAux, .btr, .lkc, .pvw, .shc, .ssc, .syn, .hoc, .emt, .rwr, .pru] s
      (breakerCloses s) := by
    by_cases bus : s.ssc.station = .online ∨ s.ssc.station = .shipSync
    · rw [breakerCloses_of_bus run bus]
      exact ⟨by rw [show (enterHandoverIn (breakerJudged s)).sbAux = (breakerJudged s).sbAux from
          enterHandoverIn_sameBut _ .sbAux (by decide), judged],
        (judgedKept.widen (by decide)).then ((enterHandoverIn_sameBut _).widen (by decide))⟩
    · rw [breakerCloses_elsewhere (bus ∘ .inl) (bus ∘ .inr)]
      exact ⟨by rw [judged], judgedKept.widen (by decide)⟩
  refine ⟨_, exec_sbAuxClose_of_open run opened, closed.1, fun low => ?_, fun released => ?_, fun bus => ?_,
    fun online shipSync => ?_, closed.2.then ((announce_sameBut s _).widen (by decide))⟩
  · rw [announce_held_iff (by decide), breakerCloses_pru run, breakerJudged_low low]
    exact mem_held_hold _ _
  · rw [announce_held_iff (by decide), breakerCloses_pru run, breakerJudged_released released]
  · rw [announce_ssc, announce_hoc, announce_syn, breakerCloses_of_bus run bus]
    have bus' : (breakerJudged s).ssc.station = .online ∨ (breakerJudged s).ssc.station = .shipSync := by rw [judged]; exact bus
    obtain ⟨ssc, hoc, contactor, -, left⟩ := enterHandoverIn_of_bus bus'
    rw [ssc, hoc, contactor]
    rw [judged] at left ⊢
    exact ⟨rfl, rfl, rfl, rfl, rfl, rfl, rfl, rfl, left⟩
  · rw [breakerCloses_elsewhere online shipSync]
    exact ⟨by rw [announce_ssc, judged], (judgedKept.widen (by decide)).then ((announce_sameBut s _).widen (by decide))⟩

/-! ### The breaker opens -/

/-- The EVENT of an opening in a ship-connected state: parted, or ship lost (R94, R142). -/
def openingEvent (s : State) : LogRecord :=
  if s.ssc.station = .handoverOut ∧ s.hoc.ready = true then
    eventRecord 4 (satBytes 2 (secondsSince s.hoc.entered s) ++ sBytes s.msu.p)
  else eventRecord 5 (BitVec.ofNat 8 s.ssc.station.code :: sBytes s.msu.p)

theorem exec_sbAuxOpen_of_closed (run : s.phase = .run) (closed : s.sbAux = true) :
    exec .sbAuxOpen s = .next (announce s (breakerOpens s)) := by
  have dispatched : exec .sbAuxOpen s = execSbAuxOpen s := rfl
  rw [dispatched, execSbAuxOpen, taken_up (by rw [run]; decide), announcing, if_pos closed]

theorem breakerOpens_of_connected (run : s.phase = .run) (connected : s.ssc.station.shipConnected = true) :
    breakerOpens s = settled (moveTo .online (submitRecord (openingEvent s) (sessionId s) { s with sbAux := false })) := by
  have joining : s.ssc.station ≠ .joining := by
    intro at_
    rw [at_] at connected
    cases connected
  have recorded : (if s.ssc.station = .handoverOut ∧ s.hoc.ready = true then recordParted { s with sbAux := false }
      else recordShipLost { s with sbAux := false }) =
        submitRecord (openingEvent s) (sessionId s) { s with sbAux := false } := by
    unfold openingEvent
    split_ifs <;> rfl
  rw [breakerOpens, if_pos ⟨run, connected⟩, recorded, enterOnline, if_neg]
  exact fun met => joining met.1

theorem breakerOpens_elsewhere (away : s.ssc.station.shipConnected = false) : breakerOpens s = { s with sbAux := false } := by
  rw [breakerOpens, if_neg (by simp [away])]

theorem moveOnline_of_connected (connected : s.ssc.station.shipConnected = true) :
    (settled (moveTo .online s)).ssc = { s.ssc with station := .online } ∧ (settled (moveTo .online s)).hoc = .initial ∧
      (settled (moveTo .online s)).shc.fRest = 0 ∧ (settled (moveTo .online s)).shc.fShare = s.shc.fShare ∧
      (settled (moveTo .online s)).syn.cmdClosed = s.syn.cmdClosed := by
  have online : StationState.online.shipConnected = false := rfl
  refine ⟨?_, ?_, ?_, ?_, ?_⟩
  · simp [moveTo]
  · simp [moveTo, Hoc.moved, connected, online]
  · simp [moveTo, Shc.moved, connected, online]
  · simp [moveTo, Shc.moved]
  · exact moved_cmdClosed _ _ _

theorem moveOnline_sameBut (s : State) : sameBut [.btr, .lkc, .pvw, .shc, .ssc, .syn, .hoc] s (settled (moveTo .online s)) := by
  intro part other
  cases part with
  | btr => simp at other
  | lkc => simp at other
  | pvw => simp at other
  | shc => simp at other
  | ssc => simp at other
  | syn => simp at other
  | hoc => simp at other
  | _ => simp [Part.same]

theorem submitRecord_sameBut (r : LogRecord) (id : Option SessionId) (s : State) : sameBut [.emt, .rwr] s (submitRecord r id s) := by
  intro part other
  cases part with
  | emt => simp at other
  | rwr => simp at other
  | _ => simp [Part.same]

theorem exec_sbAuxOpen_moves (run : s.phase = .run) (closed : s.sbAux = true) :
    ∃ t, exec .sbAuxOpen s = .next t ∧ t.sbAux = false ∧
      (s.ssc.station.shipConnected = true →
        t.ssc = { s.ssc with station := .online } ∧ t.hoc = .initial ∧ t.shc.fRest = 0 ∧
          t.shc.fShare = s.shc.fShare ∧ t.syn.cmdClosed = s.syn.cmdClosed ∧
          (s.rwr.queue.length < 16 → (t.rwr.queue.drop s.rwr.queue.length).map (fun r => r.record) = [openingEvent s])) ∧
      (s.ssc.station.shipConnected = false → t = { s with sbAux := false }) ∧
      sameBut [.sbAux, .btr, .lkc, .pvw, .shc, .ssc, .syn, .hoc, .emt, .rwr, .pru] s t := by
  have opened : sameBut [.sbAux] s { s with sbAux := false } := by
    intro part other
    cases part with
    | sbAux => simp at other
    | _ => simp [Part.same]
  have kept : (breakerOpens s).sbAux = false ∧ sameBut [.sbAux, .btr, .lkc, .pvw, .shc, .ssc, .syn, .hoc, .emt, .rwr, .pru] s
      (breakerOpens s) := by
    cases connected : s.ssc.station.shipConnected with
    | false =>
      rw [breakerOpens_elsewhere connected]
      exact ⟨rfl, opened.widen (by decide)⟩
    | true =>
      rw [breakerOpens_of_connected run connected]
      exact ⟨by simp, ((opened.widen (by decide)).then ((submitRecord_sameBut _ _ _).widen (by decide))).then
        ((moveOnline_sameBut _).widen (by decide))⟩
  refine ⟨_, exec_sbAuxOpen_of_closed run closed, kept.1, fun connected => ?_, fun away => ?_,
    kept.2.then ((announce_sameBut s _).widen (by decide))⟩
  · obtain ⟨ssc, hoc, rest, share, contactor⟩ := moveOnline_of_connected
      (s := submitRecord (openingEvent s) (sessionId s) { s with sbAux := false }) connected
    rw [breakerOpens_of_connected run connected]
    simp only [announce_ssc, announce_hoc, announce_shc, announce_syn, announce_rwr, ssc, hoc, rest, share, contactor]
    refine ⟨rfl, trivial, trivial, rfl, rfl, fun room => ?_⟩
    rw [settled_rwr, moveTo_rwr]
    exact submitRecord_drop_of_room (s := { s with sbAux := false }) _ _ room
  · rw [breakerOpens_elsewhere away, announce_of_same]
    rfl

end

/-- Settles O50: the two changes of the breaker, from the states they move and from the others. -/
theorem shipBreakerMovesTheStation : Obligations.ShipBreakerMovesTheStation := by
  refine ⟨fun s run opened => exec_sbAuxClose_moves run opened, fun s run closed => ?_⟩
  obtain ⟨t, taken, sb, moves, stays, kept⟩ := exec_sbAuxOpen_moves run closed
  exact ⟨t, taken, sb, moves, stays, kept⟩

end Sys2Proof.Machine
end

/-! PROOFS. The requests that move the station (chapter 6): PREPARE, SHIP_SYNC, RETURN and DISCONNECT accepted. -/
section
namespace Sys2Proof.Machine

section
variable {s u : State}

/-! ### The REPLY behind a STATUS (R52, R57, R99) -/

theorem enqueue_length (listening : Bool) (f : Frame) (l : Lkc) :
    (l.enqueue listening f).1.queue.length ≤ l.queue.length + 1 := by
  rcases enqueue_cases listening f l with same | ⟨-, replaced⟩ | ⟨-, joined⟩ | ⟨q, dropped, joined⟩
  · rw [same]; omega
  · rw [replaced, replaceStatus_length]; omega
  · rw [joined]; simp
  · have := dropOldestLog_length dropped
    rw [joined]; simp; omega

theorem announce_queue_length (before after : State) :
    (announce before after).lkc.queue.length ≤ after.lkc.queue.length + 1 := by
  rw [announce_eq]
  split
  · exact enqueue_length _ _ _
  · exact Nat.le_succ _

theorem announce_enabled (before after : State) : (announce before after).lkc.enabled = after.lkc.enabled := by
  rw [announce_eq]
  split
  · exact submit_enabled _ _
  · rfl

theorem answer_sameBut (number kind : Byte) (reason : Reason) (data : List Byte) (s : State) :
    sameBut [.lkc, .pru] s (answer number kind reason data s) := by
  intro part other
  cases part with
  | lkc => simp at other
  | pru => simp at other
  | _ => simp [Part.same, answer]

/-- An acceptance with room has its REPLY at the tail. -/
theorem answer_last (number : Byte) (kind : Nat) (data : List Byte) (enabled : s.lkc.enabled = true)
    (room : s.lkc.queue.length < 8) :
    (answer number (BitVec.ofNat 8 kind) .accepted data s).lkc.queue.getLast? = some (replyEntry number kind 0 0 data) := by
  rw [answer_accepted_of_room number kind data enabled room]
  simp

/-- The same behind the STATUS that the request's work may have triggered. -/
theorem answer_announced_last {before after : State} (number : Byte) (kind : Nat) (data : List Byte)
    (enabled : after.lkc.enabled = true) (room : after.lkc.queue.length ≤ 6) :
    (answer number (BitVec.ofNat 8 kind) .accepted data (announce before after)).lkc.queue.getLast? =
      some (replyEntry number kind 0 0 data) :=
  answer_last number kind data ((announce_enabled before after).trans enabled)
    (Nat.lt_of_le_of_lt (announce_queue_length before after) (by omega))

theorem withRx_sameBut (rx : RxState) (s : State) : sameBut [.lkc] s (withRx rx s) := by
  intro part other
  cases part with
  | lkc => simp at other
  | _ => simp [Part.same]

/-! ### SHIP_SYNC (R93, R117, R118) -/

/-- ONLINE to SHIP_SYNC: the context starts and is computed at once. -/
theorem enterShipSync_of_online (online : s.ssc.station = .online) :
    enterShipSync s = settled (setPermit { s with
      ssc := { s.ssc with station := .shipSync }
      syn := Syn.judgedShip { s with
        ssc := { s.ssc with station := .shipSync }
        syn := { s.syn with syncLimit := some s.now, shipDwell := none, ready := false } } }) := by
  simp [enterShipSync, shipJudged, moveTo, online, Syn.moved, Shc.moved, Hoc.moved, StationState.shipConnected,
    StationState.broadcasting]

theorem shipFrequency_of_valid {f : Int} (valid : s.btr.ship.freq = some f) :
    shipFrequency s = clamp (-3000000) 3000000 ((f + s.params.slipTarget - fBase s / 1000) * 1000) := by
  rw [shipFrequency, valid, Option.getD_some]

section
variable {target number : Byte} (named : Named target s)
include named

theorem exec_shipSync_of_online (online : s.ssc.station = .online) (live : s.btr.shipState = .live) :
    exec (.shipSync target number []) s =
      .next (answer number 2 .accepted [] (announcing enterShipSync (withRx .hunt s))) := by
  have accepted : shipSyncReason [] (withRx .hunt s) = .accepted := by
    rw [shipSyncReason, earlyReason_none (s := withRx .hunt s) (ps := []) (length := 0) (by rw [withRx_ssc, online]; decide) rfl
      (.inl (by rw [withRx_ssc, online]; decide))]
    exact if_pos (.inr ⟨online, live⟩)
  rw [exec_shipSync_of_named _ _ named, shipSyncTaken, accepted]
  dsimp only
  rw [if_pos (show (withRx .hunt s).ssc.station = .online from online)]

theorem exec_shipSync_starts (online : s.ssc.station = .online) (live : s.btr.shipState = .live) :
    ∃ t, exec (.shipSync target number []) s = .next t ∧ t.ssc = { s.ssc with station := .shipSync } ∧
      t.syn.syncLimit = some s.now ∧ t.syn.ready = false ∧
      (∀ f, s.btr.ship.freq = some f →
        t.syn.fSync = clamp (-3000000) 3000000 ((f + s.params.slipTarget - fBase s / 1000) * 1000)) ∧
      t.syn.vSync = clamp (-100) 100 (s.msu.vS - vBase s) ∧ t.syn.cmdClosed = s.syn.cmdClosed ∧
      (s.lkc.queue.length ≤ 6 → t.lkc.queue.getLast? = some (replyEntry number 2 0 0 [])) ∧
      sameBut [.btr, .lkc, .pvw, .ssc, .syn, .pru] s t := by
  have kept : sameBut [.lkc, .pru] (announcing enterShipSync (withRx .hunt s)) _ := answer_sameBut number 2 .accepted [] _
  have entered := enterShipSync_of_online (s := withRx .hunt s) online
  have live' : (withRx .hunt s).btr.shipState = .live := live
  refine ⟨_, exec_shipSync_of_online named online live, ?_, ?_, ?_, fun f valid => ?_, ?_, ?_, fun room => ?_, ?_⟩
  · rw [kept .ssc (by decide), announcing, announce_ssc, entered]; rfl
  · rw [kept .syn (by decide), announcing, announce_syn, entered]; rfl
  · rw [kept .syn (by decide), announcing, announce_syn, entered]; simp [Syn.judgedShip, settled, setPermit, judgeBand]
  · rw [kept .syn (by decide), announcing, announce_syn, entered, ← shipFrequency_of_valid valid]
    simp [Syn.judgedShip, settled, setPermit, judgeBand, live, shipFrequency, fBase]
  · rw [kept .syn (by decide), announcing, announce_syn, entered]
    simp [Syn.judgedShip, settled, setPermit, judgeBand, live, shipVoltage, vBase]
  · rw [kept .syn (by decide), announcing, announce_syn, entered]; simp [Syn.judgedShip, settled, setPermit, judgeBand]
  · have queue : (enterShipSync (withRx .hunt s)).lkc = (withRx .hunt s).lkc := by
      rw [enterShipSync_lkc, if_neg (by rw [withRx_ssc, online]; decide)]
    exact answer_announced_last number 2 [] (by rw [queue]; exact named.enabled) (by rw [queue]; exact room)
  · have moved : sameBut [.btr, .ssc, .syn] (withRx .hunt s) (enterShipSync (withRx .hunt s)) := by
      rw [entered]
      intro part other
      cases part with
      | btr => simp at other
      | ssc => simp at other
      | syn => simp at other
      | _ => simp [Part.same]
    exact ((((withRx_sameBut .hunt s).widen (by decide)).then (moved.widen (by decide))).then
      ((announce_sameBut _ _).widen (by decide))).then (kept.widen (by decide))

/-! ### RETURN, and the requests that find their work done (R100, R136) -/

theorem exec_shipSync_repeated (seeking : s.ssc.station = .shipSync) (room : s.lkc.queue.length < 8) :
    exec (.shipSync target number []) s = .next (onlyReplied number 2 0 0 [] s) := by
  have accepted : shipSyncReason [] (withRx .hunt s) = .accepted := by
    rw [shipSyncReason, earlyReason_none (s := withRx .hunt s) (ps := []) (length := 0) (by rw [withRx_ssc, seeking]; decide) rfl
      (.inl (by rw [withRx_ssc, seeking]; decide))]
    exact if_pos (.inl seeking)
  rw [exec_shipSync_of_named _ _ named, shipSyncTaken, accepted]
  dsimp only
  rw [if_neg (by rw [withRx_ssc, seeking]; decide)]
  exact congrArg _ (answer_of_room number 2 .accepted [] named.enabled room)

theorem exec_returnLoad_of_supplying (supplying : s.ssc.station = .supplying) :
    exec (.returnLoad target number []) s =
      .next (answer number 3 .accepted [] (announcing armReturn (withRx .hunt s))) := by
  have accepted : returnReason [] (withRx .hunt s) = .accepted := by
    rw [returnReason, earlyReason_none (s := withRx .hunt s) (ps := []) (length := 0) (by rw [withRx_ssc, supplying]; decide) rfl
      (.inl (by rw [withRx_ssc, supplying]; decide))]
    exact if_pos supplying
  rw [exec_returnLoad_of_named _ _ named, returnTaken, accepted]

theorem exec_returnLoad_arms (supplying : s.ssc.station = .supplying) :
    ∃ t, exec (.returnLoad target number []) s = .next t ∧ t.hoc = { s.hoc with returnArmed := true } ∧
      (s.lkc.queue.length ≤ 6 → t.lkc.queue.getLast? = some (replyEntry number 3 0 0 [])) ∧
      sameBut [.lkc, .pvw, .hoc, .pru] s t := by
  have kept : sameBut [.lkc, .pru] (announcing armReturn (withRx .hunt s)) _ := answer_sameBut number 3 .accepted [] _
  refine ⟨_, exec_returnLoad_of_supplying named supplying, ?_, fun room => ?_, ?_⟩
  · rw [kept .hoc (by decide), announcing, announce_hoc]; rfl
  · exact answer_announced_last (after := armReturn (withRx .hunt s)) number 3 [] named.enabled room
  · have armed : sameBut [.hoc] (withRx .hunt s) (armReturn (withRx .hunt s)) := by
      intro part other
      cases part with
      | hoc => simp at other
      | _ => simp [Part.same, armReturn]
    exact ((((withRx_sameBut .hunt s).widen (by decide)).then (armed.widen (by decide))).then
      ((announce_sameBut _ _).widen (by decide))).then (kept.widen (by decide))

theorem exec_prepare_unchanged {ps : List Byte} {c : Session}
    (unloaded : s.ssc.station = .prepared ∨ s.ssc.station = .joining ∨ s.ssc.station = .online)
    (room : s.lkc.queue.length < 8) (length : ps.length = 8) (held : s.ssc.session = some c)
    (same : BitVec.ofNat 32 (fieldNat ps 0 4) = c.id) :
    exec (.prepare target number ps) s =
      .next (onlyReplied number 1 0 0
        (beBytes 4 c.id.toNat ++ BitVec.ofNat 8 (if c.is60 then 60 else 50) :: (beBytes 2 c.voltage.toNat ++
          [BitVec.ofNat 8 c.minutes, 3, 0, 0, 0, 0])) s) := by
  have member : s.ssc.station ∈ [StationState.prepared, .joining, .online] := by simpa using unloaded
  have awake : s.ssc.station ≠ .standby ∧ s.ssc.station ≠ .starting ∧ s.ssc.station ≠ .tripped := by
    rcases unloaded with at_ | at_ | at_ <;> rw [at_] <;> decide
  obtain ⟨standby, started, untripped⟩ := awake
  have accepted : prepareReason ps (withRx .hunt s) = .accepted := by
    rw [prepareReason, earlyReason_none (s := withRx .hunt s) started length (.inl untripped)]
    refine (if_neg standby).trans (if_pos ⟨(unloaded_iff _).mpr member, ?_⟩)
    rw [sessionId, withRx_ssc, held, Option.map_some]
    exact congrArg some same.symm
  have data : prepareData (prepareParams ps) (withRx .hunt s) (withRx .hunt s) =
      beBytes 4 c.id.toNat ++ BitVec.ofNat 8 (if c.is60 then 60 else 50) :: (beBytes 2 c.voltage.toNat ++
        [BitVec.ofNat 8 c.minutes, 3, 0, 0, 0, 0]) := by
    have action : prepareAction (prepareParams ps) (withRx .hunt s) = (3, 0) := if_neg standby
    simp [prepareData, held, action, beBytes]
  rw [exec_prepare_of_named _ _ named, prepareTaken, accepted]
  dsimp only
  rw [if_neg (show ¬ (withRx .hunt s).ssc.station = .standby from standby), data]
  exact congrArg _ (answer_of_room number 1 .accepted _ named.enabled room)

theorem exec_disconnect_repeated (closing : s.ssc.station = .closing) (room : s.lkc.queue.length < 8) :
    exec (.disconnect target number []) s = .next (onlyReplied number 4 0 0 [] s) := by
  have accepted : disconnectReason [] (withRx .hunt s) = .accepted := by
    rw [disconnectReason, earlyReason_none (s := withRx .hunt s) (ps := []) (length := 0) (by rw [withRx_ssc, closing]; decide) rfl
      (.inl (by rw [withRx_ssc, closing]; decide))]
    exact if_pos (.inr closing)
  rw [exec_disconnect_of_named _ _ named, disconnectTaken, accepted]
  dsimp only
  rw [if_pos (show (withRx .hunt s).ssc.station = .closing from closing)]
  exact congrArg _ (answer_of_room number 4 .accepted [] named.enabled room)

end

end

/-- Settles O35, request by request. -/
theorem shipSyncAndReturnAreTaken : Obligations.ShipSyncAndReturnAreTaken := by
  intro s target number named
  exact ⟨exec_shipSync_starts named, exec_shipSync_repeated named, exec_returnLoad_arms named,
    fun ps c unloaded room length held same => exec_prepare_unchanged named unloaded room length held same,
    exec_disconnect_repeated named⟩

end Sys2Proof.Machine
end

/-! PROOFS. The session closed by a DISCONNECT (R95, R152), and settled by a PREPARE (R89 to R91). -/
section
namespace Sys2Proof.Machine

section
variable {s : State}

/-! ### Records queued (R161) -/

/-- A record as it stands in the queue: with its session id, stamped where the counters are set. -/
def queued (r : LogRecord) (id : Option SessionId) (s : State) : QueuedRecord :=
  { record := r, session := id, stamp := if s.rwr.recovered then some s.rwr.recSeq else none }

theorem submitRecord_queue_of_room (r : LogRecord) (id : Option SessionId) (room : s.rwr.queue.length < 16) :
    (submitRecord r id s).rwr.queue = s.rwr.queue ++ [queued r id s] := by
  simp [submitRecord, room, queued]

/-! ### The session close (R152) -/

/-- The meter after a session close (R152), field by field: the final interval carried and counted, the tick stopped. -/
def Meter.finished (abandoned : Bool) (m : Meter) : Meter :=
  { m with
    flags := { m.flags with final := true }
    closedFwd := m.closedFwd + m.intervalFwd / 28800000, intervalFwd := m.intervalFwd % 28800000
    closedRev := m.closedRev + m.intervalRev / 28800000, intervalRev := m.intervalRev % 28800000
    closedCount := min 65535 (m.closedCount + 1), abandoned := abandoned || m.abandoned, tick := none }

/-- The INTERVAL record of the final close. -/
def finalRecord (id : SessionId) (m : Meter) : LogRecord := closeRecord id { m.flags with final := true } m

/-- The record writer with the two records of a session close in its queue. -/
def closeRecorded (abandoned : Bool) (id : SessionId) (m : Meter) (s : State) : Rwr :=
  (submitRecord (sessionCloseRecord id (m.finished abandoned)) (some id)
    { s with rwr := (submitRecord (finalRecord id m) (some id) s).rwr }).rwr

theorem closeSession_of_room {c : Session} {m : Meter} (abandoned : Bool) (held : s.ssc.session = some c) (meter : s.emt = some m)
    (records : s.rwr.queue.length ≤ 14) (frames : s.lkc.queue.length < 8) :
    closeSession abandoned s =
      { s with
        lkc := (submit (closeReport c.id { m.flags with final := true } m) s).lkc
        rwr := closeRecorded abandoned c.id m s
        emt := some (m.finished abandoned) } := by
  have room : (submitRecord (finalRecord c.id m) (some c.id) s).rwr.queue.length < 16 := by
    rw [submitRecord_queue_of_room _ _ (by omega)]
    simp
    omega
  simp only [closeSession, held, meter, closeInterval_of_room c.id { m.flags with final := true } m (by omega) frames]
  exact submitRecord_of_room _ _ room

theorem closeRecorded_queue {m : Meter} (abandoned : Bool) (id : SessionId) (records : s.rwr.queue.length ≤ 14) :
    ∃ interval close : QueuedRecord, (closeRecorded abandoned id m s).queue = s.rwr.queue ++ [interval, close] ∧
      (interval.record.kind, interval.session) = (.interval, some id) ∧
      (close.record.kind, close.session) = (.sessionClose, some id) := by
  have first := submitRecord_queue_of_room (s := s) (finalRecord id m) (some id) (by omega)
  have second := submitRecord_queue_of_room (s := { s with rwr := (submitRecord (finalRecord id m) (some id) s).rwr })
    (sessionCloseRecord id (m.finished abandoned)) (some id) (by rw [first]; simp; omega)
  refine ⟨queued (finalRecord id m) (some id) s, queued (sessionCloseRecord id (m.finished abandoned)) (some id)
    { s with rwr := (submitRecord (finalRecord id m) (some id) s).rwr }, ?_, rfl, rfl⟩
  rw [closeRecorded, second, first, List.append_assoc]
  rfl

/-! ### CLOSING entered (R36, R95) -/

theorem enterClosing_sameBut (s : State) :
    sameBut [.btr, .rfg, .mod, .lkc, .pvw, .shc, .ssc, .syn, .hoc] s (enterClosing s) := by
  intro part other
  cases part with
  | btr => simp at other
  | rfg => simp at other
  | mod => simp at other
  | lkc => simp at other
  | pvw => simp at other
  | shc => simp at other
  | ssc => simp at other
  | syn => simp at other
  | hoc => simp at other
  | _ => simp [Part.same, enterClosing]

theorem enterClosing_queue_length (s : State) : (enterClosing s).lkc.queue.length ≤ s.lkc.queue.length := by
  rw [enterClosing_lkc]
  split
  · exact List.length_filter_le _ _
  · exact Nat.le_refl _

theorem enterClosing_enabled (s : State) : (enterClosing s).lkc.enabled = s.lkc.enabled := by
  rw [enterClosing_lkc]
  split <;> rfl

theorem gatesOff_rfg (s : State) :
    (gatesOff s).rfg.fRef = s.rfg.fRef ∧ (gatesOff s).rfg.theta = s.rfg.theta ∧
      (gatesOff s).rfg.m = if s.mod.gate = .gatesOff then s.rfg.m else 0 := by
  unfold gatesOff
  dsimp only
  split_ifs <;> exact ⟨rfl, rfl, rfl⟩

/-! ### DISCONNECT (R95) -/

/-- The session context marked CLOSED. -/
def sessionClosed (s : State) : State :=
  { s with ssc := { s.ssc with session := s.ssc.session.map fun c => { c with opened := false } } }

theorem disconnected_eq (s : State) : disconnected s = enterClosing (sessionClosed (closeSession false s)) := rfl

theorem exec_disconnect_of_unloaded {target number : Byte} (named : Named target s)
    (unloaded : s.ssc.station = .prepared ∨ s.ssc.station = .joining ∨ s.ssc.station = .online) :
    exec (.disconnect target number []) s =
      .next (answer number 4 .accepted [] (announcing disconnected (withRx .hunt s))) := by
  have member : s.ssc.station ∈ [StationState.prepared, .joining, .online] := by simpa using unloaded
  have awake : s.ssc.station ≠ .starting ∧ s.ssc.station ≠ .tripped ∧ s.ssc.station ≠ .closing := by
    rcases unloaded with at_ | at_ | at_ <;> rw [at_] <;> decide
  obtain ⟨started, untripped, serving⟩ := awake
  have accepted : disconnectReason [] (withRx .hunt s) = .accepted := by
    rw [disconnectReason, earlyReason_none (s := withRx .hunt s) (ps := []) (length := 0) started rfl (.inl untripped)]
    exact if_pos (.inl ((unloaded_iff _).mpr member))
  rw [exec_disconnect_of_named _ _ named, disconnectTaken, accepted]
  dsimp only
  rw [if_neg (show ¬ (withRx .hunt s).ssc.station = .closing from serving)]

/-- Settles O36: the session close with room in both queues, then CLOSING entered. -/
theorem disconnectClosesTheSession : Obligations.DisconnectClosesTheSession := by
  intro s target number c m named held meter unloaded records frames
  have closed := closeSession_of_room (s := withRx .hunt s) false held meter records (by simp [withRx, Lkc.receive]; omega)
  generalize report : (submit (closeReport c.id { m.flags with final := true } m) (withRx .hunt s)).lkc = reported at closed
  have length : reported.queue.length ≤ 6 := by
    rw [← report]
    exact Nat.le_trans (enqueue_length _ _ _) (Nat.succ_le_succ frames)
  have enabled : reported.enabled = true := by
    rw [← report, submit_enabled]
    exact named.enabled
  obtain ⟨interval, close, queue, first, second⟩ := closeRecorded_queue (s := withRx .hunt s) (m := m) false c.id records
  have left := enterClosing_sameBut (sessionClosed (closeSession false (withRx .hunt s)))
  obtain ⟨fRef, theta, index⟩ := gatesOff_rfg s
  have kept : sameBut [.lkc, .pru] (announcing disconnected (withRx .hunt s)) _ := answer_sameBut number 4 .accepted [] _
  have rwr : (disconnected (withRx .hunt s)).rwr.queue = s.rwr.queue ++ [interval, close] := by
    rw [disconnected_eq, left .rwr (by decide), closed]
    exact queue
  have rfg : (disconnected (withRx .hunt s)).rfg = (gatesOff s).rfg := by
    rw [disconnected_eq, closed]
    rw [enterClosing, settled_rfg, moveTo_rfg, commandContactor_rfg]
    rfl
  refine ⟨_, exec_disconnect_of_unloaded named unloaded, ?station, ?session, ?gate, ?contactor, ?fRef, ?theta, ?index, ?meter,
    ?before, ?behind, ?reply, ?rest⟩
  case station => rw [kept .ssc (by decide), announcing, announce_ssc]; rfl
  case session =>
    rw [kept .ssc (by decide), announcing, announce_ssc, disconnected_eq, closed]
    simp [enterClosing, sessionClosed, held, moveTo]
  case gate => rw [kept .mod (by decide), announcing, announce_mod, disconnected_eq]; exact (enterClosing_atRest _).1
  case contactor => rw [kept .syn (by decide), announcing, announce_syn, disconnected_eq]; exact (enterClosing_atRest _).2
  case fRef => rw [kept .rfg (by decide), announcing, announce_rfg, rfg]; exact fRef
  case theta => rw [kept .rfg (by decide), announcing, announce_rfg, rfg]; exact theta
  case index => rw [kept .rfg (by decide), announcing, announce_rfg, rfg]; exact index
  case meter =>
    rw [kept .emt (by decide), announcing, announce_emt, disconnected_eq, left .emt (by decide), closed]
    rfl
  case before => rw [kept .rwr (by decide), announcing, announce_rwr, rwr, List.take_left]
  case behind =>
    rw [kept .rwr (by decide), announcing, announce_rwr, rwr, List.drop_left, List.map_cons, List.map_cons, first, second]
    rfl
  case reply =>
    refine answer_announced_last number 4 [] ?_ ?_
    · rw [disconnected_eq, enterClosing_enabled, closed]; exact enabled
    · rw [disconnected_eq, closed]; exact Nat.le_trans (enterClosing_queue_length _) length
  case rest =>
    have sessions : sameBut [.lkc, .ssc, .emt, .rwr] s (sessionClosed (closeSession false (withRx .hunt s))) := by
      rw [closed]
      intro part other
      cases part with
      | lkc => simp at other
      | ssc => simp at other
      | emt => simp at other
      | rwr => simp at other
      | _ => simp [Part.same, sessionClosed]
    exact ((((sessions.widen (by decide)).then (left.widen (by decide))).then ((announce_sameBut _ _).widen (by decide))).then
      (kept.widen (by decide)))

end

end Sys2Proof.Machine
end

/-! PROOFS. PREPARE accepted in STANDBY (R89 to R91): the session context settled, and the station woken. -/
section
namespace Sys2Proof.Machine

section
variable {s : State}

/-! ### The parameters (13.3) -/

/-- The eight bytes of a PREPARE with these parameters. -/
def prepareBytes (id : SessionId) (is60 : Bool) (v minutes : Nat) : List Byte :=
  beBytes 4 id.toNat ++ BitVec.ofNat 8 (if is60 then 60 else 50) :: (beBytes 2 v ++ [BitVec.ofNat 8 minutes])

/-- What such a PREPARE asks for. -/
def asked (id : SessionId) (is60 : Bool) (v minutes : Nat) : PrepareParams :=
  { id := id, frequency := if is60 then 60 else 50, voltage := v, minutes := minutes }

theorem fieldNat_id (id : SessionId) (rest : List Byte) : fieldNat (beBytes 4 id.toNat ++ rest) 0 4 = id.toNat := by
  have small := id.isLt
  simp [fieldNat, field, beNat, beBytes, List.range_succ]
  omega

theorem prepareParams_bytes {id : SessionId} {is60 : Bool} {v minutes : Nat} (small : v < 65536)
    (lengths : minutes ∈ [5, 10, 15, 30, 60]) :
    prepareParams (prepareBytes id is60 v minutes) = asked id is60 v minutes := by
  have first : fieldNat (prepareBytes id is60 v minutes) 0 4 = id.toNat := fieldNat_id id _
  have second : fieldNat (prepareBytes id is60 v minutes) 4 1 = if is60 then 60 else 50 := by
    cases is60 <;> simp [prepareBytes, fieldNat, field, beNat, beBytes, List.range_succ]
  have third : fieldNat (prepareBytes id is60 v minutes) 5 2 = v := by
    simp [prepareBytes, fieldNat, field, beNat, beBytes, List.range_succ]
    omega
  have fourth : fieldNat (prepareBytes id is60 v minutes) 7 1 = minutes := by
    simp only [List.mem_cons, List.not_mem_nil, or_false] at lengths
    simp [prepareBytes, fieldNat, field, beNat, beBytes, List.range_succ]
    omega
  rw [prepareParams, first, second, third, fourth, BitVec.ofNat_toNat, BitVec.setWidth_eq, asked]

theorem preparedSession_asked (id : SessionId) (is60 : Bool) (v minutes : Nat) :
    preparedSession (asked id is60 v minutes) =
      { id := id, is60 := is60, voltage := clamp 950 1050 v, minutes := minutes, opened := true } := by
  cases is60 <;> rfl

theorem prepareReason_accepted {id : SessionId} {is60 : Bool} {v minutes : Nat} (standby : s.ssc.station = .standby)
    (nonzero : id ≠ 0) (small : v < 65536) (lengths : minutes ∈ [5, 10, 15, 30, 60])
    (same : ∀ c, s.ssc.session = some c → c.id = id → c.is60 = is60 ∧ c.minutes = minutes) :
    prepareReason (prepareBytes id is60 v minutes) s = .accepted := by
  have within : prepareOutOfRange (asked id is60 v minutes) = false := by
    have good := (goodMinutes_iff minutes).mpr lengths
    cases is60 <;> simp [prepareOutOfRange, asked, good] <;> exact nonzero
  have matches_ : prepareMismatch (asked id is60 v minutes) s = false := by
    unfold prepareMismatch
    split
    next c held =>
      by_cases own : c.id = id
      · obtain ⟨frequency, length⟩ := same c held own
        cases is60 <;> simp [asked, own, frequency, length]
      · simp [asked, own]
    · rfl
  have params := prepareParams_bytes (id := id) (is60 := is60) small lengths
  rw [prepareReason, earlyReason_none (by rw [standby]; decide) (by simp [prepareBytes]) (.inl (by rw [standby]; decide))]
  dsimp only
  rw [params, if_pos standby, within, matches_]
  rfl

/-! ### The session context settled -/

/-- The session context settled: LKC, context, meter and records alone move, one SESSION_OPEN record at the end (R89, R90). -/
def SettledBy (s t : State) (c : Session) (m : Meter) (records : List (RecordKind × Option SessionId)) : Prop :=
  ∃ (r : Rwr) (behind : List QueuedRecord),
    t = { s with ssc := { s.ssc with session := some c }, emt := some m, rwr := r } ∧
      r.queue = s.rwr.queue ++ behind ∧ behind.map (fun q => (q.record.kind, q.session)) = records

theorem recordOpening_of_room {c : Session} {m : Meter} (resumed : Bool) (held : s.ssc.session = some c) (meter : s.emt = some m)
    (room : s.rwr.queue.length < 16) :
    recordOpening resumed s = { s with rwr := (submitRecord (sessionOpenRecord s c m resumed) (some c.id) s).rwr } := by
  have submitted : recordOpening resumed s = submitRecord (sessionOpenRecord s c m resumed) (some c.id) s := by
    simp only [recordOpening, held, meter]
  rw [submitted]
  exact submitRecord_of_room _ _ room

theorem recordOpening_settles {c : Session} {m : Meter} (resumed : Bool) (room : s.rwr.queue.length < 16) :
    SettledBy s (recordOpening resumed { s with ssc := { s.ssc with session := some c }, emt := some m }) c m
      [(.sessionOpen, some c.id)] := by
  rw [recordOpening_of_room (s := { s with ssc := { s.ssc with session := some c }, emt := some m }) resumed rfl rfl room]
  exact ⟨_, _, rfl, submitRecord_queue_of_room _ _ room, rfl⟩

/-- In listening mode LKC refuses the report of a final close (R54). -/
theorem closeReport_refused {id : SessionId} {m : Meter} {flags : IntervalFlags} (listening : s.ssc.station.listening = true)
    (final : flags.final = true) : (submit (closeReport id flags m) s).lkc = s.lkc := by
  have refused : (closeReport id flags m).acceptedListening = false := by
    have flagged : (IntervalFlags.byte flags).getLsbD 3 = true := by
      obtain ⟨partialIvl, selfClosed, gap, last⟩ := flags
      obtain rfl : last = true := final
      revert partialIvl selfClosed gap
      decide
    simp [Frame.acceptedListening, closeReport, intervalReportFrame, intervalContents, beBytes, satBytes, flagged]
  simp only [submit, Lkc.enqueue, listening, refused]
  split <;> rfl

theorem openSession_settles (p : PrepareParams) (room : s.rwr.queue.length < 16) :
    SettledBy s (openSession p s) (preparedSession p) (Meter.opening s.now) [(.sessionOpen, some p.id)] :=
  recordOpening_settles false room

/-- No context held: a new one is opened (R89). -/
theorem settleSession_none (p : PrepareParams) (none : s.ssc.session = none) (room : s.rwr.queue.length < 16) :
    SettledBy s (settleSession p s) (preparedSession p) (Meter.opening s.now) [(.sessionOpen, some p.id)] := by
  have opens : settleSession p s = openSession p s := by simp [settleSession, sessionId, none]
  rw [opens]
  exact openSession_settles p room

/-- A retained context of the same id is resumed (R90, R156). -/
theorem settleSession_same {p : PrepareParams} {c : Session} {m : Meter} (held : s.ssc.session = some c) (meter : s.emt = some m)
    (same : c.id = p.id) (room : s.rwr.queue.length < 16) :
    SettledBy s (settleSession p s) { c with voltage := clamp 950 1050 p.voltage }
      { m with flags := { m.flags with partialIvl := true } } [(.sessionOpen, some p.id)] := by
  have resumes : settleSession p s = recordOpening true { s with
      ssc := { s.ssc with session := some { c with voltage := clamp 950 1050 p.voltage } }
      emt := some { m with flags := { m.flags with partialIvl := true } } } := by
    simp [settleSession, sessionId, held, same, resumeSession, meter]
  rw [resumes, ← same]
  exact recordOpening_settles (c := { c with voltage := clamp 950 1050 p.voltage }) true room

/-- One of another id is closed as abandoned first (R91, R152). -/
theorem settleSession_other {p : PrepareParams} {c : Session} {m : Meter} (standby : s.ssc.station = .standby)
    (held : s.ssc.session = some c) (meter : s.emt = some m) (other : c.id ≠ p.id) (records : s.rwr.queue.length ≤ 13)
    (frames : s.lkc.queue.length < 8) :
    SettledBy s (settleSession p s) (preparedSession p) (Meter.opening s.now)
      [(.interval, some c.id), (.sessionClose, some c.id), (.sessionOpen, some p.id)] := by
  have closed : closeSession true s =
      { s with rwr := closeRecorded true c.id m s, emt := some (m.finished true) } := by
    rw [closeSession_of_room true held meter (by omega) frames, closeReport_refused (by rw [standby]; rfl) rfl]
  obtain ⟨interval, close, queue, first, second⟩ := closeRecorded_queue (s := s) (m := m) true c.id (by omega)
  have opens : settleSession p s =
      openSession p { s with rwr := closeRecorded true c.id m s, ssc := { s.ssc with session := none }, emt := none } := by
    simp [settleSession, sessionId, held, other, closed]
  obtain ⟨r, behind, settled, added, kinds⟩ := openSession_settles
    (s := { s with rwr := closeRecorded true c.id m s, ssc := { s.ssc with session := none }, emt := none }) p
    (by rw [queue]; simp; omega)
  rw [opens, settled]
  refine ⟨r, [interval, close] ++ behind, rfl, ?_, ?_⟩
  · rw [added, queue, List.append_assoc]
  · rw [List.map_append, kinds, List.map_cons, List.map_cons, first, second]
    rfl

/-! ### The station woken (R89) -/

theorem enterPrepared_of_standby (standby : s.ssc.station = .standby) :
    (enterPrepared s).ssc = { s.ssc with station := .prepared } ∧ (enterPrepared s).spt = Spt.start ∧
      (enterPrepared s).msu = s.msu.strobed ∧ (enterPrepared s).lkc = s.lkc ∧
      sameBut [.spt, .msu, .btr, .pvw, .ssc, .syn] s (enterPrepared s) := by
  refine ⟨by simp [enterPrepared, moveTo], by simp [enterPrepared], by simp [enterPrepared], ?_, fun part other => ?_⟩
  · rw [enterPrepared_lkc, if_neg (by rw [standby]; decide)]
  · cases part with
    | spt => simp at other
    | msu => simp at other
    | btr => simp at other
    | pvw => simp at other
    | ssc => simp at other
    | syn => simp at other
    | _ => simp [Part.same, enterPrepared, moveTo, standby, Shc.moved, Hoc.moved, StationState.shipConnected]

/-- A change of the station state into a broadcasting state triggers a STATUS: the cadence restarts (R57). -/
theorem announce_restarts {before after : State} (run : after.phase = .run) (broadcasting : after.ssc.station.broadcasting = true)
    (moved : before.ssc.station ≠ after.ssc.station) :
    (announce before after).pvw = { after.pvw with cadence := some after.now, slot := 0 } := by
  have triggers : announces before after = true := by
    simp only [announces, run, broadcasting, Bool.and_eq_true, bne_iff_ne]
    refine ⟨⟨rfl, trivial⟩, fun same => moved ?_⟩
    exact congrArg Prod.fst same
  rw [announce_eq, if_pos triggers]
  rfl

theorem settledBy_sameBut {t : State} {c : Session} {m : Meter} {records : List (RecordKind × Option SessionId)}
    (settled : SettledBy s t c m records) : sameBut [.ssc, .emt, .rwr] s t := by
  obtain ⟨r, behind, rfl, -, -⟩ := settled
  intro part other
  cases part with
  | ssc => simp at other
  | emt => simp at other
  | rwr => simp at other
  | _ => simp [Part.same]

end

section
variable {s : State} {target number : Byte} {id : SessionId} {is60 : Bool} {v minutes : Nat} (named : Named target s)
  (standby : s.ssc.station = .standby) (nonzero : id ≠ 0) (small : v < 65536) (lengths : minutes ∈ [5, 10, 15, 30, 60])
  (same : ∀ c, s.ssc.session = some c → c.id = id → c.is60 = is60 ∧ c.minutes = minutes)
include named standby nonzero small lengths same

theorem exec_prepare_of_standby :
    exec (.prepare target number (prepareBytes id is60 v minutes)) s =
      .next (answer number 1 .accepted
        (prepareData (asked id is60 v minutes) (withRx .hunt s)
          (announcing (fun x => enterPrepared (settleSession (asked id is60 v minutes) x)) (withRx .hunt s)))
        (announcing (fun x => enterPrepared (settleSession (asked id is60 v minutes) x)) (withRx .hunt s))) := by
  have accepted := prepareReason_accepted (s := withRx .hunt s) standby nonzero small lengths same
  rw [exec_prepare_of_named _ _ named, prepareTaken, accepted]
  dsimp only
  rw [if_pos (show (withRx .hunt s).ssc.station = .standby from standby), prepareParams_bytes small lengths]

/-- A PREPARE that settles the context and wakes the station, whatever the settling was. -/
theorem exec_prepare_wakes {c : Session} {m : Meter} {records : List (RecordKind × Option SessionId)} {action : Nat}
    {old : SessionId} (frames : s.lkc.queue.length ≤ 6)
    (settled : SettledBy (withRx .hunt s) (settleSession (asked id is60 v minutes) (withRx .hunt s)) c m records)
    (names : c.id = id ∧ c.is60 = is60 ∧ c.voltage = clamp 950 1050 v ∧ c.minutes = minutes)
    (acts : prepareAction (asked id is60 v minutes) (withRx .hunt s) = (BitVec.ofNat 8 action, old)) :
    ∃ t, exec (.prepare target number (prepareBytes id is60 v minutes)) s = .next t ∧
      t.ssc.station = .prepared ∧ t.spt = { Spt.initial with strobes := true } ∧ t.pvw.cadence = some s.now ∧ t.pvw.slot = 0 ∧
      t.msu = { s.msu with ocLive := false, dcLive := false } ∧
      t.lkc.queue.getLast? = some (replyEntry number 1 0 0
        (beBytes 4 id.toNat ++ BitVec.ofNat 8 (if is60 then 60 else 50) :: (beBytes 2 (clamp 950 1050 v).toNat ++
          BitVec.ofNat 8 minutes :: BitVec.ofNat 8 action :: beBytes 4 old.toNat))) ∧
      t.ssc.session = some c ∧ t.emt = some m ∧
      (t.rwr.queue.drop s.rwr.queue.length).map (fun r => (r.record.kind, r.session)) = records ∧
      t.rwr.queue.take s.rwr.queue.length = s.rwr.queue ∧
      sameBut [.spt, .msu, .btr, .lkc, .pvw, .ssc, .syn, .emt, .rwr, .pru] s t := by
  have beside := settledBy_sameBut settled
  obtain ⟨r, behind, settledAs, queue, kinds⟩ := settled
  have taken := exec_prepare_of_standby (number := number) named standby nonzero small lengths same
  have data : ∀ u : State, u.ssc.session = some c → prepareData (asked id is60 v minutes) (withRx .hunt s) u =
      beBytes 4 id.toNat ++ BitVec.ofNat 8 (if is60 then 60 else 50) :: (beBytes 2 (clamp 950 1050 v).toNat ++
        BitVec.ofNat 8 minutes :: BitVec.ofNat 8 action :: beBytes 4 old.toNat) := by
    intro u session
    obtain ⟨ids, frequency, voltage, length⟩ := names
    simp only [prepareData, session, acts, ids, frequency, voltage, length]
  rw [announcing] at taken
  generalize settleSession (asked id is60 v minutes) (withRx .hunt s) = w at taken settledAs beside
  have station : w.ssc.station = .standby := by rw [settledAs]; exact standby
  have lkc : w.lkc = (withRx .hunt s).lkc := beside .lkc (by decide)
  have phase : w.phase = .run := (show w.phase = s.phase from beside .phase (by decide)).trans named.run
  obtain ⟨ssc, spt, msu, link, woken⟩ := enterPrepared_of_standby station
  have restarted := announce_restarts (before := withRx .hunt s) (after := enterPrepared w)
    ((woken .phase (by decide)).trans phase) (by rw [ssc]; rfl)
    (by rw [ssc, withRx_ssc, standby]; exact (by decide : StationState.standby ≠ .prepared))
  have now : (enterPrepared w).now = s.now := (woken .clock (by decide)).trans (beside .clock (by decide))
  have session : (enterPrepared w).ssc.session = some c := by rw [ssc, settledAs]
  have meter : (enterPrepared w).emt = some m := (woken .emt (by decide)).trans (by rw [settledAs])
  have rwr : (enterPrepared w).rwr.queue = s.rwr.queue ++ behind := by
    rw [woken .rwr (by decide), settledAs]
    exact queue
  rw [data _ ((announce_ssc _ _).symm ▸ session)] at taken
  generalize replied : answer number 1 .accepted _ _ = t at taken
  have kept : sameBut [.lkc, .pru] (announce (withRx .hunt s) (enterPrepared w)) t := replied ▸ answer_sameBut number 1 _ _ _
  refine ⟨t, taken, ?_, ?_, ?_, ?_, ?_, ?_, ?_, ?_, ?_, ?_, ?_⟩
  · rw [kept .ssc (by decide), announce_ssc, ssc]
  · rw [kept .spt (by decide), announce_spt, spt]; rfl
  · rw [kept .pvw (by decide), restarted, now]
  · rw [kept .pvw (by decide), restarted]
  · rw [kept .msu (by decide), announce_msu, msu, show w.msu = s.msu from beside .msu (by decide)]; rfl
  · rw [← replied]
    exact answer_announced_last number 1 _ (by rw [link, lkc]; exact named.enabled) (by rw [link, lkc]; exact frames)
  · rw [kept .ssc (by decide), announce_ssc, session]
  · rw [kept .emt (by decide), announce_emt, meter]
  · rw [kept .rwr (by decide), announce_rwr, rwr, List.drop_left, kinds]
  · rw [kept .rwr (by decide), announce_rwr, rwr, List.take_left]
  · exact (((((withRx_sameBut .hunt s).widen (by decide)).then (beside.widen (by decide))).then (woken.widen (by decide))).then
      ((announce_sameBut _ _).widen (by decide))).then (kept.widen (by decide))

end

/-- Settles O34: the context is opened, resumed or replaced, and the station woken with it. -/
theorem prepareWakesTheStation : Obligations.PrepareWakesTheStation := by
  intro s target number ps id is60 v minutes named standby paired frames records nonzero small lengths bytes same
  obtain rfl : ps = prepareBytes id is60 v minutes := bytes
  cases held : s.ssc.session with
  | none =>
    have acts : prepareAction (asked id is60 v minutes) (withRx .hunt s) = (BitVec.ofNat 8 1, 0) := by
      simp [prepareAction, standby, sessionId, held]
    have settled := settleSession_none (s := withRx .hunt s) (asked id is60 v minutes) held
      (Nat.lt_of_le_of_lt records (by decide))
    rw [preparedSession_asked] at settled
    obtain ⟨t, taken, station, spt, cadence, slot, msu, reply, session, meter, behind, before, kept⟩ :=
      exec_prepare_wakes (number := number) named standby nonzero small lengths same frames settled ⟨rfl, rfl, by dsimp only, rfl⟩ acts
    exact ⟨t, 1, 0, taken, station, spt, cadence, slot, msu, reply, fun _ => ⟨rfl, rfl, session, meter, behind⟩,
      fun c some => absurd some (by simp), fun c some => absurd some (by simp), before, kept⟩
  | some c =>
    obtain ⟨m, meter⟩ : ∃ m, s.emt = some m := Option.isSome_iff_exists.mp (by rw [← paired, held]; rfl)
    by_cases own : c.id = id
    · obtain ⟨frequency, length⟩ := same c held own
      have acts : prepareAction (asked id is60 v minutes) (withRx .hunt s) = (BitVec.ofNat 8 2, 0) := by
        simp [prepareAction, standby, sessionId, held, own, asked]
      have settled := settleSession_same (s := withRx .hunt s) (p := asked id is60 v minutes) held meter own
        (Nat.lt_of_le_of_lt records (by decide))
      obtain ⟨t, taken, station, spt, cadence, slot, msu, reply, session, emt, behind, before, kept⟩ :=
        exec_prepare_wakes (number := number) named standby nonzero small lengths same frames settled
          ⟨own, frequency, by simp only [asked], length⟩ acts
      refine ⟨t, 2, 0, taken, station, spt, cadence, slot, msu, reply, fun none => absurd none (by simp), fun d some _ => ?_,
        fun d some other => absurd own (Option.some.inj some ▸ other), before, kept⟩
      obtain rfl := Option.some.inj some
      exact ⟨rfl, rfl, session, by rw [emt, meter]; rfl, behind⟩
    · have acts : prepareAction (asked id is60 v minutes) (withRx .hunt s) = (BitVec.ofNat 8 1, c.id) := by
        simp [prepareAction, standby, sessionId, held, own, asked]
      have settled := settleSession_other (s := withRx .hunt s) (p := asked id is60 v minutes) standby held meter own records
        (Nat.lt_of_le_of_lt frames (by decide))
      rw [preparedSession_asked] at settled
      obtain ⟨t, taken, station, spt, cadence, slot, msu, reply, session, emt, behind, before, kept⟩ :=
        exec_prepare_wakes (number := number) named standby nonzero small lengths same frames settled ⟨rfl, rfl, by dsimp only, rfl⟩ acts
      refine ⟨t, 1, c.id, taken, station, spt, cadence, slot, msu, reply, fun none => absurd none (by simp),
        fun d some same => absurd (Option.some.inj some ▸ same) own, fun d some _ => ?_, before, kept⟩
      obtain rfl := Option.some.inj some
      exact ⟨rfl, rfl, session, emt, behind⟩

end Sys2Proof.Machine
end

/-! PROOFS. What the fields of a STATUS, a CONT_STATUS and a CLEAR's REPLY say (chapter 13), and the cadence that sends the first
two (R56, R60). -/
section
namespace Sys2Proof.Machine

/-! ### Bits -/

theorem bitsToNat_testBit (bits : List Bool) (k : Nat) : (bitsToNat bits).testBit k = bits.getD k false := by
  induction bits generalizing k with
  | nil => simp [bitsToNat]
  | cons b bs ih =>
    have bit : bitsToNat (b :: bs) = Nat.bit b (bitsToNat bs) := by
      rw [bitsToNat, Nat.bit_val, Nat.add_comm]
    cases k with
    | zero => rw [bit, Nat.testBit_bit_zero]; rfl
    | succ k => rw [bit, Nat.testBit_bit_succ, ih]; rfl

theorem bitsToNat_lt (bits : List Bool) : bitsToNat bits < 2 ^ bits.length := by
  induction bits with
  | nil => simp [bitsToNat]
  | cons b bs ih =>
    have : b.toNat ≤ 1 := Bool.toNat_le b
    rw [bitsToNat, List.length_cons, Nat.pow_succ]
    omega

theorem bitsByte_getLsbD {bits : List Bool} {k : Nat} (low : k < 8) :
    (BitVec.ofNat 8 (bitsToNat bits)).getLsbD k = bits.getD k false := by
  rw [BitVec.getLsbD_ofNat, bitsToNat_testBit, decide_eq_true low, Bool.true_and]

/-! ### Words -/

theorem wordAt_beBytes {before after : List Byte} {n offset : Nat} (place : before.length = offset) :
    wordAt (before ++ (beBytes 2 n ++ after)) offset = n % 65536 := by
  subst place
  simp [wordAt, beBytes]
  omega

theorem wordAt_sBytes {before after : List Byte} {i : Int} {offset : Nat} (place : before.length = offset) :
    (wordAt (before ++ (sBytes i ++ after)) offset : Int) = i % 65536 := by
  rw [sBytes, wordAt_beBytes place, BitVec.toNat_ofInt]
  omega

/-! ### The held summary and the held set (R178, 13.1) -/

section
variable {s : State}

theorem isHeld_iff (c : Condition) : isHeld s c = true ↔ c ∈ s.pru.held := decide_eq_true_iff

theorem tripClass_iff (p : Params) (x : Condition) : tripClass p x = true ↔ TripClassTable p x := by
  cases x <;> simp [tripClass, TripClassTable]

theorem tripHeld_iff_table : tripHeld s = true ↔ ∃ x ∈ s.pru.held, TripClassTable s.params x := by
  simp only [tripHeld, List.any_eq_true, tripClass_iff]

/-- The marks of R178 group by group, the last for a trip-class condition. -/
theorem heldMarks_eq (s : State) : heldMarks s = (summaryGroups.map fun g => g.any (isHeld s)) ++ [tripHeld s] := by
  simp [heldMarks, summaryGroups, Bool.or_assoc]

theorem group_held_iff (g : List Condition) : g.any (isHeld s) = true ↔ ∃ x ∈ s.pru.held, x ∈ g := by
  simp only [List.any_eq_true, isHeld_iff]
  exact ⟨fun ⟨x, inside, held⟩ => ⟨x, held, inside⟩, fun ⟨x, held, inside⟩ => ⟨x, inside, held⟩⟩

theorem heldMarks_getD {k : Nat} (bounded : k < 16) :
    (heldMarks s).getD k false = true ↔
      (∃ x ∈ s.pru.held, x ∈ summaryGroups.getD k []) ∨ k = 14 ∧ ∃ x ∈ s.pru.held, TripClassTable s.params x := by
  have count : summaryGroups.length = 14 := rfl
  rw [heldMarks_eq]
  rcases Nat.lt_trichotomy k 14 with low | rfl | high
  · have inside : k < (summaryGroups.map fun g => g.any (isHeld s)).length := by simpa [count] using low
    rw [List.getD_append _ _ _ _ inside, List.getD_eq_getElem _ _ inside, List.getElem_map, group_held_iff,
      List.getD_eq_getElem _ _ (by rw [count]; exact low)]
    simp [low.ne]
  · have last : ((summaryGroups.map fun g => g.any (isHeld s)) ++ [tripHeld s]).getD 14 false = tripHeld s := rfl
    rw [last, tripHeld_iff_table]
    simp [summaryGroups]
  · obtain rfl : k = 15 := by omega
    simp [summaryGroups]

theorem summarySays_of_word {p : List Byte} {offset : Nat} (word : wordAt p offset = bitsToNat (heldMarks s)) :
    SummarySays s.params s.pru.held p offset := by
  intro k bounded
  rw [word, bitsToNat_testBit]
  exact heldMarks_getD bounded

theorem heldMarks_word (s : State) : bitsToNat (heldMarks s) % 65536 = bitsToNat (heldMarks s) :=
  Nat.mod_eq_of_lt (Nat.lt_trans (bitsToNat_lt _) (show 2 ^ 15 < 65536 by decide))

/-- A byte of a big-endian field of three holds its eight bits of the number. -/
theorem beBytes_three_bit {n k : Nat} (bounded : k < 24) :
    ((beBytes 3 n).getD (2 - k / 8) 0).getLsbD (k % 8) = n.testBit k := by
  have shifted (j : Nat) (i : Nat) (low : i < 8) : (BitVec.ofNat 8 (n / 256 ^ j)).getLsbD i = n.testBit (8 * j + i) := by
    rw [BitVec.getLsbD_ofNat, decide_eq_true low, Bool.true_and, show 256 ^ j = 2 ^ (8 * j) by rw [Nat.pow_mul],
      Nat.testBit_div_two_pow, Nat.add_comm]
  have low : k % 8 < 8 := Nat.mod_lt _ (by decide)
  have place : k = 8 * (k / 8) + k % 8 := by omega
  have byte : (beBytes 3 n).getD (2 - k / 8) 0 = BitVec.ofNat 8 (n / 256 ^ (k / 8)) := by
    have small : k / 8 < 3 := by omega
    interval_cases k / 8 <;> rfl
  rw [byte, shifted _ _ low, ← place]

theorem conditionsByCode_eq : Condition.all = conditionsByCode := rfl

theorem heldSetSays_bytes (s : State) : HeldSetSays s.pru.held (heldSetBytes s) := by
  refine ⟨heldSetBytes_length s, fun k bounded => ?_⟩
  rw [heldSetBytes, beBytes_three_bit bounded, bitsToNat_testBit, conditionsByCode_eq]
  rcases Nat.lt_or_ge k conditionsByCode.length with inside | outside
  · rw [List.getD_eq_getElem _ _ (by simpa using inside), List.getElem_map, isHeld_iff, List.getElem?_eq_getElem inside]
    simp
  · rw [List.getD_eq_default _ _ (by simpa using outside), List.getElem?_eq_none outside]
    simp

/-! ### A STATUS (R58, R60, 13.3) -/

theorem stateCode_says (x : StationState) :
    ∃ code, (BitVec.ofNat 8 x.code : Byte).toNat = code + 1 ∧ statesByCode[code]? = some x := by
  refine ⟨x.code - 1, ?_⟩
  cases x <;> decide

theorem idField_words (n : Nat) (small : n < 2 ^ 32) (before after : List Byte) :
    wordAt (before ++ (beBytes 4 n ++ after)) before.length * 65536 +
      wordAt (before ++ (beBytes 4 n ++ after)) (before.length + 2) = n := by
  simp [wordAt, beBytes, Nat.add_assoc]
  omega

theorem statusFlags_bits (s : State) :
    let flag k := (statusFlags s).getLsbD k
    flag 0 = s.ccAux ∧ flag 1 = s.syn.permit ∧ flag 2 = s.hoc.ready ∧ flag 3 = s.hoc.returnArmed ∧ flag 4 = s.hoc.aborted ∧
      (flag 5 = true ↔ ∃ time, s.syn.claim = .own time) ∧
      (flag 6 = true ↔ s.ssc.station ≠ .tripped ∧ s.ssc.station ≠ .closing) ∧ flag 7 = false := by
  simp only [statusFlags]
  refine ⟨bitsByte_getLsbD (by decide), bitsByte_getLsbD (by decide), bitsByte_getLsbD (by decide), bitsByte_getLsbD (by decide),
    bitsByte_getLsbD (by decide), ?_, ?_, bitsByte_getLsbD (by decide)⟩
  · rw [bitsByte_getLsbD (by decide)]
    simp only [List.getD_cons_succ, List.getD_cons_zero]
    cases s.syn.claim <;> simp
  · rw [bitsByte_getLsbD (by decide)]
    simp

theorem reportedFreq_none (invalid : s.btr.berth.freq = none) : reportedFreq s.btr.berth.freq = 0 := by
  rw [invalid]; rfl

theorem reportedFreq_some {f : Int} (valid : s.btr.berth.freq = some f) (positive : 0 ≤ f) :
    (reportedFreq s.btr.berth.freq : Int) = min f 65535 := by
  rw [valid, reportedFreq]
  omega

theorem reportedFreq_small (s : State) : reportedFreq s.btr.berth.freq % 65536 = reportedFreq s.btr.berth.freq := by
  refine Nat.mod_eq_of_lt ?_
  cases s.btr.berth.freq with
  | none => decide
  | some f => exact Nat.lt_of_le_of_lt (Nat.min_le_right _ _) (by decide)

/-- The payload of a STATUS field by field (13.3). -/
theorem statusFrame_payload (s : State) :
    (statusFrame s).payload =
      [BitVec.ofNat 8 s.ssc.station.code, statusFlags s] ++ (beBytes 4 (sessionIdNat s) ++
        (BitVec.ofNat 8 s.rating.toNat :: (sBytes s.msu.p ++ (sBytes s.msu.q ++ (beBytes 2 (reportedFreq s.btr.berth.freq) ++
          (s.pvw.seq :: (heldSummaryBytes s ++ []))))))) := by
  simp [statusFrame]

theorem sessionIdNat_some {c : Session} (held : s.ssc.session = some c) : sessionIdNat s = c.id.toNat := by
  simp [sessionIdNat, sessionId, held]

theorem sessionIdNat_none (none : s.ssc.session = none) : sessionIdNat s = 0 := by
  simp [sessionIdNat, sessionId, none]

theorem sessionIdNat_lt (s : State) : sessionIdNat s < 2 ^ 32 := by
  cases held : s.ssc.session with
  | none => rw [sessionIdNat_none held]; decide
  | some c => rw [sessionIdNat_some held]; exact c.id.isLt

theorem statusSays_statusFrame (s : State) : StatusSays s (statusFrame s).payload := by
  have payload := statusFrame_payload s
  generalize (statusFrame s).payload = p at payload
  have ids : wordAt p 2 * 65536 + wordAt p 4 = sessionIdNat s := by
    rw [payload]
    exact idField_words _ (sessionIdNat_lt s) [BitVec.ofNat 8 s.ssc.station.code, statusFlags s] _
  have frequency : wordAt p 11 = reportedFreq s.btr.berth.freq := by
    have place : p = ([BitVec.ofNat 8 s.ssc.station.code, statusFlags s] ++ beBytes 4 (sessionIdNat s) ++
        [BitVec.ofNat 8 s.rating.toNat] ++ sBytes s.msu.p ++ sBytes s.msu.q) ++ (beBytes 2 (reportedFreq s.btr.berth.freq) ++
          (s.pvw.seq :: (heldSummaryBytes s ++ []))) := by simp [payload]
    rw [place, wordAt_beBytes (by simp), reportedFreq_small]
  refine ⟨?length, ?state, ?flags, ?none, ?some, ?rating, ?p, ?q, ?invalid, ?valid, ?seq, ?summary⟩
  case length => simp [payload, heldSummaryBytes]
  case state => rw [payload]; exact stateCode_says s.ssc.station
  case flags => rw [payload]; exact statusFlags_bits s
  case none =>
    intro none
    rw [sessionIdNat_none none] at ids
    omega
  case some =>
    intro c held
    rw [ids, sessionIdNat_some held]
  case rating =>
    have small := s.rating.isLt
    rw [payload]
    simp [beBytes]
    omega
  case p =>
    have place : p = ([BitVec.ofNat 8 s.ssc.station.code, statusFlags s] ++ beBytes 4 (sessionIdNat s) ++
        [BitVec.ofNat 8 s.rating.toNat]) ++ (sBytes s.msu.p ++ (sBytes s.msu.q ++ (beBytes 2 (reportedFreq s.btr.berth.freq) ++
          (s.pvw.seq :: (heldSummaryBytes s ++ []))))) := by simp [payload]
    rw [place]
    exact wordAt_sBytes (by simp)
  case q =>
    have place : p = ([BitVec.ofNat 8 s.ssc.station.code, statusFlags s] ++ beBytes 4 (sessionIdNat s) ++
        [BitVec.ofNat 8 s.rating.toNat] ++ sBytes s.msu.p) ++ (sBytes s.msu.q ++ (beBytes 2 (reportedFreq s.btr.berth.freq) ++
          (s.pvw.seq :: (heldSummaryBytes s ++ [])))) := by simp [payload]
    rw [place]
    exact wordAt_sBytes (by simp)
  case invalid =>
    intro invalid
    rw [frequency, reportedFreq_none invalid]
  case valid =>
    intro f valid positive
    rw [frequency, reportedFreq_some valid positive]
  case seq => rw [payload]; simp [beBytes, sBytes]
  case summary =>
    have place : p = ([BitVec.ofNat 8 s.ssc.station.code, statusFlags s] ++ beBytes 4 (sessionIdNat s) ++
        [BitVec.ofNat 8 s.rating.toNat] ++ sBytes s.msu.p ++ sBytes s.msu.q ++ beBytes 2 (reportedFreq s.btr.berth.freq) ++
          [s.pvw.seq]) ++ (beBytes 2 (bitsToNat (heldMarks s)) ++ []) := by simp [payload, heldSummaryBytes]
    refine summarySays_of_word ?_
    rw [place, wordAt_beBytes (by simp), heldMarks_word]

/-! ### A CONT_STATUS (R59, 13.3) -/

theorem contStatusSays_contStatusFrame (s : State) : ContStatusSays s (contStatusFrame s).payload := by
  have payload : (contStatusFrame s).payload =
      [s.pvw.seq] ++ (sBytes s.msu.p ++ (sBytes s.msu.q ++ [BitVec.ofNat 8 (bitsToNat (liveMarks s))])) := by
    simp [contStatusFrame]
  generalize (contStatusFrame s).payload = p at payload
  have live (k : Nat) (low : k < 8) : (p.getD 5 0).getLsbD k = (liveMarks s).getD k false := by
    have byte : p.getD 5 0 = BitVec.ofNat 8 (bitsToNat (liveMarks s)) := by rw [payload]; simp [sBytes, beBytes]
    rw [byte, bitsByte_getLsbD low]
  refine ⟨by simp [payload], by rw [payload]; rfl, ?_, ?_, live 0 (by decide), live 1 (by decide), live 2 (by decide),
    live 3 (by decide), live 4 (by decide), ?_, ?_, ?_⟩
  · rw [payload]
    exact wordAt_sBytes (by simp)
  · have place : p = ([s.pvw.seq] ++ sBytes s.msu.p) ++ (sBytes s.msu.q ++ [BitVec.ofNat 8 (bitsToNat (liveMarks s))]) := by
      simp [payload]
    rw [place]
    exact wordAt_sBytes (by simp)
  · dsimp only
    rw [live 5 (by decide)]
    simp [liveMarks]
  · dsimp only
    rw [live 6 (by decide)]
    simp [liveMarks]
  · dsimp only
    rw [live 7 (by decide)]
    simp [liveMarks, writerBusy]

/-! ### The cadence (R56, R60) -/

section
variable {start : Nat}

theorem exec_cadenceExpiry_of_due (run : s.phase = .run) (broadcasting : s.ssc.station.broadcasting = true)
    (cadence : s.pvw.cadence = some start) :
    exec .cadenceExpiry s = .next (cadenceWork (catchUp start 160 s)) := by
  have dispatched : exec .cadenceExpiry s = execCadenceExpiry s := rfl
  rw [dispatched, execCadenceExpiry, running_run run, if_pos broadcasting, onExpiry_some cadence]

theorem submit_sameBut (f : Frame) (s : State) : sameBut [.lkc, .pru] s (submit f s) := by
  intro part other
  cases part with
  | lkc => simp at other
  | pru => simp at other
  | _ => simp [Part.same]

theorem slotBroadcast_sameBut (slot : Nat) (s : State) : sameBut [.lkc, .pru] s (slotBroadcast slot s) := by
  unfold slotBroadcast
  split_ifs
  · exact submit_sameBut _ s
  · intro part _
    cases part <;> simp [Part.same]
  · exact submit_sameBut _ s
  · exact submit_sameBut _ s

theorem cadenceWork_eq (cadence : s.pvw.cadence = some start) :
    cadenceWork s = slotBroadcast ((s.pvw.slot + 1) % 5)
      { s with pvw := { s.pvw with cadence := some (start + 160), slot := (s.pvw.slot + 1) % 5 } } := by
  rw [cadenceWork, cadence]
  rfl

end

end

/-- Settles O30: the frames say the station as it stands, and the slot decides which of them is submitted. -/
theorem cadenceSubmitsOneBroadcast : Obligations.CadenceSubmitsOneBroadcast := by
  refine ⟨fun s => ⟨rfl, statusSays_statusFrame s, rfl, contStatusSays_contStatusFrame s⟩,
    fun s start run broadcasting cadence => ?_⟩
  have work := cadenceWork_eq (s := catchUp start 160 s) cadence
  generalize moved : ({ catchUp start 160 s with pvw := { (catchUp start 160 s).pvw with
    cadence := some (start + 160), slot := ((catchUp start 160 s).pvw.slot + 1) % 5 } } : State) = u at work
  have kept := slotBroadcast_sameBut ((s.pvw.slot + 1) % 5) u
  refine ⟨_, u, exec_cadenceExpiry_of_due run broadcasting cadence, ?_, moved.symm, ?_, ?_, fun zero => ?_,
    fun other silent => ?_, fun other tripped closing => ?_⟩
  · rw [work]
    refine sameBut.then (t := u) (fun part other => ?_) (kept.widen (by decide))
    rw [← moved]
    cases part with
    | clock => simp at other
    | pvw => simp at other
    | _ => simp [Part.same]
  · rw [work]; exact kept .pvw (by decide)
  · rw [work]; exact kept .clock (by decide)
  · rw [work, catchUp_pvw, slotBroadcast, if_pos zero]
  · have station : u.ssc.station = s.ssc.station := by rw [← moved]; rfl
    rw [work, catchUp_pvw, slotBroadcast, if_neg other, if_pos (by rw [station]; exact silent), ← moved]
    rfl
  · have station : u.ssc.station = s.ssc.station := by rw [← moved]; rfl
    have pending : statusPending u = s.lkc.queue.any fun e => e.frame.kind == .status := by rw [← moved]; rfl
    rw [work, catchUp_pvw, slotBroadcast, if_neg other, if_neg (by rw [station]; exact fun silent => silent.elim tripped closing),
      pending]

end Sys2Proof.Machine
end

/-! PROOFS. The STANDBY entry (6.7), CLOSING's end (R96) and CLEAR (R98, R102, R177). -/
section
namespace Sys2Proof.Machine

section
variable {s : State}

/-! ### The STANDBY entry -/

/-- The state before the blocks take their STANDBY values (R62, log 9). -/
def standbyTold (s : State) : State := standbyStatus s.ssc.station (moveTo .standby (clearClosed s))

theorem standbyTold_sameBut (s : State) : sameBut [.lkc, .pru] (moveTo .standby (clearClosed s)) (standbyTold s) := by
  unfold standbyTold standbyStatus
  split
  · exact submit_sameBut _ _
  · intro part _
    cases part <;> simp [Part.same]

/-- The blocks' STANDBY values (table of 6.7). -/
theorem enterStandby_blocks (s : State) :
    (enterStandby s).spt = .initial ∧ (enterStandby s).msu = s.msu.stopped ∧ (enterStandby s).btr = .initial ∧
      (enterStandby s).rfg = .initial ∧ (enterStandby s).mod = .off ∧ (enterStandby s).hoc = .initial ∧
      (enterStandby s).shc = { Shc.initial with tick := s.shc.tick } ∧
      (enterStandby s).pvw = { Pvw.initial with seq := s.pvw.seq } ∧ (enterStandby s).syn.claim = .free := by
  have told := standbyTold_sameBut s
  have pvw : (standbyTold s).pvw = s.pvw := (told .pvw (by decide)).trans (by simp [moveTo, StationState.broadcasting])
  have shc : (standbyTold s).shc.tick = s.shc.tick := by rw [told .shc (by decide)]; rfl
  have station : (standbyTold s).ssc.station = .standby := by rw [told .ssc (by decide)]; rfl
  refine ⟨by simp [enterStandby], by simp [enterStandby], ?_, by simp [enterStandby], by simp [enterStandby],
    by simp [enterStandby], ?_, ?_, ?_⟩
  · have onBus : (standbyTold s).ssc.station.onBus = false := by rw [station]; rfl
    have off : (enterStandby s).btr = { Btr.initial with oob := none, oobDone := false } := by
      show ({ Btr.initial with
        oob := if ((standbyTold s).phase == .run && (standbyTold s).ssc.station.onBus && _) = true then _ else none
        oobDone := (standbyTold s).phase == .run && (standbyTold s).ssc.station.onBus && _ && _ } : Btr) = _
      rw [onBus]
      simp
    rw [off]
    rfl
  · show ({ Shc.initial with tick := (standbyTold s).shc.tick } : Shc) = _
    rw [shc]
  · show ({ Pvw.initial with seq := (standbyTold s).pvw.seq } : Pvw) = _
    rw [pvw]
  · rfl

theorem enterStandby_sameBut (s : State) :
    sameBut [.spt, .msu, .btr, .rfg, .mod, .lkc, .pvw, .shc, .ssc, .syn, .hoc, .emt, .pru] s (enterStandby s) := by
  have told := standbyTold_sameBut s
  have moved : sameBut [.lkc, .pvw, .shc, .ssc, .syn, .hoc, .emt] s (moveTo .standby (clearClosed s)) := by
    intro part other
    cases part with
    | lkc => simp at other
    | pvw => simp at other
    | shc => simp at other
    | ssc => simp at other
    | syn => simp at other
    | hoc => simp at other
    | emt => simp at other
    | _ => simp [Part.same]
  refine ((moved.widen (by decide)).then (told.widen (by decide))).then (fun part other => ?_)
  cases part with
  | spt => simp at other
  | msu => simp at other
  | btr => simp at other
  | rfg => simp at other
  | mod => simp at other
  | lkc => simp at other
  | pvw => simp at other
  | shc => simp at other
  | ssc => simp at other
  | syn => simp at other
  | hoc => simp at other
  | emt => simp at other
  | pru => simp at other
  | _ => simp [Part.same, enterStandby, standbyTold]

/-! ### CLOSING's end (R62, R96) -/

theorem exec_closingEnd_of_run (run : s.phase = .run) : exec .closingEnd s = .next (closingJudged s) := by
  have dispatched : exec .closingEnd s = execClosingEnd s := rfl
  rw [dispatched, execClosingEnd, running_run run]

theorem holdsRecordOf_iff (id : SessionId) (s : State) :
    holdsRecordOf id s = true ↔ ∃ r ∈ s.rwr.queue, r.session = some id := by
  simp [holdsRecordOf]

theorem closingJudged_ends {c : Session} (closing : s.ssc.station = .closing) (held : s.ssc.session = some c)
    (over_ : (∀ r ∈ s.rwr.queue, r.session ≠ some c.id) ∨ s.rwr.writer = .faulted) : closingJudged s = enterStandby s := by
  refine if_pos ⟨closing, over_.symm.imp id fun none => ?_⟩
  have empty : holdsRecordOf c.id s = false := by
    rw [← Bool.not_eq_true, holdsRecordOf_iff]
    rintro ⟨r, member, own⟩
    exact none r member own
  simp [sessionId, held, empty]

theorem closingJudged_waits {c : Session} (held : s.ssc.session = some c) (waits : ∃ r ∈ s.rwr.queue, r.session = some c.id)
    (works : s.rwr.writer ≠ .faulted) : closingJudged s = s := by
  have full := (holdsRecordOf_iff c.id s).mpr waits
  refine if_neg fun met => met.2.elim works fun none => ?_
  simp [sessionId, held, full] at none

/-- CLOSING left: the context and the meter are gone before the STATUS is built (log 9). -/
theorem moveStandby_of_closing {c : Session} (closing : s.ssc.station = .closing) (held : s.ssc.session = some c)
    (closed : c.opened = false) :
    moveTo .standby (clearClosed s) = { s with ssc := { station := .standby, session := none }, emt := none } := by
  simp [moveTo, clearClosed, closing, held, closed, Syn.moved, Shc.moved, Hoc.moved, StationState.shipConnected,
    StationState.broadcasting]

/-- A STATUS that announces STANDBY, submitted in STANDBY to a queue with room and without one, is put at its tail (R54). -/
theorem enqueue_standbyStatus {l : Lkc} {f : Frame} (kind : f.kind = .status) (standby : (f.payload.getD 0 0).toNat = 3)
    (enabled : l.enabled = true) (room : l.queue.length < 8) (free : ∀ e ∈ l.queue, e.frame.isStatus = false) :
    l.enqueue true f = (l.push f, .accepted) := by
  have accepted : f.acceptedListening = true := by
    simp only [Frame.acceptedListening, kind, standby]
    rfl
  have none : (l.queue.any fun e => e.frame.isStatus) = false := by
    rw [List.any_eq_false]
    exact fun e member => by simp [free e member]
  simp [Lkc.enqueue, Lkc.push, enabled, accepted, none, kind, room]

theorem dropClaim_last {l : Lkc} {e : TxEntry} (last : l.queue.getLast? = some e) (other : e.frame.kind ≠ .claim) :
    l.dropClaim.queue.getLast? = some e := by
  obtain ⟨before, queue⟩ : ∃ before, l.queue = before ++ [e] := by
    obtain ⟨nonempty, is⟩ := List.mem_getLast?_eq_getLast last
    exact ⟨l.queue.dropLast, by rw [is]; exact (List.dropLast_append_getLast nonempty).symm⟩
  rw [Lkc.dropClaim, queue, List.filter_append]
  simp [other]

theorem closingEnd_status {c : Session} (closing : s.ssc.station = .closing) (held : s.ssc.session = some c)
    (closed : c.opened = false) (enabled : s.lkc.enabled = true) (room : s.lkc.queue.length < 8)
    (free : ∀ e ∈ s.lkc.queue, e.frame.isStatus = false) :
    ∃ p, StatusSays { s with ssc := { station := .standby, session := none } } p ∧
      (enterStandby s).lkc.queue.getLast? = some { frame := { kind := .status, payload := p }, retry := 0, inAttempt := false } := by
  let left : State := { s with ssc := { station := .standby, session := none }, emt := none }
  refine ⟨(statusFrame left).payload, statusSays_statusFrame left, ?_⟩
  have told : standbyTold s = submit (statusFrame left) left := by
    rw [standbyTold, closing, moveStandby_of_closing closing held closed]
    rfl
  have queued : (standbyTold s).lkc = s.lkc.push (statusFrame left) := by
    rw [told]
    exact congrArg Prod.fst (enqueue_standbyStatus (l := s.lkc) (f := statusFrame left) rfl rfl enabled room free)
  have lkc : (enterStandby s).lkc = (standbyTold s).lkc.dropClaim := by simp [enterStandby, standbyTold]
  rw [lkc, queued]
  exact dropClaim_last (by simp [Lkc.push, statusFrame]) (show FrameKind.status ≠ .claim by decide)

end

/-- Settles O37: CLOSING judged, and the STANDBY entry's blocks and STATUS. -/
theorem closingEndsWhenItsRecordsAreWritten : Obligations.ClosingEndsWhenItsRecordsAreWritten := by
  intro s c run closing held closed
  refine ⟨fun ended => ?_, fun waits works => by rw [exec_closingEnd_of_run run, closingJudged_waits held waits works]⟩
  obtain ⟨spt, msu, btr, rfg, mod, hoc, shc, pvw, claim⟩ := enterStandby_blocks s
  have session : (enterStandby s).ssc.session = none := by rw [enterStandby_session]; simp [clearClosed, held, closed]
  have emt : (enterStandby s).emt = none := by rw [enterStandby_emt]; simp [clearClosed, held, closed]
  have ssc : (enterStandby s).ssc = { station := .standby, session := none } := by
    rw [← session, ← enterStandby_station s]
  exact ⟨_, by rw [exec_closingEnd_of_run run, closingJudged_ends closing held ended], ssc, emt, spt, msu, btr, rfg, mod, hoc, shc,
    pvw, claim, (enterStandby_atRest s).2, closingEnd_status closing held closed, enterStandby_sameBut s⟩

end Sys2Proof.Machine
end

/-! PROOFS. CLEAR (R98, R102, R164, R175, R177): what the table of causes lets leave, and what the clearing moves. -/
section
namespace Sys2Proof.Machine

section
variable {s : State}

/-! ### The table of causes (R177) -/

theorem onBus_iff (x : StationState) :
    x.onBus = true ↔ x ∈ [StationState.online, .shipSync, .handoverIn, .supplying, .handoverOut] := by
  cases x <;> decide

theorem fBase_eq (s : State) : fBase s = if ∃ c, s.ssc.session = some c ∧ c.is60 = true then 60000000 else 50000000 := by
  unfold fBase
  cases s.ssc.session with
  | none => simp
  | some c => simp

theorem outOfBand_iff : outOfBand s = true ↔ ∀ f, s.btr.berth.freq = some f →
    if ∃ c, s.ssc.session = some c ∧ c.is60 = true then f < 57000 ∨ 63000 < f else f < 47500 ∨ 52500 < f := by
  unfold outOfBand
  rw [fBase_eq]
  cases s.btr.berth.freq with
  | none => simp
  | some f =>
    simp only [decide_eq_true_eq, Option.some.injEq, forall_eq']
    split_ifs
    · norm_num
    · norm_num

theorem bandMissed_iff : (s.ssc.station.onBus && outOfBand s) = true ↔ BandMissed s := by
  rw [Bool.and_eq_true, onBus_iff, outOfBand_iff, BandMissed]

/-- The cause of each condition is live as R177's table says. -/
theorem causeLive_iff (s : State) (x : Condition) : causeLive s x = true ↔ CauseTable s x := by
  cases x with
  | busFrequency => exact bandMissed_iff
  | duplicateAddress =>
    simp only [causeLive, CauseTable]
    cases s.lkc.dup with
    | none => simp
    | some last => simp; omega
  | contactorFail => simp [causeLive, CauseTable]
  | shipBreakerFail => simp [causeLive, CauseTable, and_assoc]
  | measurementLost => exact decide_eq_true_iff
  | linkNoisy => exact decide_eq_true_iff
  | overcurrent => exact Iff.rfl
  | dcFault => exact Iff.rfl
  | tripInput => exact Iff.rfl
  | recordStoreFault => exact Iff.rfl
  | _ => simp [causeLive, CauseTable]

/-! ### The codes of 13.1 -/

theorem conditionCode_eq (c : Condition) : c.code = conditionsByCode.idxOf c + 1 := by cases c <;> decide

theorem stationCode_eq (x : StationState) : x.code = statesByCode.idxOf x + 1 := by cases x <;> decide

theorem firstCauseBytes_some (r : FirstCause) :
    firstCauseBytes (some r) =
      BitVec.ofNat 8 (conditionsByCode.idxOf r.cause + 1) :: BitVec.ofNat 8 (statesByCode.idxOf r.state + 1) ::
        (List.range 4).map fun i => (r.following.map fun x => BitVec.ofNat 8 (conditionsByCode.idxOf x + 1)).getD i 0 := by
  simp only [firstCauseBytes, conditionCode_eq, stationCode_eq, field, Nat.zero_add]

/-! ### The writer resumed (R164) -/

theorem resumeWriter_only (s : State) : OnlyStore s (resumeWriter s) := by
  unfold resumeWriter
  split
  · exact OnlyStore.trans ⟨_, s.fpt, s.mem, s.freeCount, rfl⟩ (resumeOp_only _ _)
  · exact ⟨s.rwr, s.fpt, s.mem, s.freeCount, rfl⟩

theorem onlyStore_sameBut {t : State} (only : OnlyStore s t) : sameBut [.rwr, .fpt, .mem, .freeCount] s t := by
  obtain ⟨r, x, m, n, rfl⟩ := only
  intro part other
  cases part with
  | rwr => simp at other
  | fpt => simp at other
  | mem => simp at other
  | freeCount => simp at other
  | _ => simp [Part.same]

theorem startOp_writer (op : WriterOp) (s : State) : (startOp op s).rwr.writer = op.writer := by
  unfold startOp
  split <;> rfl

theorem takeNext_works (s : State) : (takeNext s).rwr.writer ≠ .faulted := by
  unfold takeNext
  split
  · rw [startOp_writer]; decide
  · split <;> rw [startOp_writer] <;> simp [WriterOp.writer]
  · simp [writerIdle]

theorem startRecovery_works (s : State) : (startRecovery s).rwr.writer ≠ .faulted := by
  simp [startRecovery, requestExit_rwr]

theorem resumeOp_works (op : Option WriterOp) (s : State) : (resumeOp op s).rwr.writer ≠ .faulted := by
  unfold resumeOp
  split
  · unfold readBack
    split <;> exact takeNext_works _
  all_goals first
    | exact takeNext_works _
    | exact startRecovery_works _
    | (rw [startOp_writer]; simp [WriterOp.writer])

theorem resumeWriter_works (s : State) : (resumeWriter s).rwr.writer ≠ .faulted := by
  unfold resumeWriter
  split
  · exact resumeOp_works _ _
  · assumption

/-! ### The clearing (R98, R177) -/

/-- A tripped station that holds no trip-class condition after the clearing returns to STANDBY, its record absent. -/
def clearedLeft (s : State) : State :=
  if s.ssc.station = .tripped ∧ tripHeld (clearHeld s) = false then forgetCause (enterStandby (clearHeld s)) else clearHeld s

theorem cleared_eq (s : State) :
    cleared s = if isHeld s .recordStoreFault && !isHeld (clearHeld s) .recordStoreFault then resumeWriter (clearedLeft s)
      else clearedLeft s := rfl

theorem cleared_sameBut (s : State) : sameBut [.rwr, .fpt, .mem, .freeCount] (clearedLeft s) (cleared s) := by
  rw [cleared_eq]
  split
  · exact onlyStore_sameBut (resumeWriter_only _)
  · intro part _
    cases part <;> simp [Part.same]

theorem cleared_of_no_fault (sound : .recordStoreFault ∉ s.pru.held) : cleared s = clearedLeft s := by
  rw [cleared_eq, isHeld_false sound]
  rfl

theorem clearHeld_sameBut (s : State) : sameBut [.pru] s (clearHeld s) := by
  intro part other
  cases part with
  | pru => simp at other
  | _ => simp [Part.same, clearHeld]

theorem clearedLeft_tripped (tripped : s.ssc.station = .tripped) (over_ : tripHeld (clearHeld s) = false) :
    clearedLeft s = forgetCause (enterStandby (clearHeld s)) := if_pos ⟨tripped, over_⟩

theorem clearedLeft_stays (stays : s.ssc.station ≠ .tripped ∨ tripHeld (clearHeld s) = true) : clearedLeft s = clearHeld s := by
  refine if_neg fun met => stays.elim (· met.1) fun held => ?_
  rw [met.2] at held
  cases held

theorem tripHeld_clearHeld : tripHeld (clearHeld s) = true ↔
    ∃ c ∈ s.pru.held, causeLive s c = true ∧ tripClass s.params c = true := by
  simp [tripHeld, clearHeld]

/-- With room for a STATUS the STANDBY entry leaves PRU as it is (R53). -/
theorem enterStandby_pru_of_room (room : s.lkc.queue.length < 8) : (enterStandby s).pru = s.pru := by
  rw [enterStandby_pru]
  unfold standbyStatus
  split
  · have queue : (moveTo .standby (clearClosed s)).lkc.queue.length < 8 := by
      refine Nat.lt_of_le_of_lt ?_ room
      simp only [moveTo, clearClosed_lkc]
      split
      · exact List.length_filter_le _ _
      · exact Nat.le_refl _
    have taken : submitted (statusFrame (moveTo .standby (clearClosed s))) (moveTo .standby (clearClosed s)) ≠ .overrun := by
      unfold submitted Lkc.enqueue
      repeat' split
      all_goals simp_all
    simp [submit, taken]
  · simp

theorem enterStandby_queue_length (s : State) : (enterStandby s).lkc.queue.length ≤ s.lkc.queue.length + 1 := by
  have told : (standbyTold s).lkc.queue.length ≤ s.lkc.queue.length + 1 := by
    have moved : (moveTo .standby (clearClosed s)).lkc.queue.length ≤ s.lkc.queue.length := by
      simp only [moveTo, clearClosed_lkc]
      split
      · exact List.length_filter_le _ _
      · exact Nat.le_refl _
    unfold standbyTold standbyStatus
    split
    · exact Nat.le_trans (enqueue_length _ _ _) (Nat.succ_le_succ moved)
    · exact Nat.le_succ_of_le moved
  have lkc : (enterStandby s).lkc = (standbyTold s).lkc.dropClaim := by simp [enterStandby, standbyTold]
  rw [lkc]
  exact Nat.le_trans (List.length_filter_le _ _) told

theorem cleared_pru (room : s.lkc.queue.length < 8) :
    (cleared s).pru.held = s.pru.held.filter (causeLive s) ∧
      (s.ssc.station ≠ .tripped ∨ tripHeld (clearHeld s) = true → (cleared s).pru.first = s.pru.first) := by
  have same := cleared_sameBut s .pru (by decide)
  have stands : (clearHeld s).lkc.queue.length < 8 := room
  refine ⟨?_, fun stays => ?_⟩
  · rw [same]
    unfold clearedLeft
    split
    · rw [forgetCause]
      dsimp only
      rw [enterStandby_pru_of_room stands]
      rfl
    · rfl
  · rw [same, clearedLeft_stays stays]
    rfl

theorem cleared_queue_length (s : State) : (cleared s).lkc.queue.length ≤ s.lkc.queue.length + 1 := by
  rw [show (cleared s).lkc = (clearedLeft s).lkc from cleared_sameBut s .lkc (by decide)]
  unfold clearedLeft
  split
  · exact enterStandby_queue_length (clearHeld s)
  · exact Nat.le_succ _

theorem cleared_enabled (s : State) : (cleared s).lkc.enabled = s.lkc.enabled :=
  (cleared_tail (leave := []) s).enabled

/-! ### The REPLY -/

/-- What the REPLY carries: held set and held summary as the clearing leaves them, the first-cause record as it stood before
(R102, R175). -/
def clearedData (s : State) : List Byte :=
  heldSetBytes (clearHeld s) ++ heldSummaryBytes (clearHeld s) ++ firstCauseBytes s.pru.first

theorem exec_clear_answers {target number : Byte} (named : Named target s) (started : s.ssc.station ≠ .starting) :
    exec (.clear target number []) s =
      .next (answer number (BitVec.ofNat 8 6) .accepted (clearedData (withRx .hunt s)) (cleared (withRx .hunt s))) := by
  have reason : clearReason [] (withRx .hunt s) = .accepted := by
    rw [clearReason, earlyReason_none (s := withRx .hunt s) (ps := []) (length := 0) (inTripped := true) started rfl (.inr rfl)]
  rw [exec_clear_of_named number [] named, clearTaken, reason]
  rfl

theorem answer_accepted_pru (number : Byte) (kind : Nat) (data : List Byte) (enabled : s.lkc.enabled = true)
    (room : s.lkc.queue.length < 8) :
    (answer number (BitVec.ofNat 8 kind) .accepted data s).pru = s.pru := by
  rw [answer_accepted_of_room number kind data enabled room]

theorem answer_accepted_sameBut (number : Byte) (kind : Nat) (data : List Byte) (enabled : s.lkc.enabled = true)
    (room : s.lkc.queue.length < 8) :
    sameBut [.lkc] s (answer number (BitVec.ofNat 8 kind) .accepted data s) := by
  rw [answer_accepted_of_room number kind data enabled room]
  intro part other
  cases part with
  | lkc => simp at other
  | _ => simp [Part.same]

theorem summarySays_bytes (s : State) : SummarySays s.params s.pru.held (heldSummaryBytes s) 0 := by
  have word : wordAt ([] ++ (heldSummaryBytes s ++ [])) 0 = bitsToNat (heldMarks s) := by
    rw [heldSummaryBytes, wordAt_beBytes (before := []) (offset := 0) rfl, heldMarks_word]
  rw [List.nil_append, List.append_nil] at word
  exact summarySays_of_word word

/-! ### A tripped station -/

theorem clearClosed_of_open (opened : sessionOpen s = true) :
    (clearClosed s).ssc.session = s.ssc.session ∧ (clearClosed s).emt = s.emt := by
  unfold sessionOpen at opened
  cases held : s.ssc.session with
  | none => simp [held] at opened
  | some c =>
    simp only [held] at opened
    simp [clearClosed, held, opened]

/-- A tripped station that holds no trip-class condition after the clearing stands in STANDBY, its session kept. -/
theorem clearedLeft_standby (tripped : s.ssc.station = .tripped) (over_ : tripHeld (clearHeld s) = false) :
    (clearedLeft s).ssc.station = .standby ∧ (clearedLeft s).pru.first = none ∧
      (sessionOpen s = true → (clearedLeft s).ssc.session = s.ssc.session ∧ (clearedLeft s).emt = s.emt) ∧
      (clearedLeft s).mod = .off ∧ (clearedLeft s).rfg = .initial ∧ (clearedLeft s).spt = .initial ∧
      (clearedLeft s).syn.cmdClosed = false := by
  rw [clearedLeft_tripped tripped over_]
  obtain ⟨spt, _, _, rfg, mod, _, _, _, _⟩ := enterStandby_blocks (clearHeld s)
  refine ⟨enterStandby_station _, rfl, fun opened => ?_, mod, rfg, spt, (enterStandby_atRest (clearHeld s)).2⟩
  obtain ⟨session, emt⟩ := clearClosed_of_open (s := clearHeld s) opened
  exact ⟨by rw [forgetCause, enterStandby_session, session]; rfl, by rw [forgetCause, enterStandby_emt, emt]; rfl⟩

theorem cleared_writer_works (faulted : .recordStoreFault ∈ s.pru.held) (removed : s.rwr.faultBusy = false) :
    (cleared s).rwr.writer ≠ .faulted := by
  have gone : isHeld (clearHeld s) .recordStoreFault = false :=
    isHeld_false (by simp [clearHeld, causeLive, removed])
  rw [cleared_eq, isHeld_true faulted, gone]
  exact resumeWriter_works _

end

/-- Settles O40: the table of causes, the clearing and its REPLY. -/
theorem clearRemovesWhatIsOver : Obligations.ClearRemovesWhatIsOver := by
  refine ⟨fun s x => ⟨causeLive_iff s x, tripClass_iff s.params x⟩, fun s target number named started room => ?_⟩
  let u := withRx .hunt s
  have enabled : (cleared u).lkc.enabled = true := (cleared_enabled u).trans named.enabled
  have queue : (cleared u).lkc.queue.length < 8 :=
    Nat.lt_of_le_of_lt (cleared_queue_length u) (show s.lkc.queue.length + 1 < 8 by omega)
  have told := answer_accepted_sameBut number 6 (clearedData u) enabled queue
  have pru := answer_accepted_pru number 6 (clearedData u) enabled queue
  have whole : sameBut [.lkc, .rwr, .fpt, .mem, .freeCount] (clearedLeft u)
      (answer number (BitVec.ofNat 8 6) .accepted (clearedData u) (cleared u)) :=
    ((cleared_sameBut u).widen (by decide)).then (told.widen (by decide))
  obtain ⟨held, first⟩ := cleared_pru (s := u) (show s.lkc.queue.length < 8 by omega)
  have live : causeLive u = causeLive s := funext fun x => causeLive_withRx .hunt s x
  rw [live, show u.pru.held = s.pru.held from rfl] at held
  have over_ : (∀ c ∈ s.pru.held, causeLive s c = true → tripClass s.params c = false) → tripHeld (clearHeld u) = false := by
    intro none
    rw [← Bool.not_eq_true, tripHeld_clearHeld, live]
    rintro ⟨c, member, caused, trips⟩
    have quiet := none c member caused
    rw [show tripClass s.params c = true from trips] at quiet
    cases quiet
  refine ⟨_, exec_clear_answers named started, by rw [pru, held], fun x => ?_, fun other sound => ?_, fun tripped none => ?_,
    fun tripped some => ?_, fun _ faulted removed => ?_, heldSetBytes (clearHeld u), heldSummaryBytes (clearHeld u),
    firstCauseBytes s.pru.first, ?_, ?_, ?_, fun none => ?_, fun r some => ?_, answer_last number 6 (clearedData u) enabled queue⟩
  · rw [pru, held, List.mem_filter, causeLive_iff]
  · have stands : cleared u = clearHeld u := (cleared_of_no_fault (s := u) sound).trans (clearedLeft_stays (.inl other))
    rw [stands] at told
    exact ⟨(((withRx_sameBut .hunt s).widen (by decide)).then ((clearHeld_sameBut u).widen (by decide))).then
      (by rw [stands]; exact told.widen (by decide)), by rw [pru, first (.inl other)]; rfl⟩
  · obtain ⟨station, forgot, session, mod, rfg, spt, open_⟩ := clearedLeft_standby (s := u) tripped (over_ none)
    rw [whole .ssc (by decide), whole .pru (by decide), whole .emt (by decide), whole .mod (by decide), whole .rfg (by decide),
      whole .spt (by decide), whole .syn (by decide)]
    exact ⟨station, forgot, session, mod, rfg, spt, open_⟩
  · have stays : tripHeld (clearHeld u) = true := tripHeld_clearHeld.mpr (by rw [live]; exact some)
    have stands := clearedLeft_stays (s := u) (.inr stays)
    rw [whole .ssc (by decide), whole .pru (by decide), whole .emt (by decide), stands]
    exact ⟨rfl, rfl, rfl⟩
  · rw [show _ = (cleared u).rwr from told .rwr (by decide)]
    exact cleared_writer_works (s := u) faulted removed
  · rw [pru, show (cleared u).pru.held = (clearHeld u).pru.held by rw [held, ← live]; rfl]
    exact heldSetSays_bytes (clearHeld u)
  · simp [heldSummaryBytes, beBytes]
  · rw [pru, show (cleared u).pru.held = (clearHeld u).pru.held by rw [held, ← live]; rfl]
    exact summarySays_bytes (clearHeld u)
  · rw [none]; rfl
  · rw [some, firstCauseBytes_some]

end Sys2Proof.Machine
end

/-! PROOFS. The writer (R159 to R163): the operation it starts, the work it takes, and how its operations end. -/
section
namespace Sys2Proof.Machine

section
variable {s : State}

/-! ### An operation started (R163, R170) -/

theorem startOp_sameBut (op : WriterOp) (s : State) : sameBut [.rwr, .fpt, .mem] s (startOp op s) := by
  intro part other
  unfold startOp issueOp
  cases part with
  | rwr => simp at other
  | fpt => simp at other
  | mem => simp at other
  | _ => split <;> simp [Part.same]

theorem startOp_op (op : WriterOp) (s : State) : (startOp op s).rwr.op = some op := by
  unfold startOp
  split <;> rfl

@[simp] theorem startOp_queue (op : WriterOp) (s : State) : (startOp op s).rwr.queue = s.rwr.queue := by
  unfold startOp
  split <;> rfl

@[simp] theorem startOp_config (op : WriterOp) (s : State) : (startOp op s).rwr.config = s.rwr.config := by
  unfold startOp
  split <;> rfl

@[simp] theorem startOp_sector (op : WriterOp) (s : State) : (startOp op s).rwr.sector = s.rwr.sector := by
  unfold startOp
  split <;> rfl

@[simp] theorem startOp_offset (op : WriterOp) (s : State) : (startOp op s).rwr.offset = s.rwr.offset := by
  unfold startOp
  split <;> rfl

@[simp] theorem startOp_secSeq (op : WriterOp) (s : State) : (startOp op s).rwr.secSeq = s.rwr.secSeq := by
  unfold startOp
  split <;> rfl

@[simp] theorem startOp_cells (op : WriterOp) (s : State) : (startOp op s).mem.cells = s.mem.cells := by
  unfold startOp
  split <;> rfl

@[simp] theorem startOp_exitWaits (op : WriterOp) (s : State) : (startOp op s).fpt.exitWaits = s.fpt.exitWaits := by
  unfold startOp
  split <;> rfl

@[simp] theorem startOp_readout (op : WriterOp) (s : State) : (startOp op s).fpt.readout = s.fpt.readout := by
  unfold startOp
  split <;> rfl

/-- On the free port: exit, write enable, the operation, the busy timeout running. -/
theorem startOp_issues (op : WriterOp) (free : s.fpt.port = none) :
    (startOp op s).rwr.busy = some s.now ∧ (startOp op s).fpt.port = some .writer ∧ (startOp op s).mem.latch = true ∧
      (startOp op s).mem.cont = false ∧ (startOp op s).fpt.contRead = false ∧ (startOp op s).mem.op = some (op.memOp s) := by
  rw [startOp_free (op := op) free]
  exact ⟨rfl, rfl, rfl, rfl, rfl, rfl⟩

/-! ### The place of a record (R162) -/

theorem placement_fits {offset size : Nat} (inside : offset < 4096) (fits : offset % 256 + size ≤ 256) :
    placement offset size = some offset := by
  refine if_pos ⟨inside, ?_⟩
  unfold pageEnd
  omega

theorem placement_next_page {offset size : Nat} (inside : offset < 3840) (over_ : 256 < offset % 256 + size) :
    placement offset size = some ((offset / 256 + 1) * 256) := by
  unfold placement pageEnd
  rw [if_neg (by omega), if_pos (by omega)]

theorem placement_next_sector {offset size : Nat} (last : 3840 ≤ offset)
    (over_ : 256 < offset % 256 + size ∨ 4096 ≤ offset) : placement offset size = none := by
  unfold placement pageEnd
  rw [if_neg (by omega), if_neg (by omega)]

/-! ### The work taken (R163) -/

theorem takeNext_of_config (configured : s.rwr.config ≠ none) : takeNext s = startOp .configErase s := by
  obtain ⟨block, held⟩ := Option.ne_none_iff_exists'.mp configured
  exact takeNext_config held

theorem takeNext_of_place {r : QueuedRecord} {rest : List QueuedRecord} {offset : Nat} (unset : s.rwr.config = none)
    (queue : s.rwr.queue = r :: rest) (placed : placement s.rwr.offset r.record.size = some offset) :
    takeNext s = startOp (.record s.rwr.sector offset) s := by
  simp [takeNext, unset, queue, placed]

theorem takeNext_of_no_place {r : QueuedRecord} {rest : List QueuedRecord} (unset : s.rwr.config = none)
    (queue : s.rwr.queue = r :: rest) (full : placement s.rwr.offset r.record.size = none) :
    takeNext s = startOp (.logErase (nextSector s.rwr.sector) (s.rwr.secSeq + 1)) s := by
  simp [takeNext, unset, queue, full]

/-- With work at hand an operation is started. -/
theorem takeNext_starts (work : s.rwr.config ≠ none ∨ s.rwr.queue ≠ []) : ∃ op, takeNext s = startOp op s := by
  by_cases configured : s.rwr.config = none
  · obtain ⟨r, rest, queue⟩ := List.exists_cons_of_ne_nil (work.resolve_left (not_not.mpr configured))
    cases placed : placement s.rwr.offset r.record.size with
    | none => exact ⟨_, takeNext_of_no_place configured queue placed⟩
    | some offset => exact ⟨_, takeNext_of_place configured queue placed⟩
  · exact ⟨_, takeNext_of_config configured⟩

theorem takeNext_cases (s : State) : takeNext s = writerIdle s ∨ ∃ op, takeNext s = startOp op s := by
  by_cases work : s.rwr.config = none ∧ s.rwr.queue = []
  · exact .inl (takeNext_idle work.1 work.2)
  · exact .inr (takeNext_starts (by rwa [← not_and_or]))

theorem takeNext_sameBut (s : State) : sameBut [.rwr, .fpt, .mem] s (takeNext s) := by
  rcases takeNext_cases s with idle | ⟨op, starts⟩
  · rw [idle]
    intro part other
    cases part with
    | rwr => simp at other
    | _ => simp [Part.same, writerIdle]
  · rw [starts]
    exact startOp_sameBut op s

@[simp] theorem takeNext_queue (s : State) : (takeNext s).rwr.queue = s.rwr.queue := by
  rcases takeNext_cases s with idle | ⟨op, starts⟩
  · rw [idle]; rfl
  · rw [starts, startOp_queue]

@[simp] theorem takeNext_keeps_config (s : State) : (takeNext s).rwr.config = s.rwr.config := by
  rcases takeNext_cases s with idle | ⟨op, starts⟩
  · rw [idle]; rfl
  · rw [starts, startOp_config]

@[simp] theorem takeNext_sector (s : State) : (takeNext s).rwr.sector = s.rwr.sector := by
  rcases takeNext_cases s with idle | ⟨op, starts⟩
  · rw [idle]; rfl
  · rw [starts, startOp_sector]

@[simp] theorem takeNext_offset (s : State) : (takeNext s).rwr.offset = s.rwr.offset := by
  rcases takeNext_cases s with idle | ⟨op, starts⟩
  · rw [idle]; rfl
  · rw [starts, startOp_offset]

@[simp] theorem takeNext_cells (s : State) : (takeNext s).mem.cells = s.mem.cells := by
  rcases takeNext_cases s with idle | ⟨op, starts⟩
  · rw [idle]; rfl
  · rw [starts, startOp_cells]

@[simp] theorem takeNext_exitWaits (s : State) : (takeNext s).fpt.exitWaits = s.fpt.exitWaits := by
  rcases takeNext_cases s with idle | ⟨op, starts⟩
  · rw [idle]; rfl
  · rw [starts, startOp_exitWaits]

@[simp] theorem takeNext_readout (s : State) : (takeNext s).fpt.readout = s.fpt.readout := by
  rcases takeNext_cases s with idle | ⟨op, starts⟩
  · rw [idle]; rfl
  · rw [starts, startOp_readout]

theorem exec_writerTakeWork_of_free (run : s.phase = .run) (idle : s.rwr.writer = .idle) (start : s.rwr.start = .none)
    (recovered : s.rwr.recovered = true) (settled : s.rwr.settling = false) :
    exec .writerTakeWork s = .next (takeNext s) := by
  have dispatched : exec .writerTakeWork s = execWriterTakeWork s := rfl
  rw [dispatched, execWriterTakeWork, running_run run, if_pos (by simp [writerFree, idle, start, recovered, settled])]

theorem exec_memoryPortGrant_of_run (run : s.phase = .run) : exec .memoryPortGrant s = .next (grantPort s) := by
  have dispatched : exec .memoryPortGrant s = execMemoryPortGrant s := rfl
  rw [dispatched, execMemoryPortGrant, running_run run]

theorem grantPort_writer {op : WriterOp} (free : s.fpt.port = none) (waits : writerWaits s = true)
    (held : s.rwr.op = some op) : grantPort s = issueOp op s := by
  rw [grantPort, if_neg (by simp [free]), if_pos waits]
  simp only [held]

theorem grantPort_chunk (free : s.fpt.port = none) (none : writerWaits s = false) (waits : chunkWaits s = true) :
    grantPort s = { s with fpt := { s.fpt with port := some .chunk } } := by
  rw [grantPort, if_neg (by simp [free]), if_neg (by simp [none]), if_pos waits]

theorem headRecordBytes_cons {r : QueuedRecord} {rest : List QueuedRecord} (queue : s.rwr.queue = r :: rest) :
    headRecordBytes s = r.record.bytes (r.stamp.getD 0) := by
  simp [headRecordBytes, queue]

end

/-- Settles O53: the work the IDLE writer takes, and a grant of the port. -/
theorem writerTakesWork : Obligations.WriterTakesWork := by
  refine ⟨fun s run idle start recovered settled free => ?_, fun s run free => ⟨fun op waits held => ?_, fun none waits => ?_⟩⟩
  · refine ⟨takeNext s, exec_writerTakeWork_of_free run idle start recovered settled, takeNext_sameBut s, takeNext_queue s,
      takeNext_keeps_config s, takeNext_cells s, fun work => ?_, fun configured => ?_, fun r rest none queue => ⟨?_, ?_, ?_⟩,
      fun none empty => ?_⟩
    · obtain ⟨op, starts⟩ := takeNext_starts work
      obtain ⟨busy, port, latch, cont, contRead, _⟩ := startOp_issues op free
      rw [starts]
      exact ⟨busy, port, latch, cont, contRead⟩
    · rw [takeNext_of_config configured]
      exact ⟨startOp_writer .configErase s, (startOp_issues .configErase free).2.2.2.2.2⟩
    · intro inside fits
      rw [takeNext_of_place none queue (placement_fits inside fits)]
      refine ⟨startOp_writer _ s, startOp_op _ s, ?_⟩
      rw [(startOp_issues _ free).2.2.2.2.2, WriterOp.memOp, headRecordBytes_cons queue]
    · intro inside over_
      rw [takeNext_of_place none queue (placement_next_page inside over_)]
      refine ⟨startOp_writer _ s, startOp_op _ s, ?_⟩
      rw [(startOp_issues _ free).2.2.2.2.2, WriterOp.memOp, headRecordBytes_cons queue]
    · intro last over_
      rw [takeNext_of_no_place none queue (placement_next_sector last over_)]
      exact ⟨startOp_writer _ s, (startOp_issues _ free).2.2.2.2.2⟩
    · rw [takeNext_idle none empty]
      exact ⟨rfl, rfl, rfl⟩
  · rw [exec_memoryPortGrant_of_run run, grantPort_writer free waits held, ← startOp_free (op := op) free]
    obtain ⟨busy, port, latch, _, _, issued⟩ := startOp_issues op free
    exact ⟨_, rfl, startOp_sameBut op s, port, busy, issued, latch, startOp_cells op s⟩
  · rw [exec_memoryPortGrant_of_run run, grantPort_chunk free none waits]

end Sys2Proof.Machine
end

/-! PROOFS. Programs and erases end with busy (R157, R162, R163), and the writer goes on to its next operation. -/
section
namespace Sys2Proof.Machine

/-! ### The bytes of the memory (R157) -/

/-- Within a page a program clears the bits that are 0 in its data and leaves every other byte. -/
theorem cellsGet_program (addr : Nat) (data : List Byte) :
    ∀ (i : Nat) (cells : List Host.Cell), CellsWf cells → addr % 256 + i + data.length ≤ 256 →
      (∀ j, j < data.length →
        cellsGet (addr + i + j) (cellsProgram addr i data cells) = cellsGet (addr + i + j) cells &&& data.getD j 0) ∧
      ∀ a, a < addr + i ∨ addr + i + data.length ≤ a → cellsGet a (cellsProgram addr i data cells) = cellsGet a cells := by
  induction data with
  | nil => exact fun i cells _ _ => ⟨fun j inside => absurd inside (by simp), fun a _ => rfl⟩
  | cons b bs ih =>
    intro i cells wf page
    simp only [List.length_cons] at page
    have place : pageAddr addr i = addr + i := by
      unfold pageAddr
      omega
    obtain ⟨inside, outside⟩ := ih (i + 1) _ (cellsSet_wf (a := pageAddr addr i)
      (v := cellsGet (pageAddr addr i) cells &&& b) wf) (by omega)
    rw [place] at inside outside
    rw [cellsProgram, place]
    refine ⟨fun j below => ?_, fun a far => ?_⟩
    · cases j with
      | zero =>
        rw [outside (addr + i + 0) (by omega)]
        exact cellsGet_set_same wf
      | succ j =>
        rw [show addr + i + (j + 1) = addr + (i + 1) + j by omega, inside j (by simpa using below),
          cellsGet_set_other cells (by omega)]
        rfl
    · simp only [List.length_cons] at far
      rw [outside a (by omega), cellsGet_set_other cells (by omega)]

theorem cellsGet_erase_other {a sector : Nat} (cells : List Host.Cell) (other : a / 4096 ≠ sector) :
    cellsGet a (cellsErase sector cells) = cellsGet a cells := by
  induction cells with
  | nil => rfl
  | cons c cs ih =>
    obtain ⟨b, v⟩ := c
    by_cases gone : b / 4096 = sector
    · have apart : b ≠ a := by rintro rfl; exact other gone
      simpa [cellsErase, gone, cellsGet, apart] using ih
    · by_cases same : b = a
      · simp [cellsErase, cellsGet, same, other]
      · simpa [cellsErase, gone, cellsGet, same] using ih

section
variable {s : State}

/-! ### The port given back (R170) -/

/-- The state in which the writer's operation has ended: busy clear, the port free. -/
def operationEnded (s : State) : State := freePort { s with mem := s.mem.finish }

theorem operationEnded_sameBut (s : State) : sameBut [.fpt, .mem] s (operationEnded s) := by
  intro part other
  unfold operationEnded freePort
  cases part with
  | fpt => simp at other
  | mem => simp at other
  | _ => split <;> simp [Part.same]

theorem operationEnded_eq (held : s.fpt.port = some .writer) :
    operationEnded s = releasePort { s with mem := s.mem.finish } := if_pos held

theorem operationEnded_port (held : s.fpt.port = some .writer) : (operationEnded s).fpt.port = none := by
  rw [operationEnded_eq held]
  rfl

theorem operationEnded_exit (held : s.fpt.port = some .writer) :
    (operationEnded s).fpt.exitWaits = false ∧ (s.fpt.exitWaits = true →
      (operationEnded s).fpt.contRead = false ∧ (operationEnded s).mem.cont = false ∧
        ∀ r, (operationEnded s).fpt.readout = some r → r.ended = false) := by
  rw [operationEnded_eq held]
  cases waits : s.fpt.exitWaits with
  | false => exact ⟨by rw [releasePort_quiet (s := { s with mem := s.mem.finish }) waits]; exact waits, fun h => absurd h (by simp)⟩
  | true =>
    rw [releasePort_exit (s := { s with mem := s.mem.finish }) waits]
    refine ⟨rfl, fun _ => ⟨rfl, rfl, fun r some => ?_⟩⟩
    simp only [exitMade, Option.filter_eq_some_iff] at some
    simpa using some.2

theorem operationEnded_mem (held : s.fpt.port = some .writer) :
    (operationEnded s).mem.cells = s.mem.finish.cells ∧ (operationEnded s).mem.op = s.mem.finish.op ∧
      (operationEnded s).mem.latch = s.mem.finish.latch := by
  rw [operationEnded_eq held]
  cases waits : s.fpt.exitWaits with
  | false =>
    rw [releasePort_quiet (s := { s with mem := s.mem.finish }) waits]
    exact ⟨rfl, rfl, rfl⟩
  | true =>
    rw [releasePort_exit (s := { s with mem := s.mem.finish }) waits]
    exact ⟨rfl, rfl, rfl⟩

/-! ### The writer goes on -/

/-- What the writer's next work leaves of the end of the last: the bytes of the memory, the blocks outside the store, and the
exit made. -/
structure GoesOn (s t : State) : Prop where
  same : sameBut [.rwr, .fpt, .mem] s t
  cells : t.mem.cells = s.mem.cells
  waits : t.fpt.exitWaits = s.fpt.exitWaits
  readout : t.fpt.readout = s.fpt.readout
  cont : s.mem.cont = false → t.mem.cont = false
  contRead : s.fpt.contRead = false → t.fpt.contRead = false

theorem GoesOn.refl (s : State) : GoesOn s s :=
  ⟨fun part _ => by cases part <;> simp [Part.same], rfl, rfl, rfl, id, id⟩

theorem GoesOn.moved {t : State} {r : Rwr} (on : GoesOn { s with rwr := r } t) : GoesOn s t :=
  ⟨sameBut.then (s := s) (t := { s with rwr := r }) (fun part other => by
      cases part with
      | rwr => simp at other
      | _ => simp [Part.same]) on.same,
    on.cells, on.waits, on.readout, on.cont, on.contRead⟩

theorem startOp_goesOn (op : WriterOp) (s : State) : GoesOn s (startOp op s) := by
  refine ⟨startOp_sameBut op s, startOp_cells op s, startOp_exitWaits op s, startOp_readout op s, fun off => ?_, fun off => ?_⟩
  · unfold startOp
    split
    · rfl
    · exact off
  · unfold startOp
    split
    · rfl
    · exact off

theorem takeNext_goesOn (s : State) : GoesOn s (takeNext s) := by
  rcases takeNext_cases s with idle | ⟨op, starts⟩
  · rw [idle]
    exact GoesOn.moved (GoesOn.refl _)
  · rw [starts]
    exact startOp_goesOn op s

/-! ### A program ended (R162, R163) -/

theorem exec_programComplete_of_busy {start : Nat} {op : WriterOp} (run : s.phase = .run) (busy : s.rwr.busy = some start)
    (held : s.rwr.op = some op) (writer : s.rwr.writer = .programming) :
    exec .programComplete s = .next (programEnded s) := by
  have dispatched : exec .programComplete s = execProgramComplete s := rfl
  rw [dispatched, execProgramComplete, running_run run, if_pos (by simp [writerBusyWith, busy, held, writer])]

theorem programEnded_head {sector seq : Nat} (held : s.rwr.op = some (.head sector seq)) :
    programEnded s = startOp (.record sector 16)
      { operationEnded s with rwr := { (operationEnded s).rwr with sector := sector, offset := 16 } } := by
  simp only [programEnded, held]
  rfl

theorem programEnded_record {sector offset : Nat} (held : s.rwr.op = some (.record sector offset)) :
    programEnded s = takeNext (recordWritten sector offset (operationEnded s)) := by
  simp only [programEnded, held]
  rfl

theorem programEnded_config (held : s.rwr.op = some .configProgram) :
    programEnded s = takeNext { operationEnded s with rwr := { (operationEnded s).rwr with config := none } } := by
  simp only [programEnded, held]
  rfl

theorem programEnded_goesOn {op : WriterOp} (held : s.rwr.op = some op) (other : op ≠ .formatHead) :
    GoesOn (operationEnded s) (programEnded s) := by
  cases op with
  | head sector seq => rw [programEnded_head held]; exact (startOp_goesOn _ _).moved
  | record sector offset => rw [programEnded_record held]; exact (takeNext_goesOn _).moved
  | configProgram => rw [programEnded_config held]; exact (takeNext_goesOn _).moved
  | formatHead => exact absurd rfl other
  | _ =>
    simp only [programEnded, held]
    exact GoesOn.refl _

theorem operationEnded_rwr (s : State) : (operationEnded s).rwr = s.rwr := operationEnded_sameBut s .rwr (by decide)

/-! ### An erase ended (R162, R163) -/

theorem exec_eraseComplete_of_busy {start : Nat} {op : WriterOp} (run : s.phase = .run) (busy : s.rwr.busy = some start)
    (held : s.rwr.op = some op) (writer : s.rwr.writer = .erasing) :
    exec .eraseComplete s = .next (eraseEnded s) := by
  have dispatched : exec .eraseComplete s = execEraseComplete s := rfl
  rw [dispatched, execEraseComplete, running_run run, if_pos (by simp [writerBusyWith, busy, held, writer])]

theorem eraseEnded_log {sector seq : Nat} (held : s.rwr.op = some (.logErase sector seq)) :
    eraseEnded s = startOp (.head sector seq)
      { operationEnded s with rwr := { (operationEnded s).rwr with secSeq := seq } } := by
  simp only [eraseEnded, held]
  rfl

theorem eraseEnded_config (held : s.rwr.op = some .configErase) : eraseEnded s = startOp .configProgram (operationEnded s) := by
  simp only [eraseEnded, held]
  rfl

theorem eraseEnded_format (held : s.rwr.op = some .formatErase) : eraseEnded s = startOp .formatHead (operationEnded s) := by
  simp only [eraseEnded, held]
  rfl

theorem eraseEnded_goesOn {op : WriterOp} (held : s.rwr.op = some op) :
    GoesOn (operationEnded s) (eraseEnded s) ∧ (eraseEnded s).rwr.queue = s.rwr.queue := by
  rw [← operationEnded_rwr s]
  cases op with
  | logErase sector seq => rw [eraseEnded_log held]; exact ⟨(startOp_goesOn _ _).moved, startOp_queue _ _⟩
  | configErase => rw [eraseEnded_config held]; exact ⟨startOp_goesOn _ _, startOp_queue _ _⟩
  | formatErase => rw [eraseEnded_format held]; exact ⟨startOp_goesOn _ _, startOp_queue _ _⟩
  | _ =>
    simp only [eraseEnded, held]
    exact ⟨GoesOn.refl _, rfl⟩

end

/-- Settles O54: a program and an erase ended, and the writer's next operation. -/
theorem programAndEraseComplete : Obligations.ProgramAndEraseComplete := by
  intro s start op run wf busy held port
  obtain ⟨quiet, exited⟩ := operationEnded_exit port
  obtain ⟨cells, over_, latch⟩ := operationEnded_mem port
  have free := operationEnded_port port
  have rwr := operationEnded_rwr s
  refine ⟨fun addr data writer programs page other => ?_, fun sector writer erases => ?_⟩
  · have on := programEnded_goesOn held other
    have finished : s.mem.finish.cells = cellsProgram addr 0 data s.mem.cells := by simp [Memory.finish, programs]
    obtain ⟨inside, outside⟩ := cellsGet_program addr data 0 s.mem.cells wf (by omega)
    have reads (a : Nat) : (programEnded s).mem.get a = cellsGet a (cellsProgram addr 0 data s.mem.cells) := by
      rw [← finished, ← cells, ← on.cells]; rfl
    refine ⟨_, exec_programComplete_of_busy run busy held writer,
      ((operationEnded_sameBut s).widen (by decide)).then (on.same.widen (by decide)),
      fun i below => (reads _).trans (inside i below), fun a far => (reads a).trans (outside a far),
      fun sector offset r rest record queue => ?_, fun sector seq r rest head queue => ?_, fun config => ?_,
      on.waits.trans quiet, fun waits => ?_⟩
    · rw [record] at held
      have written : (recordWritten sector offset (operationEnded s)).rwr.queue = rest := by
        simp [recordWritten, rwr, queue]
      rw [programEnded_record held]
      refine ⟨by rw [takeNext_queue, written], takeNext_sector _, ?_, fun empty unset => ?_⟩
      · rw [takeNext_offset]
        simp [recordWritten, rwr, queue]
      · rw [takeNext_idle (by rw [← unset, ← rwr]; rfl) (written.trans empty)]
        exact ⟨rfl, free, over_.trans (by simp [Memory.finish, programs]), latch.trans (by simp [Memory.finish, programs])⟩
    · rw [head] at held
      rw [programEnded_head held]
      refine ⟨startOp_sector _ _, startOp_offset _ _, ?_, ?_, ?_⟩
      · rw [startOp_secSeq, rwr]
      · rw [startOp_queue, rwr]
      · let moved : State := { operationEnded s with rwr := { (operationEnded s).rwr with sector := sector, offset := 16 } }
        have queued : moved.rwr.queue = r :: rest := by rw [← queue, ← rwr]
        rw [(startOp_issues (s := moved) _ free).2.2.2.2.2, WriterOp.memOp, headRecordBytes_cons queued]
    · rw [config] at held
      rw [programEnded_config held, takeNext_keeps_config]
    · obtain ⟨contRead, cont, readout⟩ := exited waits
      exact ⟨on.contRead contRead, on.cont cont, fun r some => readout r (on.readout ▸ some)⟩
  · obtain ⟨on, queue⟩ := eraseEnded_goesOn held
    have finished : s.mem.finish.cells = cellsErase sector s.mem.cells := by simp [Memory.finish, erases]
    have reads (a : Nat) : (eraseEnded s).mem.get a = cellsGet a (cellsErase sector s.mem.cells) := by
      rw [← finished, ← cells, ← on.cells]; rfl
    refine ⟨_, exec_eraseComplete_of_busy run busy held writer,
      ((operationEnded_sameBut s).widen (by decide)).then (on.same.widen (by decide)),
      fun a inside => (reads a).trans (cellsGet_erase _ inside), fun a outside => (reads a).trans (cellsGet_erase_other _ outside),
      queue, on.waits.trans quiet, fun seq r rest log waiting => ?_, fun block config configured => ?_⟩
    · rw [log] at held
      rw [eraseEnded_log held]
      refine ⟨startOp_writer _ _, startOp_secSeq _ _, ?_⟩
      let moved : State := { operationEnded s with rwr := { (operationEnded s).rwr with secSeq := seq } }
      have stamp : headStamp moved = r.stamp.getD 0 := by simp [moved, headStamp, rwr, waiting]
      obtain ⟨addr, rating, _⟩ := operationEnded_sameBut s .straps (by decide)
      have head : sectorHeadBytes moved seq (r.stamp.getD 0) = sectorHeadBytes s seq (r.stamp.getD 0) := by
        simp only [moved, sectorHeadBytes, addr, rating]
      rw [(startOp_issues (s := moved) _ free).2.2.2.2.2, WriterOp.memOp, stamp, head]
    · rw [config] at held
      rw [eraseEnded_config held]
      refine ⟨startOp_writer _ _, ?_⟩
      rw [(startOp_issues _ free).2.2.2.2.2, WriterOp.memOp, rwr, configured]
      rfl

end Sys2Proof.Machine
end

/-! PROOFS. The readout (R168, R169): its chunks, its last frame, and the continuous-read exit. -/
section
namespace Sys2Proof.Machine

section
variable {s : State} {r : Readout}

/-! ### A LOG_DATA frame submitted (R52) -/

theorem enqueue_logData (listening : Bool) {f : Frame} {l : Lkc} (log : f.kind = .logData) (enabled : l.enabled = true)
    (free : l.queue.length ≤ 5) : l.enqueue listening f = (l.push f, .accepted) := by
  have room : ¬ l.free < 3 := by simp [Lkc.free]; omega
  simp [Lkc.enqueue, Lkc.push, enabled, Frame.acceptedListening, Frame.isStatus, log, room, show l.queue.length < 8 by omega]

theorem enqueue_logData_full (listening : Bool) {f : Frame} {l : Lkc} (log : f.kind = .logData) (full : 5 < l.queue.length) :
    l.enqueue listening f = (l, .refused) := by
  have none : l.free < 3 := by simp [Lkc.free]; omega
  unfold Lkc.enqueue
  split_ifs <;> simp_all [Frame.isStatus]

/-- The queue with a LOG_DATA frame at its end. -/
theorem submit_logData {f : Frame} (log : f.kind = .logData) (enabled : s.lkc.enabled = true) (free : s.lkc.queue.length ≤ 5) :
    submit f s = { s with lkc := s.lkc.push f } ∧ submitted f s = .accepted := by
  have taken := enqueue_logData s.ssc.station.listening log enabled free
  exact ⟨by simp [submit, submitted, taken], by rw [submitted, taken]⟩

theorem submit_logData_full {f : Frame} (log : f.kind = .logData) (full : 5 < s.lkc.queue.length) :
    submit f s = s ∧ submitted f s = .refused := by
  have refused := enqueue_logData_full s.ssc.station.listening log full
  exact ⟨by simp [submit, submitted, refused], by rw [submitted, refused]⟩

/-! ### A chunk (R168) -/

theorem memReadBytes_of_ready (ready : s.mem.op = none) (a len : Nat) : memReadBytes s a len = memBytes s.mem a len := by
  simp [memReadBytes, memBytes, memRead, ready]

/-- The LOG_DATA frame of a chunk. -/
def chunkFrame (r : Readout) (s : State) : Frame :=
  logDataFrame r.sector r.next (memReadBytes s (r.sector * 4096 + r.next) (min 24 r.remaining))

theorem exec_readoutChunk_of_held (run : s.phase = .run) (active : s.fpt.readout = some r) (left : 0 < r.remaining)
    (port : s.fpt.port = some .chunk) : exec .readoutChunk s = .next (readChunk r s) := by
  have dispatched : exec .readoutChunk s = execReadoutChunk s := rfl
  rw [dispatched, execReadoutChunk, running_run run]
  simp only [active]
  rw [if_pos ⟨left, .inl port⟩]

theorem readChunk_eq (r : Readout) (s : State) : readChunk r s = releasePort { submit (chunkFrame r s) s with
    freeCount := if s.mem.op.isSome then s.freeCount + 1 else s.freeCount
    mem := { s.mem with cont := true }
    fpt := { s.fpt with
      contRead := true
      readout :=
        if submitted (chunkFrame r s) s = .accepted then
          some { r with next := r.next + min 24 r.remaining, remaining := r.remaining - min 24 r.remaining }
        else some r } } := rfl

/-- FPT and the memory as a chunk leaves them: the port free, the memory in continuous-read mode unless an exit has waited. -/
theorem releasePort_chunk (open_ : ∀ x, s.fpt.readout = some x → x.ended = false) (mode : s.mem.cont = true)
    (read : s.fpt.contRead = true) :
    (releasePort s).mem = { s.mem with cont := !s.fpt.exitWaits } ∧ (releasePort s).fpt.port = none ∧
      (releasePort s).fpt.contRead = !s.fpt.exitWaits ∧ (releasePort s).fpt.exitWaits = false ∧
      (releasePort s).fpt.readout = s.fpt.readout := by
  cases waits : s.fpt.exitWaits with
  | false =>
    rw [releasePort_quiet waits]
    exact ⟨by rw [Bool.not_false, ← mode], rfl, read, waits, rfl⟩
  | true =>
    rw [releasePort_exit waits]
    refine ⟨rfl, rfl, rfl, rfl, ?_⟩
    cases held : s.fpt.readout with
    | none => simp [exitMade, held]
    | some x => simp [exitMade, held, Option.filter, open_ x held]

theorem releasePort_sameBut (s : State) : sameBut [.fpt, .mem] s (releasePort s) := by
  intro part other
  cases part with
  | fpt => simp at other
  | mem => simp at other
  | _ => simp [Part.same]

/-- A chunk read. -/
theorem readChunk_moves (enabled : s.lkc.enabled = true) (ready : s.mem.op = none) (open_ : r.ended = false) :
    sameBut [.lkc, .fpt, .mem] s (readChunk r s) ∧ (readChunk r s).mem = { s.mem with cont := !s.fpt.exitWaits } ∧
      (readChunk r s).fpt.port = none ∧ (readChunk r s).fpt.contRead = !s.fpt.exitWaits ∧
      (readChunk r s).fpt.exitWaits = false ∧
      (s.lkc.queue.length ≤ 5 →
        (readChunk r s).fpt.readout =
            some { r with next := r.next + min 24 r.remaining, remaining := r.remaining - min 24 r.remaining } ∧
          (readChunk r s).lkc = s.lkc.push (chunkFrame r s)) ∧
      (5 < s.lkc.queue.length → (readChunk r s).fpt.readout = some r ∧ (readChunk r s).lkc = s.lkc) := by
  have log : (chunkFrame r s).kind = .logData := rfl
  rw [readChunk_eq]
  rcases Nat.lt_or_ge 5 s.lkc.queue.length with full | free
  · obtain ⟨same, refused⟩ := submit_logData_full log full
    rw [same, refused, ready]
    let read : State := { s with mem := { s.mem with cont := true }, fpt := { s.fpt with contRead := true, readout := some r } }
    have kept : sameBut [.fpt, .mem] s read := by
      intro part other
      cases part with
      | fpt => simp at other
      | mem => simp at other
      | _ => simp [Part.same, read]
    obtain ⟨mem, port, contRead, waits, readout⟩ := releasePort_chunk (s := read)
      (fun x held => by obtain rfl : r = x := Option.some.inj held; exact open_) rfl rfl
    exact ⟨(kept.widen (by decide)).then ((releasePort_sameBut read).widen (by decide)), mem, port, contRead, waits,
      fun small => absurd small (by omega), fun _ => ⟨readout, rfl⟩⟩
  · obtain ⟨pushed, accepted⟩ := submit_logData log enabled free
    rw [pushed, accepted, ready]
    let read : State := { s with
      lkc := s.lkc.push (chunkFrame r s)
      mem := { s.mem with cont := true }
      fpt := { s.fpt with
        contRead := true
        readout := some { r with next := r.next + min 24 r.remaining, remaining := r.remaining - min 24 r.remaining } } }
    have kept : sameBut [.lkc, .fpt, .mem] s read := by
      intro part other
      cases part with
      | lkc => simp at other
      | fpt => simp at other
      | mem => simp at other
      | _ => simp [Part.same, read]
    obtain ⟨mem, port, contRead, waits, readout⟩ := releasePort_chunk (s := read)
      (fun x held => by rw [← Option.some.inj held]; exact open_) rfl rfl
    exact ⟨kept.then ((releasePort_sameBut read).widen (by decide)), mem, port, contRead, waits,
      fun _ => ⟨readout, rfl⟩, fun full => absurd full (by omega)⟩

/-! ### The last frame (R168, R169) -/

theorem exec_readoutEndFrame_of_done (run : s.phase = .run) (active : s.fpt.readout = some r) (done : r.remaining = 0)
    (open_ : r.ended = false) (free : s.lkc.queue.length ≤ 5) : exec .readoutEndFrame s = .next (endReadout r s) := by
  have dispatched : exec .readoutEndFrame s = execReadoutEndFrame s := rfl
  rw [dispatched, execReadoutEndFrame, running_run run]
  simp only [active]
  rw [if_pos ⟨done, open_, by simp [Lkc.free]; omega⟩]

/-- The readout whose last frame has been submitted. -/
def lastSent (r : Readout) (s : State) : State :=
  { s with
    lkc := s.lkc.push (logDataFrame r.sector r.next [])
    fpt := { s.fpt with readout := some { r with ended := true } } }

theorem endReadout_of_free (enabled : s.lkc.enabled = true) (free : s.lkc.queue.length ≤ 5) :
    endReadout r s = requestExit (lastSent r s) := by
  obtain ⟨pushed, accepted⟩ := submit_logData (s := s) (f := logDataFrame r.sector r.next []) rfl enabled free
  have sent : endReadout r s = requestExit { submit (logDataFrame r.sector r.next []) s with
      fpt := { s.fpt with readout := some { r with ended := true } } } := if_pos accepted
  rw [sent, pushed]
  rfl

theorem endReadout_sameBut (enabled : s.lkc.enabled = true) (free : s.lkc.queue.length ≤ 5) :
    sameBut [.lkc, .fpt, .mem] s (endReadout r s) := by
  rw [endReadout_of_free enabled free]
  intro part other
  cases part with
  | lkc => simp at other
  | fpt => simp at other
  | mem => simp at other
  | _ => simp [Part.same, lastSent]

end

/-- Settles O57: a chunk and the last frame of a readout. -/
theorem readoutSendsChunks : Obligations.ReadoutSendsChunks := by
  intro s r run enabled active open_
  refine ⟨fun left ready port => ?_, fun done free => ?_⟩
  · obtain ⟨kept, mem, unused, contRead, waits, sent, refused⟩ := readChunk_moves (r := r) enabled ready open_
    refine ⟨_, exec_readoutChunk_of_held run active left port, kept, mem, unused, contRead, waits, fun free => ?_, refused⟩
    obtain ⟨readout, lkc⟩ := sent free
    refine ⟨readout, ?_⟩
    rw [lkc, chunkFrame, memReadBytes_of_ready ready]
    rfl
  · refine ⟨_, exec_readoutEndFrame_of_done run active done open_ free, endReadout_sameBut enabled free, ?_, ?_, ?_⟩
    · rw [endReadout_of_free enabled free, requestExit_lkc, lastSent, logDataFrame, List.append_nil, Lkc.push]
    · intro none
      rw [endReadout_of_free enabled free, requestExit_free (s := lastSent r s) none]
      exact ⟨rfl, rfl⟩
    · intro taken
      rw [endReadout_of_free enabled free, requestExit_held (s := lastSent r s) taken]
      exact ⟨rfl, rfl⟩

end Sys2Proof.Machine
end

/-! PROOFS. What a trip leaves of each block (R174 to R176). -/
section
namespace Sys2Proof.Machine

section
variable {s : State} {c : Condition}

/-! ### The readout ended early (R171) -/

theorem readoutCut_readout (s : State) : (readoutCut s).fpt.readout = none := by
  cases active : s.fpt.readout with
  | none => rw [readoutCut_inactive active, active]
  | some r =>
    by_cases free : s.fpt.port = none ∨ s.fpt.port = some .chunk
    · rcases free with free | chunk
      · simp [readoutCut, active, requestExit, exitMade, free]
      · simp [readoutCut, active, requestExit, exitMade, chunk]
    · have taken := not_or.mp free
      simp [readoutCut, active, requestExit, exitMade, taken.1, taken.2]

theorem readoutCut_cells (s : State) : (readoutCut s).mem.cells = s.mem.cells ∧ (readoutCut s).mem.op = s.mem.op := by
  simp only [readoutCut, requestExit, exitMade]
  repeat' split
  all_goals exact ⟨rfl, rfl⟩

theorem readoutCut_port (other : s.fpt.port ≠ some .writer) : (readoutCut s).fpt.port ≠ some .writer := by
  simp only [readoutCut, requestExit, exitMade]
  repeat' split
  all_goals simp_all

/-- On the free port a readout that is ended leaves no exit waiting and the memory out of continuous-read mode. -/
theorem readoutCut_exit (free : s.fpt.port = none) (made : s.fpt.exitWaits = false) (mode : s.mem.cont = false) :
    (readoutCut s).fpt.exitWaits = false ∧ (readoutCut s).mem.cont = false := by
  cases active : s.fpt.readout with
  | none => rw [readoutCut_inactive active]; exact ⟨made, mode⟩
  | some r => simp [readoutCut, active, requestExit, exitMade, free]

/-! ### TRIPPED entered (R174) -/

theorem enterTripped_sameBut (s : State) :
    sameBut [.btr, .rfg, .mod, .lkc, .pvw, .shc, .ssc, .syn, .hoc, .emt, .fpt, .mem] s (enterTripped s) := by
  intro part other
  cases part with
  | btr => simp at other
  | rfg => simp at other
  | mod => simp at other
  | lkc => simp at other
  | pvw => simp at other
  | shc => simp at other
  | ssc => simp at other
  | syn => simp at other
  | hoc => simp at other
  | emt => simp at other
  | fpt => simp at other
  | mem => simp at other
  | _ => simp [Part.same, enterTripped]

theorem enterTripped_blocks (s : State) :
    (enterTripped s).rfg = (gatesOff s).rfg ∧ (enterTripped s).shc = s.shc.moved s.ssc.station .tripped ∧
      (enterTripped s).hoc = s.hoc.moved s.ssc.station .tripped ∧
      (enterTripped s).btr = { s.btr with oob := none, oobDone := false } := by
  refine ⟨?_, ?_, ?_, ?_⟩
  · simp [enterTripped]
  · simp [enterTripped, moveTo]
  · simp [enterTripped, moveTo]
  · simp [enterTripped, settled, judgeBand, clearClosed, moveTo, StationState.onBus, StationState.shipConnected]

theorem enterTripped_emt_of_open (opened : sessionOpen s = true) :
    (enterTripped s).emt = s.emt.map fun m => { m with trips := min 255 (m.trips + 1) } := by
  have kept := (clearClosed_of_open (s := moveTo .tripped (commandContactor false (gatesOff s))) opened).2
  simp only [enterTripped, settled_emt, kept]
  rfl

/-! ### The trip, block by block -/

/-- The station in TRIPPED before the notice and the record of the trip. -/
def standsTripped (r : FirstCause) (s : State) : State :=
  announcing enterTripped { s with pru := { s.pru with first := some r } }

theorem standsTripped_eq (r : FirstCause) (s : State) :
    standsTripped r s = announce { s with pru := { s.pru with first := some r } }
      (enterTripped { s with pru := { s.pru with first := some r } }) := rfl

theorem tripWith_eq (r : FirstCause) (s : State) :
    tripWith r s = submitRecord (tripRecord r (sessionId s) (standsTripped r s)) (sessionId s)
      (submit (tripNoticeFrame r) (standsTripped r s)) := rfl

theorem standsTripped_sameBut (r : FirstCause) (s : State) :
    sameBut [.btr, .rfg, .mod, .lkc, .pvw, .shc, .ssc, .syn, .hoc, .emt, .fpt, .mem, .pru] s (standsTripped r s) := by
  have named : sameBut [.pru] s { s with pru := { s.pru with first := some r } } := by
    intro part other
    cases part with
    | pru => simp at other
    | _ => simp [Part.same]
  rw [standsTripped_eq]
  exact ((named.widen (by decide)).then ((enterTripped_sameBut _).widen (by decide))).then
    ((announce_sameBut _ _).widen (by decide))

theorem tripNotified_sameBut (r : FirstCause) (s : State) :
    sameBut [.btr, .rfg, .mod, .lkc, .pvw, .shc, .ssc, .syn, .hoc, .emt, .fpt, .mem, .pru] s
      (submit (tripNoticeFrame r) (standsTripped r s)) :=
  (standsTripped_sameBut r s).then ((submit_sameBut _ _).widen (by decide))

theorem tripWith_sameBut (r : FirstCause) (s : State) :
    sameBut [.btr, .rfg, .mod, .lkc, .pvw, .shc, .ssc, .syn, .hoc, .emt, .rwr, .fpt, .mem, .pru] s (tripWith r s) := by
  rw [tripWith_eq]
  exact ((tripNotified_sameBut r s).widen (by decide)).then ((submitRecord_sameBut _ _ _).widen (by decide))

theorem tripWith_store (r : FirstCause) (s : State) :
    (tripWith r s).fpt = (readoutCut s).fpt ∧ (tripWith r s).mem = (readoutCut s).mem := by
  refine ⟨?_, ?_⟩
  · rw [tripWith_eq, submitRecord_fpt, submit_fpt, standsTripped_eq, announce_fpt, enterTripped_fpt]
    rfl
  · rw [tripWith_eq, submitRecord_mem, submit_mem, standsTripped_eq, announce_mem, enterTripped_mem]
    rfl

theorem tripWith_blocks (r : FirstCause) (s : State) :
    (tripWith r s).rfg = (gatesOff s).rfg ∧ (tripWith r s).shc = s.shc.moved s.ssc.station .tripped ∧
      (tripWith r s).hoc = s.hoc.moved s.ssc.station .tripped ∧
      (tripWith r s).btr = { s.btr with oob := none, oobDone := false } := by
  have blocks := enterTripped_blocks { s with pru := { s.pru with first := some r } }
  have kept : sameBut [.lkc, .pvw, .pru, .emt, .rwr] (enterTripped { s with pru := { s.pru with first := some r } })
      (tripWith r s) := by
    rw [tripWith_eq, standsTripped_eq]
    exact (((announce_sameBut _ _).widen (by decide)).then ((submit_sameBut _ _).widen (by decide))).then
      ((submitRecord_sameBut _ _ _).widen (by decide))
  rw [kept .rfg (by decide), kept .shc (by decide), kept .hoc (by decide), kept .btr (by decide)]
  exact blocks

/-- A trip leaves the record writer as it is, but for the TRIP record at the end of its queue and the stamps counted. -/
theorem submitRecord_appends (r : LogRecord) (id : Option SessionId) (s : State) :
    ∃ (n : Nat) (behind : List QueuedRecord),
      (submitRecord r id s).rwr = { s.rwr with recSeq := n, queue := s.rwr.queue ++ behind } := by
  rcases Nat.lt_or_ge s.rwr.queue.length 16 with room | full
  · exact ⟨(submitRecord r id s).rwr.recSeq, [queued r id s], by simp [submitRecord, room, queued]⟩
  · exact ⟨(submitRecord r id s).rwr.recSeq, [], by simp [submitRecord, show ¬ s.rwr.queue.length < 16 by omega]⟩

theorem tripWith_rwr (r : FirstCause) (s : State) :
    ∃ (n : Nat) (behind : List QueuedRecord), (tripWith r s).rwr = { s.rwr with recSeq := n, queue := s.rwr.queue ++ behind } := by
  rw [tripWith_eq, ← tripNotified_sameBut r s .rwr (by decide)]
  exact submitRecord_appends _ _ _

theorem tripWith_queue_of_room (r : FirstCause) (room : s.rwr.queue.length < 16) :
    ∃ q : QueuedRecord, (tripWith r s).rwr.queue = s.rwr.queue ++ [q] ∧ (q.record.kind, q.session) = (.trip, sessionId s) := by
  have rwr := tripNotified_sameBut r s .rwr (by decide)
  refine ⟨queued (tripRecord r (sessionId s) (standsTripped r s)) (sessionId s)
    (submit (tripNoticeFrame r) (standsTripped r s)), ?_, rfl⟩
  rw [tripWith_eq, submitRecord_queue_of_room _ _ (by rw [rwr]; exact room), rwr]

theorem tripWith_session (r : FirstCause) (opened : sessionOpen s = true) : (tripWith r s).ssc.session = s.ssc.session := by
  have kept := (clearClosed_of_open (s := s) opened).1
  rw [tripWith_eq, submitRecord_ssc, submit_ssc, standsTripped_eq, announce_ssc, enterTripped_session]
  exact kept

/-- With room for its record a trip counts itself in the meter of an OPEN session (R154). -/
theorem tripWith_emt (r : FirstCause) (opened : sessionOpen s = true) (room : s.rwr.queue.length < 16) :
    (tripWith r s).emt = s.emt.map fun m => { m with trips := min 255 (m.trips + 1) } := by
  have rwr := tripNotified_sameBut r s .rwr (by decide)
  have entered := enterTripped_emt_of_open (s := { s with pru := { s.pru with first := some r } }) opened
  have queue : (submit (tripNoticeFrame r) (standsTripped r s)).rwr.queue.length < 16 := by rw [rwr]; exact room
  rw [tripWith_eq, submitRecord_of_room _ _ queue, submit_emt, standsTripped_eq, announce_emt, entered]

/-! ### The TRIP_NOTICE (R174) -/

theorem enterTripped_queue_length (s : State) : (enterTripped s).lkc.queue.length ≤ s.lkc.queue.length := by
  rw [enterTripped_lkc]
  split
  · exact List.length_filter_le _ _
  · exact Nat.le_refl _

theorem enterTripped_enabled (s : State) : (enterTripped s).lkc.enabled = s.lkc.enabled := by
  rw [enterTripped_lkc]
  split <;> rfl

/-- Out of listening mode a frame that is no status broadcast and no LOG_DATA is queued where there is room. -/
theorem enqueue_plain {f : Frame} {l : Lkc} (plain : f.isStatus = false) (other : f.kind ≠ .logData) (enabled : l.enabled = true)
    (room : l.queue.length < 8) : l.enqueue false f = (l.push f, .accepted) := by
  simp [Lkc.enqueue, Lkc.push, enabled, plain, other, room]

theorem tripWith_notice (r : FirstCause) (enabled : s.lkc.enabled = true) (room : s.lkc.queue.length ≤ 6) :
    tripNoticeFrame r ∈ (tripWith r s).lkc.queue.map (·.frame) := by
  let named : State := { s with pru := { s.pru with first := some r } }
  have queue : (standsTripped r s).lkc.queue.length < 8 :=
    Nat.lt_of_le_of_lt (announce_queue_length _ _) (by
      have entered : (enterTripped named).lkc.queue.length ≤ s.lkc.queue.length := enterTripped_queue_length named
      show (enterTripped named).lkc.queue.length + 1 < 8
      omega)
  have on : (standsTripped r s).lkc.enabled = true :=
    (announce_enabled _ _).trans ((enterTripped_enabled named).trans enabled)
  have station : (standsTripped r s).ssc.station.listening = false := by
    rw [standsTripped_eq, announce_ssc, enterTripped_station]
    rfl
  have pushed := enqueue_plain (f := tripNoticeFrame r) (l := (standsTripped r s).lkc) rfl (fun log => FrameKind.noConfusion log) on queue
  rw [tripWith_eq, submitRecord_lkc, submit, station, pushed]
  simp [Lkc.push]

end

end Sys2Proof.Machine
end

/-! PROOFS. Faults of the writer and what a warm reset leaves in flight (R163 to R167). -/
section
namespace Sys2Proof.Machine

section
variable {s : State} {c : Condition}

/-! ### What a report leaves of the record writer -/

/-- The record writer with records at the end of its queue. -/
def RwrGrows (r t : Rwr) : Prop := ∃ (n : Nat) (behind : List QueuedRecord), t = { r with recSeq := n, queue := r.queue ++ behind }

theorem RwrGrows.refl (r : Rwr) : RwrGrows r r := ⟨r.recSeq, [], by simp⟩

theorem RwrGrows.take {r t : Rwr} (grows : RwrGrows r t) : t.queue.take r.queue.length = r.queue := by
  obtain ⟨n, behind, rfl⟩ := grows
  exact List.take_left' rfl

theorem RwrGrows.trans {r t u : Rwr} (first : RwrGrows r t) (second : RwrGrows t u) : RwrGrows r u := by
  obtain ⟨n, behind, rfl⟩ := first
  obtain ⟨m, more, rfl⟩ := second
  exact ⟨m, behind ++ more, by simp⟩

theorem raise_rwr (c : Condition) (s : State) : RwrGrows s.rwr (raise c s).rwr := by
  rcases raise_cases c s with same | ⟨-, -, -, same⟩ <;> rw [same]
  · exact RwrGrows.refl _
  · exact tripWith_rwr _ _

theorem raise_store (c : Condition) (s : State) :
    ((raise c s).fpt = s.fpt ∧ (raise c s).mem = s.mem) ∨
      (raise c s).fpt = (readoutCut s).fpt ∧ (raise c s).mem = (readoutCut s).mem := by
  rcases raise_cases c s with same | ⟨-, -, -, same⟩ <;> rw [same]
  · exact .inl ⟨rfl, rfl⟩
  · exact .inr (tripWith_store _ _)

theorem raise_cells (c : Condition) (s : State) :
    (raise c s).mem.cells = s.mem.cells ∧ (raise c s).mem.op = s.mem.op := by
  rcases raise_store c s with ⟨-, mem⟩ | ⟨-, mem⟩ <;> rw [mem]
  · exact ⟨rfl, rfl⟩
  · exact readoutCut_cells s

theorem raise_port (other : s.fpt.port ≠ some .writer) : (raise c s).fpt.port ≠ some .writer := by
  rcases raise_store c s with ⟨fpt, -⟩ | ⟨fpt, -⟩ <;> rw [fpt]
  · exact other
  · exact readoutCut_port other

theorem raise_exit (free : s.fpt.port = none) (made : s.fpt.exitWaits = false) (mode : s.mem.cont = false) :
    (raise c s).mem.cont = false ∧ (raise c s).fpt.exitWaits = false := by
  rcases raise_store c s with ⟨fpt, mem⟩ | ⟨fpt, mem⟩ <;> rw [fpt, mem]
  · exact ⟨mode, made⟩
  · exact (readoutCut_exit free made mode).symm

theorem raise_params (c : Condition) (s : State) : (raise c s).params = s.params := by
  rcases raise_cases c s with same | ⟨-, -, -, same⟩ <;> rw [same]
  · rfl
  · exact tripWith_params _ _

theorem raise_keeps_held {x : Condition} (held : x ∈ s.pru.held) : x ∈ (raise c s).pru.held := by
  rcases raise_cases c s with same | ⟨-, -, -, same⟩ <;> rw [same]
  · exact (held_hold c x s).mpr (.inr held)
  · exact tripWith_held _ ((held_hold c x s).mpr (.inr held))

/-! ### The end of the start work (R85) -/

theorem endStarting_elsewhere (away : s.ssc.station ≠ .starting) : endStarting s = s := if_neg away

theorem endStarting_standby (starting : s.ssc.station = .starting) (none : waitingCause .starting s = none) :
    endStarting s = { enterStandby s with pru := { (enterStandby s).pru with waiting := [] } } := by
  simp only [endStarting, starting, if_true, none]

theorem endStarting_tripped {r : FirstCause} (starting : s.ssc.station = .starting) (cause : waitingCause .starting s = some r) :
    endStarting s = { tripWith r s with pru := { (tripWith r s).pru with waiting := [] } } := by
  simp only [endStarting, starting, if_true, cause]

theorem waitingCause_isSome_iff (state : StationState) (s : State) :
    (waitingCause state s).isSome = true ↔ ∃ x, (x ∈ s.pru.waiting ∨ x ∈ s.pru.held) ∧ tripClass s.params x = true := by
  unfold waitingCause
  cases found : (s.pru.waiting ++ s.pru.held).find? (tripClass s.params) with
  | none =>
    rw [List.find?_eq_none] at found
    simp only [Option.isSome_none, Bool.false_eq_true, false_iff, not_exists, not_and]
    exact fun x member => found x (List.mem_append.mpr member)
  | some x => simpa using ⟨x, List.mem_append.mp (List.mem_of_find?_eq_some found), by simpa using List.find?_some found⟩

theorem waitingCause_none (standing : tripHeld s = false) (quiet : s.pru.waiting.any (tripClass s.params) = false)
    (state : StationState) : waitingCause state s = none := by
  rw [← Option.not_isSome_iff_eq_none, waitingCause_isSome_iff]
  rintro ⟨x, waits | held, cls⟩
  · exact List.any_eq_false.mp quiet x waits cls
  · exact List.any_eq_false.mp standing x held cls

theorem enterStandby_keeps_held {x : Condition} (held : x ∈ s.pru.held) : x ∈ (enterStandby s).pru.held := by
  rw [enterStandby_pru]
  unfold standbyStatus
  split
  · rcases submit_pru_cases (statusFrame (moveTo .standby (clearClosed s))) (moveTo .standby (clearClosed s)) with same | grown
    · rw [same]; exact held
    · rw [grown]; exact (held_hold _ _ _).mpr (.inr held)
  · exact held

/-- What the end of the start work keeps: the clock, the parameters, what is held, and RWR but for records at its end. -/
theorem endStarting_keeps (s : State) :
    (endStarting s).now = s.now ∧ (endStarting s).params = s.params ∧ RwrGrows s.rwr (endStarting s).rwr ∧
      ∀ x ∈ s.pru.held, x ∈ (endStarting s).pru.held := by
  rcases ne_or_eq s.ssc.station .starting with away | starting
  · rw [endStarting_elsewhere away]
    exact ⟨rfl, rfl, RwrGrows.refl _, fun _ held => held⟩
  cases cause : waitingCause .starting s with
  | none =>
    have kept := enterStandby_sameBut s
    rw [endStarting_standby starting cause]
    refine ⟨kept .clock (by decide), kept .params (by decide), ?_, fun x held => enterStandby_keeps_held held⟩
    show RwrGrows s.rwr (enterStandby s).rwr
    rw [show (enterStandby s).rwr = s.rwr from kept .rwr (by decide)]
    exact RwrGrows.refl _
  | some r =>
    rw [endStarting_tripped starting cause]
    exact ⟨tripWith_now r s, tripWith_params r s, tripWith_rwr r s, fun x held => tripWith_held r held⟩

theorem endStarting_station_standby (starting : s.ssc.station = .starting) (none : waitingCause .starting s = none) :
    (endStarting s).ssc.station = .standby := by
  rw [endStarting_standby starting none]
  exact enterStandby_station s

theorem endStarting_station_tripped {x : Condition} (starting : s.ssc.station = .starting) (held : x ∈ s.pru.held)
    (cls : tripClass s.params x = true) : (endStarting s).ssc.station = .tripped := by
  obtain ⟨r, cause⟩ := Option.isSome_iff_exists.mp ((waitingCause_isSome_iff .starting s).mpr ⟨x, .inr held, cls⟩)
  rw [endStarting_tripped starting cause]
  exact tripWith_station r s

/-! ### The writer FAULTED (R163 to R165) -/

/-- The writer with a failed position, its status reads begun. -/
def faulted (op : Option WriterOp) (s : State) : State :=
  { s with rwr := { s.rwr with writer := .faulted, op := op, busy := none, faultBusy := true, statusTick := some s.now } }

theorem faulted_sameBut (op : Option WriterOp) (s : State) : sameBut [.rwr] s (faulted op s) := by
  intro part other
  cases part with
  | rwr => simp at other
  | _ => simp [Part.same, faulted]

theorem writerFaults_rwr (op : Option WriterOp) (s : State) : RwrGrows (faulted op s).rwr (writerFaults op s).rwr :=
  raise_rwr .recordStoreFault (faulted op s)

theorem writerFaults_now (op : Option WriterOp) (s : State) : (writerFaults op s).now = s.now :=
  raise_now .recordStoreFault (faulted op s)

theorem writerFaults_held (op : Option WriterOp) (s : State) : .recordStoreFault ∈ (writerFaults op s).pru.held :=
  mem_held_raise .recordStoreFault (faulted op s)

/-- As an alarm, or where no trip can be decided, the fault moves RWR and the held set alone. -/
theorem writerFaults_quiet (op : Option WriterOp)
    (quiet : s.params.tripStore = false ∨ canTrip s = false ∨ .recordStoreFault ∈ s.pru.held) :
    writerFaults op s = hold .recordStoreFault (faulted op s) := by
  refine raise_quiet (s := faulted op s) ?_
  rcases quiet with alarm | standing | held
  · exact .inr (.inl alarm)
  · exact .inr (.inr standing)
  · exact .inl held

theorem writerFaults_quiet_sameBut (op : Option WriterOp)
    (quiet : s.params.tripStore = false ∨ canTrip s = false ∨ .recordStoreFault ∈ s.pru.held) :
    sameBut [.rwr, .pru] s (writerFaults op s) := by
  rw [writerFaults_quiet op quiet]
  exact ((faulted_sameBut op s).widen (by decide)).then ((hold_sameBut _ _).widen (by decide))

theorem writerFaults_trips (op : Option WriterOp) (cls : s.params.tripStore = true) (can : canTrip s = true)
    (fresh : .recordStoreFault ∉ s.pru.held) :
    (writerFaults op s).ssc.station = .tripped ∧ (writerFaults op s).mod.gate = .gatesOff ∧
      (writerFaults op s).syn.cmdClosed = false ∧ FirstNames .recordStoreFault s.ssc.station (writerFaults op s).pru :=
  raise_trips (s := faulted op s) fresh cls can

/-! ### The start work unfinished (R165) -/

/-- The start work stopped. -/
def startEnded (s : State) : State := { s with rwr := { s.rwr with start := .none, startTimer := none } }

theorem startWorkFails_keeps (s : State) :
    (startWorkFails s).now = s.now ∧ (startWorkFails s).params = s.params ∧
      RwrGrows { s.rwr with start := .none, startTimer := none } (startWorkFails s).rwr ∧
      ∀ x ∈ s.pru.held, x ∈ (startWorkFails s).pru.held :=
  endStarting_keeps (startEnded s)

/-- The start work that fails with no trip-class condition held or waiting ends in STANDBY. -/
theorem startWorkFails_standby (op : Option WriterOp) (starting : s.ssc.station = .starting) (alarm : s.params.tripStore = false)
    (standing : tripHeld s = false) (quiet : s.pru.waiting.any (tripClass s.params) = false) :
    (startWorkFails (writerFaults op s)).ssc.station = .standby := by
  have held := writerFaults_quiet (s := s) op (.inl alarm)
  have kept := writerFaults_quiet_sameBut (s := s) op (.inl alarm)
  have params : (writerFaults op s).params = s.params := kept .params (by decide)
  have cls : tripClass s.params .recordStoreFault = false := alarm
  refine endStarting_station_standby (s := startEnded (writerFaults op s)) ((congrArg Ssc.station (kept .ssc (by decide))).trans starting) ?_
  refine waitingCause_none (List.any_eq_false.mpr fun x member => ?_) (List.any_eq_false.mpr fun x member => ?_) _
  · replace member : x ∈ (hold .recordStoreFault (faulted op s)).pru.held := by rw [← held]; exact member
    rw [show tripClass (startEnded (writerFaults op s)).params x = tripClass s.params x from congrArg (tripClass · x) params]
    rcases (held_hold _ _ _).mp member with rfl | was
    · simp [cls]
    · exact List.any_eq_false.mp standing x was
  · replace member : x ∈ (hold .recordStoreFault (faulted op s)).pru.waiting := by rw [← held]; exact member
    rw [show tripClass (startEnded (writerFaults op s)).params x = tripClass s.params x from congrArg (tripClass · x) params]
    have among : x ∈ s.pru.waiting ∨ x = .recordStoreFault := by
      simp only [hold, Pru.hold] at member
      split at member
      · exact .inl member
      · split at member
        · simpa [faulted] using member
        · exact .inl member
    rcases among with was | rfl
    · exact List.any_eq_false.mp quiet x was
    · simp [cls]

theorem startWorkFails_tripped (op : Option WriterOp) (starting : s.ssc.station = .starting) (cls : s.params.tripStore = true) :
    (startWorkFails (writerFaults op s)).ssc.station = .tripped := by
  have standing : canTrip s = false := by simp [canTrip, starting]
  have kept := writerFaults_quiet_sameBut (s := s) op (.inr (.inl standing))
  refine endStarting_station_tripped (s := startEnded (writerFaults op s)) ((congrArg Ssc.station (kept .ssc (by decide))).trans starting) (writerFaults_held op s) ?_
  exact (congrArg (tripClass · .recordStoreFault) (kept .params (by decide))).trans cls

end

end Sys2Proof.Machine
end

/-! PROOFS. The writer's busy timeouts, its status reads, and the settling of what a warm reset cut off (R163, R164, R167). -/
section
namespace Sys2Proof.Machine

section
variable {s : State}

/-! ### The busy timeout (R163) -/

theorem exec_busyTimeout_of_busy {start : Nat} {op : WriterOp} (run : s.phase = .run) (busy : s.rwr.busy = some start)
    (held : s.rwr.op = some op) (works : s.rwr.writer = .programming ∨ s.rwr.writer = .erasing) :
    exec .busyTimeout s = .next (busyExpired (catchUp start (if s.rwr.writer = .erasing then 4000 else 40) s)) := by
  have dispatched : exec .busyTimeout s = execBusyTimeout s := rfl
  have acts : (writerBusyWith .programming s || writerBusyWith .erasing s) = true := by
    rcases works with writer | writer <;> simp [writerBusyWith, busy, held, writer]
  rw [dispatched, execBusyTimeout, running_run run, if_pos acts]
  simp only [onExpiry, busy, busyLimit]

theorem busyExpired_of_log (away : s.rwr.start ≠ .format) : busyExpired s = writerFaults s.rwr.op (freePort s) := if_neg away

theorem freePort_store (s : State) :
    sameBut [.fpt, .mem] s (freePort s) ∧ (freePort s).mem.cells = s.mem.cells ∧ (freePort s).mem.op = s.mem.op ∧
      (freePort s).fpt.port ≠ some .writer ∧ (s.fpt.exitWaits = false → (freePort s).mem = s.mem) := by
  by_cases held : s.fpt.port = some .writer
  · have released : freePort s = releasePort s := if_pos held
    rw [released]
    refine ⟨releasePort_sameBut s, ?_, ?_, ?_, fun quiet => ?_⟩
    · simp only [releasePort, exitMade]; split <;> rfl
    · simp only [releasePort, exitMade]; split <;> rfl
    · simp [releasePort]
    · rw [releasePort_quiet quiet]
  · have stands : freePort s = s := if_neg held
    rw [stands]
    exact ⟨fun part _ => by cases part <;> simp [Part.same], rfl, rfl, held, fun _ => rfl⟩

/-- An exit that waited for the writer's port is made as it comes free (R170). -/
theorem freePort_exit (held : s.fpt.port = some .writer) (waits : s.fpt.exitWaits = true) :
    (freePort s).fpt.port = none ∧ (freePort s).fpt.exitWaits = false ∧ (freePort s).mem.cont = false := by
  have released : freePort s = releasePort s := if_pos held
  rw [released, releasePort_exit waits]
  exact ⟨rfl, rfl, rfl⟩

theorem timedOut_before (start limit : Nat) (s : State) :
    sameBut [.clock, .fpt, .mem] s (freePort (catchUp start limit s)) :=
  ((catchUp_near start limit s).widen (by decide)).then ((freePort_store _).1.widen (by decide))

theorem canTrip_of_same {t : State} (same : sameBut [.clock, .fpt, .mem] s t) : canTrip t = canTrip s := by
  rw [canTrip, canTrip, same .phase (by decide), same .ssc (by decide)]

/-! ### The status read of a FAULTED writer (R164) -/

theorem exec_faultedStatusRead_of_faulted {start : Nat} (busy : Bool) (run : s.phase = .run) (writer : s.rwr.writer = .faulted)
    (port : s.fpt.port ≠ some .chunk) (tick : s.rwr.statusTick = some start) :
    exec (.faultedStatusRead busy) s = .next (statusRead busy (catchUp start 800 s)) := by
  have dispatched : exec (.faultedStatusRead busy) s = execFaultedStatusRead busy s := rfl
  rw [dispatched, execFaultedStatusRead, running_run run, if_pos ⟨writer, port⟩]
  simp only [onExpiry, tick]

theorem statusRead_sameBut (busy : Bool) (s : State) : sameBut [.rwr, .mem] s (statusRead busy s) := by
  intro part other
  cases part with
  | rwr => simp at other
  | mem => simp at other
  | _ => simp [Part.same, statusRead]

theorem statusRead_mem_of_busy (s : State) : (statusRead true s).mem = s.mem := by
  cases op : s.mem.op with
  | none => simp [statusRead, op, Memory.finish]
  | some _ => simp [statusRead, op]

/-! ### The busy wait after a warm reset (R167) -/

theorem exec_warmResetBusyTimeout_of_busy {start : Nat} (run : s.phase = .run) (settling : s.rwr.settling = true)
    (busy : s.mem.op.isSome = true) (timer : s.rwr.startTimer = some start) :
    exec .warmResetBusyTimeout s = .next (settleTimedOut (catchUp start 4000 s)) := by
  have dispatched : exec .warmResetBusyTimeout s = execWarmResetBusyTimeout s := rfl
  rw [dispatched, execWarmResetBusyTimeout, running_run run, if_pos ⟨settling, busy⟩]
  simp only [onExpiry, timer]

/-- The failed position: of a FAULTED writer its own, else what was in flight. -/
def failedOp (s : State) : Option WriterOp := if s.rwr.writer = .faulted then s.rwr.op else s.rwr.inFlight

/-- The status wait over. -/
def waitEnded (s : State) : State := { s with rwr := s.rwr.settled }

theorem settleTimedOut_elsewhere (away : s.rwr.start ≠ .configLoad) :
    settleTimedOut s = writerFaults (failedOp s) (waitEnded s) := if_neg away

theorem settleTimedOut_starting (load : s.rwr.start = .configLoad) :
    settleTimedOut s = startWorkFails (writerFaults (failedOp s) (waitEnded s)) := if_pos load

theorem waitEnded_sameBut (s : State) : sameBut [.rwr] s (waitEnded s) := by
  intro part other
  cases part with
  | rwr => simp at other
  | _ => simp [Part.same, waitEnded]

/-- What either end of the busy wait leaves of RWR. -/
theorem settleTimedOut_rwr (s : State) :
    ∃ x : StartWork, RwrGrows { (faulted (failedOp s) (waitEnded s)).rwr with start := x } (settleTimedOut s).rwr ∧
      (s.rwr.start = .configLoad → x = .none) := by
  rcases ne_or_eq s.rwr.start .configLoad with away | load
  · rw [settleTimedOut_elsewhere away]
    exact ⟨s.rwr.start, writerFaults_rwr _ _, fun load => absurd load away⟩
  · obtain ⟨-, -, grows, -⟩ := startWorkFails_keeps (writerFaults (failedOp s) (waitEnded s))
    obtain ⟨n, behind, first⟩ := writerFaults_rwr (failedOp s) (waitEnded s)
    rw [settleTimedOut_starting load]
    refine ⟨.none, RwrGrows.trans ⟨n, behind, ?_⟩ grows, fun _ => rfl⟩
    rw [first]
    rfl

theorem settleTimedOut_keeps (s : State) :
    (settleTimedOut s).now = s.now ∧ (settleTimedOut s).params = s.params ∧
      .recordStoreFault ∈ (settleTimedOut s).pru.held := by
  have now : (writerFaults (failedOp s) (waitEnded s)).now = s.now := writerFaults_now _ _
  have params : (writerFaults (failedOp s) (waitEnded s)).params = s.params :=
    raise_params .recordStoreFault (faulted (failedOp s) (waitEnded s))
  have held := writerFaults_held (failedOp s) (waitEnded s)
  rcases ne_or_eq s.rwr.start .configLoad with away | load
  · rw [settleTimedOut_elsewhere away]
    exact ⟨now, params, held⟩
  · obtain ⟨clock, parameters, -, kept⟩ := startWorkFails_keeps (writerFaults (failedOp s) (waitEnded s))
    rw [settleTimedOut_starting load]
    exact ⟨clock.trans now, parameters.trans params, kept _ held⟩

theorem settleTimedOut_trips (cls : s.params.tripStore = true) (can : canTrip s = true) (fresh : .recordStoreFault ∉ s.pru.held) :
    (settleTimedOut s).ssc.station = .tripped ∧ (settleTimedOut s).mod.gate = .gatesOff ∧
      (settleTimedOut s).syn.cmdClosed = false ∧ FirstNames .recordStoreFault s.ssc.station (settleTimedOut s).pru := by
  have trips := writerFaults_trips (s := waitEnded s) (failedOp s) cls can fresh
  rcases ne_or_eq s.rwr.start .configLoad with away | load
  · rw [settleTimedOut_elsewhere away]
    exact trips
  · have stays : startWorkFails (writerFaults (failedOp s) (waitEnded s)) =
        startEnded (writerFaults (failedOp s) (waitEnded s)) :=
      endStarting_elsewhere (s := startEnded _) (by
        show (writerFaults (failedOp s) (waitEnded s)).ssc.station ≠ .starting
        rw [trips.1]
        decide)
    rw [settleTimedOut_starting load, stays]
    exact trips

/-! ### What was in flight is settled (R167) -/

theorem exec_warmResetSettle_of_ready (run : s.phase = .run) (settling : s.rwr.settling = true) (made : s.fpt.exitWaits = false) :
    exec .warmResetSettle s = .next (settleWriter s) := by
  have dispatched : exec .warmResetSettle s = execWarmResetSettle s := rfl
  rw [dispatched, execWarmResetSettle, running_run run, if_pos ⟨settling, made⟩]

/-- The memory found ready, the status wait over. -/
def settledReady (s : State) : State := memReady (waitEnded s)

theorem settledReady_sameBut (s : State) : sameBut [.rwr, .mem] s (settledReady s) := by
  intro part other
  cases part with
  | rwr => simp at other
  | mem => simp at other
  | _ => simp [Part.same, settledReady, memReady, waitEnded]

theorem settleWriter_faulted (writer : s.rwr.writer = .faulted) :
    settleWriter s = { settledReady s with rwr := { (settledReady s).rwr with faultBusy := false } } := if_pos writer

theorem settleWriter_quiet (writer : s.rwr.writer ≠ .faulted) (none : s.rwr.inFlight = none ∨ s.rwr.start = .configLoad) :
    settleWriter s = settledReady s := by
  simp only [settleWriter]
  rw [if_neg writer]
  split
  · rfl
  · next away =>
    simp only [none.resolve_right away]
    rfl

theorem settleWriter_resumes {op : WriterOp} (writer : s.rwr.writer ≠ .faulted) (away : s.rwr.start ≠ .configLoad)
    (flight : s.rwr.inFlight = some op) : settleWriter s = resumeOp (some op) (settledReady s) := by
  simp only [settleWriter, flight]
  rw [if_neg writer, if_neg away]
  rfl

/-- A state that keeps the end of the status wait, and the bytes of the memory. -/
structure Resumed (s t : State) : Prop where
  same : sameBut [.rwr, .fpt, .mem] s t
  cells : t.mem.cells = s.mem.cells
  settling : t.rwr.settling = s.rwr.settling

theorem Resumed.moved {t : State} {r : Rwr} (step : Resumed { s with rwr := r } t) (settling : r.settling = s.rwr.settling) :
    Resumed s t := by
  refine ⟨sameBut.then (s := s) (t := { s with rwr := r }) (fun part other => ?_) step.same, step.cells,
    step.settling.trans settling⟩
  cases part with
  | rwr => simp at other
  | _ => simp [Part.same]

theorem startOp_resumed (op : WriterOp) (s : State) : Resumed s (startOp op s) := by
  refine ⟨startOp_sameBut op s, startOp_cells op s, ?_⟩
  unfold startOp
  split <;> rfl

theorem takeNext_resumed (s : State) : Resumed s (takeNext s) := by
  rcases takeNext_cases s with idle | ⟨op, starts⟩
  · rw [idle]
    refine ⟨fun part other => ?_, rfl, rfl⟩
    cases part with
    | rwr => simp at other
    | _ => simp [Part.same, writerIdle]
  · rw [starts]
    exact startOp_resumed op s

theorem startRecovery_resumed (s : State) : Resumed s (startRecovery s) := by
  refine ⟨fun part other => ?_, ?_, rfl⟩
  · cases part with
    | rwr => simp at other
    | fpt => simp at other
    | mem => simp at other
    | _ => simp [Part.same, startRecovery]
  · simp only [startRecovery, requestExit, exitMade]
    split <;> rfl

/-- A record read back: written where the bytes agree, else placed from the next page start. -/
theorem readBack_written {sector offset : Nat}
    (agree : memBytes s.mem (sector * 4096 + offset) (headRecordBytes s).length = headRecordBytes s) :
    readBack sector offset s = takeNext (recordWritten sector offset s) := if_pos agree

theorem readBack_torn {sector offset : Nat}
    (differ : memBytes s.mem (sector * 4096 + offset) (headRecordBytes s).length ≠ headRecordBytes s) :
    readBack sector offset s =
      takeNext { s with rwr := { s.rwr with sector := sector, offset := min 4096 (pageEnd offset) } } := if_neg differ

theorem readBack_resumed (sector offset : Nat) (s : State) : Resumed s (readBack sector offset s) := by
  by_cases agree : memBytes s.mem (sector * 4096 + offset) (headRecordBytes s).length = headRecordBytes s
  · rw [readBack_written agree]
    exact (takeNext_resumed _).moved rfl
  · rw [readBack_torn agree]
    exact (takeNext_resumed _).moved rfl

theorem resumeOp_resumed (op : WriterOp) (s : State) : Resumed s (resumeOp (some op) s) := by
  cases op with
  | record sector offset => exact readBack_resumed sector offset s
  | logErase sector seq => exact startOp_resumed _ s
  | head sector seq => exact startOp_resumed _ s
  | configErase => exact startOp_resumed _ s
  | configProgram => exact startOp_resumed _ s
  | formatErase => exact startRecovery_resumed s
  | formatHead => exact startRecovery_resumed s
  | recovery => exact startRecovery_resumed s

theorem settleWriter_resumed (s : State) : Resumed (settledReady s) (settleWriter s) := by
  rcases ne_or_eq s.rwr.writer .faulted with works | writer
  · by_cases none : s.rwr.inFlight = none ∨ s.rwr.start = .configLoad
    · rw [settleWriter_quiet works none]
      exact ⟨fun part _ => by cases part <;> simp [Part.same], rfl, rfl⟩
    · obtain ⟨busy, away⟩ := not_or.mp none
      obtain ⟨op, flight⟩ := Option.ne_none_iff_exists'.mp busy
      rw [settleWriter_resumes works away flight]
      exact resumeOp_resumed op _
  · rw [settleWriter_faulted writer]
    exact Resumed.moved ⟨fun part _ => by cases part <;> simp [Part.same], rfl, rfl⟩ rfl

/-- The head or erase that was in flight is made again from the erase of its sector. -/
theorem resumeOp_sector {op : WriterOp} {sector seq : Nat} (flight : op = .logErase sector seq ∨ op = .head sector seq)
    (s : State) : resumeOp (some op) s = startOp (.logErase sector seq) s := by
  rcases flight with rfl | rfl <;> rfl

theorem resumeOp_config {op : WriterOp} (flight : op = .configErase ∨ op = .configProgram)
    (s : State) : resumeOp (some op) s = startOp .configErase s := by
  rcases flight with rfl | rfl <;> rfl

theorem idle_works (idle : s.rwr.writer = .idle) : s.rwr.writer ≠ .faulted := by
  rw [idle]
  decide

end

/-- Settles O55: the busy timeouts, the status read, and the settling after a warm reset. -/
theorem storeFaultsAndSettles : Obligations.StoreFaultsAndSettles := by
  refine ⟨fun s start op run => ⟨fun busy held works away => ?_, fun writer port tick busy => ?_,
    fun settling busy timer => ?_⟩, fun s run settling free made => ?_, fun s busy run settling => ?_⟩
  · let limit := if s.rwr.writer = .erasing then 4000 else 40
    let u := freePort (catchUp start limit s)
    have before : sameBut [.clock, .fpt, .mem] s u := timedOut_before start limit s
    obtain ⟨-, cells, memOp, port, mem⟩ := freePort_store (catchUp start limit s)
    have rwr : u.rwr = s.rwr := before .rwr (by decide)
    have now : u.now = max s.now (start + limit) := (freePort_store (catchUp start limit s)).1 .clock (by decide)
    have pru : u.pru = s.pru := before .pru (by decide)
    have params : u.params = s.params := before .params (by decide)
    have can : canTrip u = canTrip s := canTrip_of_same before
    have expired : busyExpired (catchUp start limit s) = writerFaults (some op) u := by
      rw [busyExpired_of_log (s := catchUp start limit s) away]
      exact congrArg (writerFaults · u) held
    have grows := writerFaults_rwr (some op) u
    have clock := writerFaults_now (some op) u
    obtain ⟨n, behind, rwrIs⟩ := id grows
    refine ⟨writerFaults (some op) u, by rw [exec_busyTimeout_of_busy run busy held works, expired], clock.trans now,
      by rw [rwrIs]; rfl, by rw [rwrIs]; rfl, by rw [rwrIs]; rfl, by rw [rwrIs, clock]; rfl, by rw [rwrIs]; rfl,
      ?_, raise_port (s := faulted (some op) u) port, writerFaults_held _ _, ?_, ?_, ?_, fun writer waits => ?_,
      fun quiet => ?_, fun cls can' fresh => ?_⟩
    · rw [← rwr]
      exact grows.take
    · rw [causeLive, rwrIs]; rfl
    · exact (raise_cells .recordStoreFault (faulted (some op) u)).1.trans cells
    · exact (raise_cells .recordStoreFault (faulted (some op) u)).2.trans memOp
    · obtain ⟨free, gone, mode⟩ := freePort_exit (s := catchUp start limit s) writer waits
      exact raise_exit (s := faulted (some op) u) free gone mode
    · rw [← params, ← can, ← pru] at quiet
      have kept := writerFaults_quiet_sameBut (some op) quiet
      refine ⟨(before.widen (by decide)).then (kept.widen (by decide)), ?_, fun made => ?_⟩
      · rw [writerFaults_quiet (some op) quiet]
        simp only [hold, faulted, rwr, ← held]
      · rw [kept .mem (by decide)]
        exact mem made
    · rw [← params] at cls
      rw [← can] at can'
      rw [← pru] at fresh
      have trips := writerFaults_trips (some op) cls can' fresh
      rw [show u.ssc = s.ssc from before .ssc (by decide)] at trips
      exact trips
  · have kept : sameBut [.clock, .rwr, .mem] s (statusRead busy (catchUp start 800 s)) :=
      ((catchUp_near start 800 s).widen (by decide)).then ((statusRead_sameBut busy _).widen (by decide))
    refine ⟨_, exec_faultedStatusRead_of_faulted busy run writer port tick, kept, ?_, fun found => ?_, fun found => ?_⟩
    · simp only [statusRead, catchUp, tick, Timer.restart, Option.map_some]
    · rw [found]
      exact statusRead_mem_of_busy _
    · rw [found]
      exact ⟨finish_op _, rfl⟩
  · let u := catchUp start 4000 s
    obtain ⟨now, params, held⟩ := settleTimedOut_keeps u
    obtain ⟨x, grows, load⟩ := settleTimedOut_rwr u
    obtain ⟨n, behind, rwr⟩ := id grows
    refine ⟨settleTimedOut u, exec_warmResetBusyTimeout_of_busy run settling busy timer, now, by rw [rwr]; rfl, by rw [rwr]; rfl,
      by rw [rwr]; rfl, grows.take, held, fun away quiet => ?_, fun config starting => ⟨?_, ?_, params, fun alarm standing waiting => ?_,
        fun cls _ => ?_⟩, fun cls can fresh => settleTimedOut_trips (s := u) cls can fresh⟩
    · have over_ : sameBut [.clock, .rwr] s (waitEnded u) :=
        ((catchUp_near start 4000 s).widen (by decide)).then ((waitEnded_sameBut u).widen (by decide))
      rw [settleTimedOut_elsewhere (s := u) away]
      refine ⟨(over_.widen (by decide)).then ((writerFaults_quiet_sameBut (s := waitEnded u) (failedOp u) quiet).widen (by decide)), ?_⟩
      rw [writerFaults_quiet (s := waitEnded u) (failedOp u) quiet]
      rfl
    · rw [rwr]
      exact load config
    · rw [rwr]; rfl
    · rw [settleTimedOut_starting (s := u) config]
      exact startWorkFails_standby (s := waitEnded u) (failedOp u) starting alarm standing waiting
    · rw [settleTimedOut_starting (s := u) config]
      exact startWorkFails_tripped (s := waitEnded u) (failedOp u) starting cls
  · have resumed := settleWriter_resumed s
    have ready := settledReady_sameBut s
    have port : (settledReady s).fpt.port = none := free
    refine ⟨_, exec_warmResetSettle_of_ready run settling made, (ready.widen (by decide)).then resumed.same, resumed.settling,
      resumed.cells, fun writer => ?_, fun idle none => ?_, fun sector seq idle away flight => ?_,
      fun idle away flight => ?_, fun sector offset r rest idle away flight queue => ?_⟩
    · rw [settleWriter_faulted writer]
      exact ⟨writer, rfl, rfl⟩
    · rw [settleWriter_quiet (idle_works idle) none]
      exact ⟨rfl, rfl, rfl⟩
    · obtain ⟨op, held, is⟩ : ∃ op, s.rwr.inFlight = some op ∧ (op = .logErase sector seq ∨ op = .head sector seq) := by
        rcases flight with flight | flight
        · exact ⟨_, flight, .inl rfl⟩
        · exact ⟨_, flight, .inr rfl⟩
      rw [settleWriter_resumes (idle_works idle) away held, resumeOp_sector is]
      exact ⟨startOp_op _ _, (startOp_issues _ port).2.2.2.2.2, startOp_queue _ _⟩
    · obtain ⟨op, held, is⟩ : ∃ op, s.rwr.inFlight = some op ∧ (op = .configErase ∨ op = .configProgram) := by
        rcases flight with flight | flight
        · exact ⟨_, flight, .inl rfl⟩
        · exact ⟨_, flight, .inr rfl⟩
      rw [settleWriter_resumes (idle_works idle) away held, resumeOp_config is]
      exact ⟨(startOp_issues _ port).2.2.2.2.2, startOp_config _ _, startOp_queue _ _⟩
    · have queued : (settledReady s).rwr.queue = r :: rest := queue
      have bytes := headRecordBytes_cons queued
      have resumes : settleWriter s = readBack sector offset (settledReady s) :=
        settleWriter_resumes (idle_works idle) away flight
      refine ⟨fun agree => ?_, fun differ => ?_⟩
      · rw [resumes, readBack_written (by rw [bytes]; exact agree), takeNext_queue, takeNext_sector, takeNext_offset]
        simp [recordWritten, queued]
      · rw [resumes, readBack_torn (by rw [bytes]; exact differ), takeNext_queue, takeNext_offset]
        exact ⟨rfl, rfl⟩
  · have dispatched : exec (.configLoadComplete busy) s = execConfigLoadComplete busy s := rfl
    rw [dispatched, execConfigLoadComplete, running_run run, if_neg (by simp [settling])]

end Sys2Proof.Machine
end

/-! PROOFS. The configuration load (R158): each row of the parameter block, and what the load leaves. -/
section
namespace Sys2Proof.Machine

/-! ### The parameter block (13.4) -/

/-- Each parameter of a block is its row's stored value, clamped. -/
theorem loadParams_rows (block : List Byte) :
    ∀ w ∈ paramRows, w.value (loadParams block) = clamp w.low w.high (w.stored block) := by
  simp only [paramRows, List.forall_mem_cons]
  exact ⟨rfl, rfl, rfl, rfl, rfl, rfl, rfl, rfl, rfl, rfl, rfl, rfl, rfl, rfl, rfl, rfl, rfl, rfl, rfl, rfl, rfl, rfl,
    fun _ member => absurd member List.not_mem_nil⟩

theorem default_rows : ∀ w ∈ paramRows, w.value Params.default = w.preset := by
  simp [paramRows, Params.default]

theorem loadParams_inRange (block : List Byte) : (loadParams block).InRange := by
  simp only [Params.InRange, loadParams]
  refine ⟨?_, ?_, ?_, ?_, ?_, ?_, ?_, ?_, ?_, ?_, ?_, ?_, ?_, ?_, ?_, ?_, ?_, ?_, ?_, ?_, ?_, ?_⟩
  all_goals exact loadValue_bounds _ _ _ _ (by norm_num)

/-- The load clamps where a row's stored value lies outside its range. -/
theorem blockAdjusted_iff (block : List Byte) :
    blockAdjusted block = true ↔ ∃ w ∈ paramRows, w.stored block < w.low ∨ w.high < w.stored block := by
  have rows : blockAdjusted block = paramRows.any fun w => valueOff block w.offset w.length w.unit w.low w.high := by
    simp only [blockAdjusted, paramRows, List.any_cons, List.any_nil, Bool.or_false, Bool.or_assoc]
  rw [rows, List.any_eq_true]
  simp only [valueOff, ParamRow.stored, Bool.or_eq_true, decide_eq_true_eq]

theorem configGood_iff (bytes : List Byte) :
    configGood bytes = true ↔ bytes.getD 0 0 = 0x0C#8 ∧ bytes.getD 1 0 = 0x02#8 ∧ bytes = withCrc16 (bytes.take 30) := by
  rw [configGood, Bool.and_eq_true, Bool.and_eq_true, beq_iff_eq, beq_iff_eq, beq_iff_eq, and_assoc]

section
variable {s : State}

/-! ### The load (R158) -/

theorem exec_configLoadComplete_of_load (busy : Bool) (run : s.phase = .run) (starting : s.ssc.station = .starting)
    (load : s.rwr.start = .configLoad) (settled : s.rwr.settling = false) :
    exec (.configLoadComplete busy) s = .next (loadConfig busy s) := by
  have dispatched : exec (.configLoadComplete busy) s = execConfigLoadComplete busy s := rfl
  rw [dispatched, execConfigLoadComplete, running_run run, if_pos ⟨load, starting, settled⟩]

/-- The memory read for the load: as it stands where it is found busy, else ended. -/
def loadRead (busy : Bool) (s : State) : State :=
  { s with
    mem := if busy && s.mem.op.isSome then s.mem else s.mem.finish
    freeCount := if busy && s.mem.op.isSome then s.freeCount + 1 else s.freeCount }

/-- A good record is found: not where a configuration write that the reset cut off has left its operation (R159). -/
def loadGood (busy : Bool) (s : State) : Bool := configGood (memReadBytes (loadRead busy s) 0 32) && !s.mem.writesConfig

/-- The parameters a load takes into force. -/
def loadedParams (busy : Bool) (s : State) : Params :=
  if loadGood busy s then loadParams (((memReadBytes (loadRead busy s) 0 32).drop 2).take 28) else Params.default

/-- The parameters in force, CONFIG_ADJUSTED not yet judged. -/
def loadTaken (busy : Bool) (s : State) : State := { loadRead busy s with params := loadedParams busy s }

/-- The load needed a default or a clamp. -/
def loadAdjusts (busy : Bool) (s : State) : Bool :=
  !loadGood busy s || blockAdjusted (((memReadBytes (loadRead busy s) 0 32).drop 2).take 28)

theorem loadConfig_eq (busy : Bool) (s : State) :
    loadConfig busy s = startRecovery (if loadAdjusts busy s then hold .configAdjusted (loadTaken busy s) else loadTaken busy s) := by
  have alarm : raise .configAdjusted (loadTaken busy s) = hold .configAdjusted (loadTaken busy s) := raise_alarm rfl
  rw [← alarm]
  rfl

theorem loadTaken_sameBut (busy : Bool) (s : State) : sameBut [.freeCount, .mem, .params] s (loadTaken busy s) := by
  intro part other
  cases part with
  | freeCount => simp at other
  | mem => simp at other
  | params => simp at other
  | _ => simp [Part.same, loadTaken, loadRead]

/-- CONFIG_ADJUSTED judged. -/
def loadJudged (busy : Bool) (s : State) : State :=
  if loadAdjusts busy s then hold .configAdjusted (loadTaken busy s) else loadTaken busy s

theorem loadJudged_sameBut (busy : Bool) (s : State) : sameBut [.pru] (loadTaken busy s) (loadJudged busy s) := by
  unfold loadJudged
  split
  · exact hold_sameBut _ _
  · exact fun part _ => by cases part <;> simp [Part.same]

theorem loadJudged_pru (busy : Bool) (s : State) :
    (loadAdjusts busy s = true → .configAdjusted ∈ (loadJudged busy s).pru.held) ∧
      (loadAdjusts busy s = false → (loadJudged busy s).pru = s.pru) := by
  refine ⟨fun adjusts => ?_, fun stands => ?_⟩
  · rw [loadJudged, if_pos adjusts]
    exact mem_held_hold _ _
  · rw [loadJudged, if_neg (by simp [stands])]
    rfl

/-- The recovery begun: its exit made at once on the free port, else waiting for it (R165, R169). -/
theorem startRecovery_moves (s : State) :
    sameBut [.rwr, .fpt, .mem] s (startRecovery s) ∧ (startRecovery s).rwr.start = .recovery ∧
      (startRecovery s).rwr.startTimer = some s.now ∧ (startRecovery s).rwr.queue = s.rwr.queue ∧
      (startRecovery s).mem.cells = s.mem.cells ∧
      (s.fpt.port = none → (startRecovery s).mem.cont = false ∧ (startRecovery s).fpt.contRead = false) ∧
      (s.fpt.port ≠ none → (startRecovery s).fpt.exitWaits = true) := by
  refine ⟨(startRecovery_resumed s).same, rfl, rfl, rfl, (startRecovery_resumed s).cells, fun free => ?_, fun taken => ?_⟩
  · simp [startRecovery, requestExit, exitMade, free]
  · simp [startRecovery, requestExit, taken]

/-- The load, and the recovery behind it. -/
theorem loadConfig_moves (busy : Bool) (s : State) :
    sameBut [.freeCount, .rwr, .fpt, .mem, .params, .pru] s (loadConfig busy s) ∧
      (loadConfig busy s).params = loadedParams busy s ∧
      (loadConfig busy s).freeCount = (loadRead busy s).freeCount ∧
      (loadAdjusts busy s = true → .configAdjusted ∈ (loadConfig busy s).pru.held) ∧
      (loadAdjusts busy s = false → (loadConfig busy s).pru = s.pru) ∧
      (loadConfig busy s).rwr.start = .recovery ∧ (loadConfig busy s).rwr.startTimer = some s.now ∧
      (loadConfig busy s).rwr.queue = s.rwr.queue ∧ (loadConfig busy s).mem.cells = (loadRead busy s).mem.cells ∧
      (s.fpt.port = none → (loadConfig busy s).mem.cont = false ∧ (loadConfig busy s).fpt.contRead = false) ∧
      (s.fpt.port ≠ none → (loadConfig busy s).fpt.exitWaits = true) := by
  have recovers : loadConfig busy s = startRecovery (loadJudged busy s) := loadConfig_eq busy s
  have judged := loadJudged_sameBut busy s
  have before : sameBut [.freeCount, .mem, .params, .pru] s (loadJudged busy s) :=
    ((loadTaken_sameBut busy s).widen (by decide)).then (judged.widen (by decide))
  obtain ⟨adjusts, stands⟩ := loadJudged_pru busy s
  obtain ⟨kept, start, timer, queue, cells, free, taken⟩ := startRecovery_moves (loadJudged busy s)
  have fpt : (loadJudged busy s).fpt = s.fpt := before .fpt (by decide)
  rw [fpt] at free taken
  rw [recovers, kept .params (by decide), kept .freeCount (by decide), kept .pru (by decide), judged .params (by decide),
    judged .freeCount (by decide)]
  exact ⟨(before.widen (by decide)).then (kept.widen (by decide)), rfl, rfl, adjusts, stands, start,
    timer.trans (congrArg some (before .clock (by decide))), queue.trans (congrArg Rwr.queue (before .rwr (by decide))),
    cells.trans (congrArg Memory.cells (judged .mem (by decide))), free, taken⟩

/-- The bytes read where the memory is not busy. -/
theorem memReadBytes_loadRead (s : State) : memReadBytes (loadRead false s) 0 32 = memBytes s.mem.finish 0 32 :=
  memReadBytes_of_ready (s := loadRead false s) (finish_op _) 0 32

end

end Sys2Proof.Machine
end

/-! PROOFS. The recovery of the log (R161, R165, R166): its head, its walk, and the stamps of the records that waited. -/
section
namespace Sys2Proof.Machine

/-! ### The head of the log (R165) -/

theorem headOf_iff (m : Memory) (sector seq next : Nat) : headOf m sector = some (seq, next) ↔ HeadAt m sector seq next := by
  unfold headOf HeadAt
  dsimp only
  split
  next good =>
    obtain ⟨kind, length, crc⟩ := good
    simp only [Option.some.injEq, Prod.mk.injEq]
    exact ⟨fun ⟨first, second⟩ => ⟨kind, length, crc, second.symm, first.symm⟩, fun ⟨_, _, _, second, first⟩ => ⟨first.symm, second.symm⟩⟩
  next bad => exact ⟨fun none => absurd none (by simp), fun ⟨kind, length, crc, _⟩ => absurd ⟨kind, length, crc⟩ bad⟩

theorem findHead_keeps {m : Memory} {n : Nat} (none : headOf m (n + 1) = none) : findHead m (n + 1) = findHead m n := by
  cases prior : findHead m n <;> simp [findHead, prior, none]

theorem findHead_first {m : Memory} {n seq next : Nat} (prior : findHead m n = none)
    (head : headOf m (n + 1) = some (seq, next)) : findHead m (n + 1) = some (n + 1, seq, next) := by
  simp [findHead, prior, head]

theorem findHead_compares {m : Memory} {n seq next b bs bn : Nat} (prior : findHead m n = some (b, bs, bn))
    (head : headOf m (n + 1) = some (seq, next)) :
    findHead m (n + 1) = if bs < seq then some (n + 1, seq, next) else some (b, bs, bn) := by
  simp [findHead, prior, head]

/-- No candidate among the sectors 1 to `n`. -/
def NoHead (m : Memory) (n : Nat) : Prop := ∀ k seq next, 1 ≤ k → k ≤ n → ¬ HeadAt m k seq next

/-- The greatest sector sequence among the sectors 1 to `n`, the lowest sector of equals (R165). -/
def BestHead (m : Memory) (n sector seq next : Nat) : Prop :=
  1 ≤ sector ∧ sector ≤ n ∧ HeadAt m sector seq next ∧
    ∀ k seq' next', 1 ≤ k → k ≤ n → HeadAt m k seq' next' → seq' < seq ∨ seq' = seq ∧ sector ≤ k

theorem HeadAt.unique {m : Memory} {sector seq next seq' next' : Nat} (first : HeadAt m sector seq next)
    (second : HeadAt m sector seq' next') : seq = seq' ∧ next = next' := by
  obtain ⟨_, _, _, next₁, seq₁⟩ := first
  obtain ⟨_, _, _, next₂, seq₂⟩ := second
  exact ⟨seq₁.trans seq₂.symm, next₁.trans next₂.symm⟩

theorem findHead_finds (m : Memory) (n : Nat) :
    (findHead m n = none ∧ NoHead m n) ∨
      ∃ sector seq next, findHead m n = some (sector, seq, next) ∧ BestHead m n sector seq next := by
  induction n with
  | zero => exact .inl ⟨rfl, fun k _ _ low high => absurd high (by omega)⟩
  | succ n ih =>
    have among {k : Nat} (high : k ≤ n + 1) : k ≤ n ∨ k = n + 1 := by omega
    cases here : headOf m (n + 1) with
    | none =>
      have away {seq next : Nat} : ¬ HeadAt m (n + 1) seq next := by
        rw [← headOf_iff, here]
        simp
      rw [findHead_keeps here]
      rcases ih with ⟨none, empty⟩ | ⟨sector, seq, next, found, low, high, head, best⟩
      · refine .inl ⟨none, fun k seq next low high => ?_⟩
        rcases among high with below | rfl
        · exact empty k seq next low below
        · exact away
      · refine .inr ⟨sector, seq, next, found, low, by omega, head, fun k seq' next' least most other => ?_⟩
        rcases among most with below | rfl
        · exact best k seq' next' least below other
        · exact absurd other away
    | some pair =>
      obtain ⟨seq, next⟩ := pair
      have head := (headOf_iff m (n + 1) seq next).mp here
      rcases ih with ⟨none, empty⟩ | ⟨b, bs, bn, found, low, high, head', best⟩
      · refine .inr ⟨n + 1, seq, next, findHead_first none here, by omega, le_refl _, head, fun k seq' next' least most other => ?_⟩
        rcases among most with below | rfl
        · exact absurd other (empty k seq' next' least below)
        · exact .inr ⟨(other.unique head).1, le_refl _⟩
      · rw [findHead_compares found here]
        by_cases greater : bs < seq
        · refine .inr ⟨n + 1, seq, next, if_pos greater, by omega, le_refl _, head, fun k seq' next' least most other => ?_⟩
          rcases among most with below | rfl
          · rcases best k seq' next' least below other with less | ⟨equal, _⟩
            · exact .inl (by omega)
            · exact .inl (by omega)
          · exact .inr ⟨(other.unique head).1, le_refl _⟩
        · refine .inr ⟨b, bs, bn, if_neg greater, low, by omega, head', fun k seq' next' least most other => ?_⟩
          rcases among most with below | rfl
          · exact best k seq' next' least below other
          · obtain ⟨rfl, -⟩ := other.unique head
            rcases Nat.lt_or_ge seq' bs with less | equal
            · exact .inl less
            · exact .inr ⟨by omega, by omega⟩

theorem findHead_of_best {m : Memory} {n sector seq next : Nat} (best : BestHead m n sector seq next) :
    findHead m n = some (sector, seq, next) := by
  obtain ⟨low, high, head, most⟩ := best
  rcases findHead_finds m n with ⟨-, empty⟩ | ⟨sector', seq', next', found, low', high', head', most'⟩
  · exact absurd head (empty sector seq next low high)
  · have first := most sector' seq' next' low' high' head'
    have second := most' sector seq next low high head
    obtain rfl : sector' = sector := by omega
    obtain ⟨rfl, rfl⟩ := head'.unique head
    exact found

theorem findHead_of_none {m : Memory} {n : Nat} (none : NoHead m n) : findHead m n = Option.none := by
  rcases findHead_finds m n with ⟨found, -⟩ | ⟨sector, seq, next, -, low, high, head, -⟩
  · exact found
  · exact absurd head (none sector seq next low high)

/-! ### The walk of its sector (R166) -/

theorem memBytes_head (m : Memory) (a : Nat) {len : Nat} (positive : 0 < len) : (memBytes m a len).getD 0 0 = m.get a := by
  simp [memBytes, positive]

theorem recordSize_iff (kind size : Nat) :
    recordSize kind = some size ↔ (kind, size) ∈ [(1, 16), (2, 32), (3, 32), (4, 48), (5, 48), (6, 16)] := by
  unfold recordSize
  split <;> simp_all [eq_comm]

theorem recordSize_sixteens {kind size : Nat} (known : recordSize kind = some size) : 16 ≤ size ∧ size % 16 = 0 := by
  rw [recordSize_iff] at known
  simp only [List.mem_cons, Prod.mk.injEq, List.not_mem_nil, or_false] at known
  omega

/-- A record's kind byte decides its size. -/
theorem RecordAt.size_of_kind {m : Memory} {sector offset size stamp : Nat} (at_ : RecordAt m sector offset size stamp) :
    recordSize (m.get (sector * 4096 + offset)).toNat = some size := by
  have known := (recordSize_iff _ _).mpr at_.1
  have positive : 0 < size := by have := recordSize_sixteens known; omega
  rwa [memBytes_head m _ positive] at known

theorem erasedPageAt_iff (m : Memory) (sector offset : Nat) :
    offset % 256 = 0 ∧ (memBytes m (sector * 4096 + offset) 256).all (· == 0xFF#8) = true ↔ ErasedPageAt m sector offset := by
  simp [ErasedPageAt, memBytes, List.all_eq_true]

theorem walkStep_blank {m : Memory} {base pos : Nat} (blank : m.get (base + pos) = 0xFF#8)
    (erased : pos % 256 = 0 ∧ (memBytes m (base + pos) 256).all (· == 0xFF#8) = true) : walkStep m base pos = .finished :=
  (if_pos blank).trans (if_pos erased)

theorem walkStep_gap {m : Memory} {base pos : Nat} (blank : m.get (base + pos) = 0xFF#8)
    (written : ¬ (pos % 256 = 0 ∧ (memBytes m (base + pos) 256).all (· == 0xFF#8) = true)) :
    walkStep m base pos = .move ((pos / 256 + 1) * 256) none :=
  (if_pos blank).trans (if_neg written)

/-- How the walk reads a position (R166). -/
theorem walkStep_cases (m : Memory) (sector offset : Nat) :
    (walkStep m (sector * 4096) offset = .finished ∧ ErasedPageAt m sector offset) ∨
      (∃ size stamp, walkStep m (sector * 4096) offset = .move (offset + size) (some stamp) ∧
        RecordAt m sector offset size stamp) ∨
      walkStep m (sector * 4096) offset = .move ((offset / 256 + 1) * 256) none ∧ ¬ ErasedPageAt m sector offset ∧
        ∀ size stamp, ¬ RecordAt m sector offset size stamp := by
  by_cases blank : m.get (sector * 4096 + offset) = 0xFF#8
  · have none (size stamp : Nat) : ¬ RecordAt m sector offset size stamp := by
      intro at_
      have known := at_.size_of_kind
      rw [blank, show recordSize (0xFF#8).toNat = Option.none from rfl] at known
      cases known
    by_cases erased : ErasedPageAt m sector offset
    · exact .inl ⟨walkStep_blank blank ((erasedPageAt_iff m sector offset).mpr erased), erased⟩
    · exact .inr (.inr ⟨walkStep_gap blank fun met => erased ((erasedPageAt_iff m sector offset).mp met), erased, none⟩)
  · have erased : ¬ ErasedPageAt m sector offset := fun page => blank (by simpa using page.2 0 (by decide))
    have reads : walkStep m (sector * 4096) offset = _ := if_neg blank
    cases size : recordSize (m.get (sector * 4096 + offset)).toNat with
    | none =>
      refine .inr (.inr ⟨by rw [reads]; simp only [size]; rfl, erased, fun other stamp at_ => ?_⟩)
      rw [at_.size_of_kind] at size
      cases size
    | some n =>
      have positive : 0 < n := by have := recordSize_sixteens size; omega
      have kind := memBytes_head m (sector * 4096 + offset) positive
      by_cases good : ((memBytes m (sector * 4096 + offset) n).getD 1 0).toNat * 16 = n ∧ offset + n ≤ pageEnd offset ∧
          memBytes m (sector * 4096 + offset) n = withCrc16 ((memBytes m (sector * 4096 + offset) n).take (n - 2))
      · obtain ⟨length, page, crc⟩ := good
        refine .inr (.inl ⟨n, fieldNat (memBytes m (sector * 4096 + offset) n) 2 4, ?_, ?_, length, ?_, crc, rfl⟩)
        · rw [reads]
          simp only [size]
          rw [if_pos ⟨length, page, crc⟩]
        · rw [kind]
          exact (recordSize_iff _ _).mp size
        · unfold pageEnd at page
          omega
      · refine .inr (.inr ⟨?_, erased, fun other stamp at_ => ?_⟩)
        · rw [reads]
          simp only [size]
          rw [if_neg good]
          rfl
        · obtain rfl : n = other := Option.some.inj (size.symm.trans at_.size_of_kind)
          obtain ⟨-, length, page, crc, -⟩ := at_
          refine good ⟨length, ?_, crc⟩
          unfold pageEnd
          omega

theorem walk_full {m : Memory} {base fuel offset : Nat} (last : Option Nat) (full : 4096 ≤ offset) :
    walk m base fuel offset last = (4096, last) := by
  cases fuel with
  | zero => rfl
  | succ fuel => exact if_pos full

theorem walk_finished {m : Memory} {base fuel offset : Nat} (last : Option Nat) (inside : offset < 4096)
    (step : walkStep m base offset = .finished) : walk m base (fuel + 1) offset last = (offset, last) := by
  rw [walk, if_neg (by omega), step]

theorem walk_moves {m : Memory} {base fuel offset next : Nat} {stamp : Option Nat} (last : Option Nat) (inside : offset < 4096)
    (step : walkStep m base offset = .move next stamp) :
    walk m base (fuel + 1) offset last = walk m base fuel next (stamp.orElse fun _ => last) := by
  rw [walk, if_neg (by omega), step]

/-- With a step left for every sixteen bytes the walk ends where R166 ends it. -/
theorem walk_walks (m : Memory) (sector : Nat) (fuel : Nat) : ∀ (offset : Nat) (last : Option Nat), offset % 16 = 0 →
    4096 ≤ offset + 16 * fuel →
      Walks m sector offset last (walk m (sector * 4096) fuel offset last).1 (walk m (sector * 4096) fuel offset last).2 := by
  induction fuel with
  | zero => exact fun offset last _ enough => .full offset last (by omega)
  | succ fuel ih =>
    intro offset last even enough
    rcases Nat.lt_or_ge offset 4096 with inside | full
    · rcases walkStep_cases m sector offset with ⟨step, erased⟩ | ⟨size, stamp, step, at_⟩ | ⟨step, erased, none⟩
      · rw [walk_finished last inside step]
        exact .erased offset last inside erased
      · have advance := recordSize_sixteens at_.size_of_kind
        rw [walk_moves last inside step]
        exact .record offset size stamp _ last _ inside at_ (ih _ _ (by omega) (by omega))
      · rw [walk_moves last inside step]
        exact .skip offset _ last _ inside erased none (ih _ _ (by omega) (by omega))
    · rw [walk_full last full]
      exact .full offset last full

/-! ### The stamps of the records that waited (R161) -/

theorem stampQueue_unstamped (n : Nat) (q : List QueuedRecord) (none : ∀ r ∈ q, r.stamp = Option.none) :
    stampQueue n q = q.mapIdx fun i r => { r with stamp := some (n + i) } := by
  induction q generalizing n with
  | nil => rfl
  | cons r rest ih =>
    have first : r.stamp = Option.none := none r List.mem_cons_self
    rw [stampQueue, first, List.mapIdx_cons]
    dsimp only
    rw [ih (n + 1) fun x member => none x (List.mem_cons_of_mem _ member)]
    simp only [Nat.add_zero, Nat.add_assoc, Nat.add_comm 1]

theorem unstamped_length {q : List QueuedRecord} (none : ∀ r ∈ q, r.stamp = Option.none) : unstamped q = q.length := by
  rw [unstamped, List.countP_eq_length]
  exact fun r member => by rw [none r member]; rfl

/-! ### The end of the recovery (R85, R166) -/

theorem waitingCause_some_iff {s : State} (state : StationState) :
    (waitingCause state s).isSome = true ↔ tripHeld s = true ∨ s.pru.waiting.any (tripClass s.params) = true := by
  rw [waitingCause_isSome_iff]
  simp only [tripHeld, List.any_eq_true]
  constructor
  · rintro ⟨x, waits | held, cls⟩
    · exact .inr ⟨x, waits, cls⟩
    · exact .inl ⟨x, held, cls⟩
  · rintro (⟨x, held, cls⟩ | ⟨x, waits, cls⟩)
    · exact ⟨x, .inr held, cls⟩
    · exact ⟨x, .inl waits, cls⟩

/-- A trip with the counters set counts its record's stamp. -/
theorem tripWith_recSeq {s : State} (r : FirstCause) (recovered : s.rwr.recovered = true) :
    (tripWith r s).rwr.recSeq = s.rwr.recSeq + 1 := by
  have rwr := tripNotified_sameBut r s .rwr (by decide)
  rw [tripWith_eq]
  simp only [submitRecord]
  rw [show (submit (tripNoticeFrame r) (standsTripped r s)).rwr = s.rwr from rwr, if_pos recovered]

/-- The counters and the queue as the recovery leaves them. -/
def stamped (sector offset secSeq recSeq : Nat) (s : State) : State :=
  { s with rwr := { s.rwr with
      sector := sector, offset := offset, secSeq := secSeq, recSeq := recSeq + unstamped s.rwr.queue
      queue := stampQueue recSeq s.rwr.queue
      recovered := true, writer := .idle, op := none, busy := none, start := .none, startTimer := none } }

theorem finishRecovery_eq (sector offset secSeq recSeq : Nat) (s : State) :
    finishRecovery sector offset secSeq recSeq s = endStarting (stamped sector offset secSeq recSeq s) := rfl

theorem finishRecovery_place (sector offset secSeq recSeq : Nat) (s : State) :
    (finishRecovery sector offset secSeq recSeq s).rwr.sector = sector ∧
      (finishRecovery sector offset secSeq recSeq s).rwr.offset = offset ∧
      (finishRecovery sector offset secSeq recSeq s).rwr.secSeq = secSeq := by
  obtain ⟨-, -, ⟨n, behind, grows⟩, -⟩ := endStarting_keeps (stamped sector offset secSeq recSeq s)
  rw [finishRecovery_eq, grows]
  exact ⟨rfl, rfl, rfl⟩

theorem finishRecovery_ends {s : State} (sector offset secSeq recSeq : Nat) (starting : s.ssc.station = .starting) :
    RecoveryEnds recSeq s (finishRecovery sector offset secSeq recSeq s) := by
  let e := stamped sector offset secSeq recSeq s
  obtain ⟨-, -, grows, -⟩ := endStarting_keeps e
  obtain ⟨n, behind, rwr⟩ := id grows
  have quiet (standing : tripHeld s = false) (none : s.pru.waiting.any (tripClass s.params) = false) :
      waitingCause .starting e = Option.none := waitingCause_none (s := e) standing none .starting
  have cause (trips : tripHeld s = true ∨ s.pru.waiting.any (tripClass s.params) = true) :
      ∃ r, waitingCause .starting e = some r :=
    Option.isSome_iff_exists.mp ((waitingCause_some_iff (s := e) .starting).mpr trips)
  rw [finishRecovery_eq]
  refine ⟨by rw [rwr]; rfl, by rw [rwr]; rfl, by rw [rwr]; rfl, fun unset => ⟨?_, fun standing none => ?_, fun trips => ?_⟩,
    fun standing none => endStarting_station_standby (s := e) starting (quiet standing none), fun trips => ?_⟩
  · have taken := grows.take
    rw [show e.rwr.queue = s.rwr.queue.mapIdx _ from stampQueue_unstamped recSeq s.rwr.queue unset] at taken
    rwa [List.length_mapIdx] at taken
  · have ends : (endStarting e).rwr = e.rwr := by
      rw [endStarting_standby (s := e) starting (quiet standing none)]
      exact enterStandby_sameBut e .rwr (by decide)
    rw [ends]
    exact ⟨congrArg (recSeq + ·) (unstamped_length unset), stampQueue_length recSeq s.rwr.queue⟩
  · obtain ⟨r, is⟩ := cause trips
    rw [endStarting_tripped (s := e) starting is]
    exact (tripWith_recSeq (s := e) r rfl).trans (congrArg (recSeq + · + 1) (unstamped_length unset))
  · obtain ⟨r, is⟩ := cause trips
    rw [endStarting_tripped (s := e) starting is]
    exact tripWith_station r e

section
variable {s : State}

/-! ### The recovery (R165) -/

theorem exec_logRecoveryComplete_of_ready (run : s.phase = .run) (start : s.rwr.start = .recovery) (made : s.fpt.exitWaits = false) :
    exec .logRecoveryComplete s = .next (recoverLog s) := by
  have dispatched : exec .logRecoveryComplete s = execLogRecoveryComplete s := rfl
  rw [dispatched, execLogRecoveryComplete, running_run run, if_pos ⟨start, made⟩]

/-- The format of a log without a head begun (R165). -/
def formatBegun (s : State) : State := { memReady s with rwr := { s.rwr with start := .format, startTimer := none } }

theorem recoverLog_none (none : findHead s.mem.finish 511 = Option.none) :
    recoverLog s = startOp .formatErase (formatBegun s) := by
  simp only [recoverLog, memReady, none]
  rfl

theorem recoverLog_some {sector seq next : Nat} (found : findHead s.mem.finish 511 = some (sector, seq, next)) :
    recoverLog s = finishRecovery sector (walk s.mem.finish (sector * 4096) 256 16 none).1 seq
      (((walk s.mem.finish (sector * 4096) 256 16 none).2.map (· + 1)).getD next) (memReady s) := by
  simp only [recoverLog, memReady, found]
  cases (walk s.mem.finish (sector * 4096) 256 16 none).2 <;> rfl

theorem exec_recoveryBusyTimeout_of_busy {start : Nat} (run : s.phase = .run) (recovery : s.rwr.start = .recovery)
    (busy : s.mem.op.isSome = true) (timer : s.rwr.startTimer = some start) :
    exec .recoveryBusyTimeout s = .next (startWorkFails (writerFaults (some .recovery) (catchUp start 4000 s))) := by
  have dispatched : exec .recoveryBusyTimeout s = execRecoveryBusyTimeout s := rfl
  rw [dispatched, execRecoveryBusyTimeout, running_run run, if_pos ⟨recovery, busy⟩]
  simp only [onExpiry, timer, recoveryTimedOut]

theorem programEnded_format (held : s.rwr.op = some .formatHead) :
    programEnded s = finishRecovery 1 16 1 1 (operationEnded s) := by
  simp only [programEnded, held]
  rfl

/-- The end of the recovery depends on the records, the parameters and PRU alone. -/
theorem RecoveryEnds.of_same {first : Nat} {t u : State} (ends : RecoveryEnds first t u) (rwr : t.rwr = s.rwr)
    (params : t.params = s.params) (pru : t.pru = s.pru) : RecoveryEnds first s u := by
  unfold RecoveryEnds tripHeld at *
  rw [rwr, params, pru] at ends
  exact ends

end

/-- Settles O56: the configuration load, the recovery of the log, and the format of one without a head. -/
theorem startWorkLoadsAndRecovers : Obligations.StartWorkLoadsAndRecovers := by
  intro s run starting
  refine ⟨fun load settled cut busy => ?_, fun bytes load settled whole read => ?_, fun start recovery busy timer => ?_,
    fun recovery made => ?_, fun format port busy => ⟨fun writer held => ?_, fun writer held => ?_⟩⟩
  · have bad : loadGood busy s = false := by rw [loadGood, cut]; simp
    obtain ⟨kept, params, -, adjusts, -, start, -⟩ := loadConfig_moves busy s
    refine ⟨_, exec_configLoadComplete_of_load busy run starting load settled, ?_, adjusts (by rw [loadAdjusts, bad]; rfl),
      start, kept⟩
    rw [params, loadedParams, bad]
    rfl
  · have taken := memReadBytes_loadRead s
    rw [← read] at taken
    have judged : loadGood false s = configGood bytes := by rw [loadGood, taken, whole]; simp
    obtain ⟨kept, params, count, adjusts, stands, start, timer, queue, cells, free, held⟩ := loadConfig_moves false s
    refine ⟨_, exec_configLoadComplete_of_load false run starting load settled, ?_, free, held, cells, start, timer, queue,
      fun good => ?_, fun bad => ?_⟩
    · intro part other
      rcases ne_or_eq part .freeCount with away | rfl
      · exact kept part (by simp_all)
      · exact count
    · have found : loadGood false s = true := judged.trans ((configGood_iff bytes).mpr good)
      have loaded : (loadConfig false s).params = loadParams ((bytes.drop 2).take 28) := by
        rw [params, loadedParams, if_pos found, taken]
      rw [loaded]
      refine ⟨loadParams_rows _, loadParams_inRange _, rfl, rfl, rfl, rfl, fun outside => adjusts ?_, fun inside => stands ?_⟩
      · rw [loadAdjusts, taken, (blockAdjusted_iff _).mpr outside, Bool.or_true]
      · rw [loadAdjusts, taken, found, ← Bool.not_eq_true]
        simp only [Bool.not_true, Bool.false_or, blockAdjusted_iff]
        rintro ⟨w, member, out⟩
        have bounds := inside w member
        omega
    · have none : loadGood false s = false := by
        rw [judged, ← Bool.not_eq_true, configGood_iff]
        exact bad
      have defaults : (loadConfig false s).params = Params.default := by rw [params, loadedParams, none]; rfl
      rw [defaults]
      exact ⟨rfl, default_rows, rfl, rfl, rfl, rfl, adjusts (by rw [loadAdjusts, none]; rfl)⟩
  · let u := catchUp start 4000 s
    obtain ⟨now, -, grows, kept⟩ := startWorkFails_keeps (writerFaults (some .recovery) u)
    obtain ⟨m, more, failed⟩ := grows
    obtain ⟨n, behind, faulted⟩ := writerFaults_rwr (some .recovery) u
    refine ⟨_, exec_recoveryBusyTimeout_of_busy run recovery busy timer, now.trans (writerFaults_now _ u), ?_, ?_, ?_,
      kept _ (writerFaults_held _ u), fun alarm standing waiting => startWorkFails_standby (s := u) _ starting alarm standing waiting⟩
    · rw [failed, faulted]; rfl
    · rw [failed]
    · rw [failed, faulted]; rfl
  · refine ⟨_, exec_logRecoveryComplete_of_ready run recovery made, fun none free => ?_, fun n seq next low high head best => ?_⟩
    · rw [recoverLog_none (findHead_of_none fun k seq next low high => none k seq next low high)]
      have port : (formatBegun s).fpt.port = Option.none := free
      refine ⟨?_, startOp_writer _ _, (startOp_issues _ port).2.2.2.2.2, startOp_sameBut _ (formatBegun s) .ssc (by decide)⟩
      rw [startOp_free port]
      rfl
    · rw [recoverLog_some (findHead_of_best ⟨low, high, head, best⟩)]
      obtain ⟨sector, offset, secSeq⟩ := finishRecovery_place n (walk s.mem.finish (n * 4096) 256 16 none).1 seq
        (((walk s.mem.finish (n * 4096) 256 16 none).2.map (· + 1)).getD next) (memReady s)
      refine ⟨sector, secSeq, (walk s.mem.finish (n * 4096) 256 16 none).2, ?_, ?_⟩
      · rw [offset]
        exact walk_walks s.mem.finish n 256 16 none (by decide) (by decide)
      · exact (finishRecovery_ends (s := memReady s) _ _ _ _ starting).of_same rfl rfl rfl
  · obtain ⟨since, running⟩ := Option.isSome_iff_exists.mp busy
    obtain ⟨on, -⟩ := eraseEnded_goesOn held
    have ended := operationEnded_sameBut s
    have rwr := operationEnded_rwr s
    obtain ⟨addr, rating, -⟩ := ended .straps (by decide)
    refine ⟨_, exec_eraseComplete_of_busy run running held writer, (ended.widen (by decide)).then on.same, ?_, ?_, ?_⟩
    · rw [eraseEnded_format held]
      exact startOp_writer _ _
    · rw [eraseEnded_format held, startOp_free (operationEnded_port port)]
      exact (congrArg Rwr.start rwr).trans format
    · rw [eraseEnded_format held, (startOp_issues _ (operationEnded_port port)).2.2.2.2.2, WriterOp.memOp, sectorHeadBytes,
        addr, rating]
      simp
  · obtain ⟨since, running⟩ := Option.isSome_iff_exists.mp busy
    have ended := operationEnded_sameBut s
    obtain ⟨sector, offset, secSeq⟩ := finishRecovery_place 1 16 1 1 (operationEnded s)
    have station : (operationEnded s).ssc.station = .starting := (congrArg Ssc.station (ended .ssc (by decide))).trans starting
    refine ⟨_, exec_programComplete_of_busy run running held writer, ?_⟩
    rw [programEnded_format held]
    exact ⟨sector, offset, secSeq, (finishRecovery_ends 1 16 1 1 station).of_same (operationEnded_rwr s)
      (ended .params (by decide)) (ended .pru (by decide))⟩

end Sys2Proof.Machine
end

/-! PROOFS. The dwells and time limits of joining and ship synchronising (R109 to R124). -/
section
namespace Sys2Proof.Machine

section
variable {s : State}

/-! ### A contactor command with the permit that follows it (R113, R122) -/

/-- SYN as a close of an open contactor leaves it. -/
theorem orderContactor_closes (opened : s.syn.cmdClosed = false) (away : s.ssc.station ≠ .shipSync) :
    orderContactor true s = { s with syn := { s.syn with
      cmdClosed := true, window := some s.now, confirmed := s.ccAux, permit := false } } := by
  simp [orderContactor, setPermit, commandContactor, Syn.command, opened, permitRule, away]

theorem reportClosed_of_unconfirmed (open_ : s.syn.confirmed = false) : reportClosed s = s :=
  if_neg fun met => by rw [open_] at met; exact absurd met.2.2.2.1 (by decide)

/-! ### Joining (R109 to R112) -/

theorem exec_joinDwellComplete_of_dwell {start : Nat} (run : s.phase = .run) (joining : s.ssc.station = .joining)
    (dwell : s.syn.joinDwell = some start) (live : s.btr.berthState = .live) (opened : s.syn.cmdClosed = false) :
    exec .joinDwellComplete s = .next (announce s (joinDwellDone (catchUp start (ms s.params.joinDwell) s))) := by
  have dispatched : exec .joinDwellComplete s = execJoinDwellComplete s := rfl
  rw [dispatched, execJoinDwellComplete, running_run run, announcing, if_pos ⟨joining, live, opened⟩, onExpiry_some dwell]

/-- The join path close of a contactor that reports open. -/
theorem joinDwellDone_closes (joining : s.ssc.station = .joining) (opened : s.syn.cmdClosed = false) (aux : s.ccAux = false) :
    joinDwellDone s = { s with syn := { s.syn with
      joinDwell := none, joinClosed := true, cmdClosed := true, window := some s.now, confirmed := false, permit := false } } := by
  rw [joinDwellDone, orderContactor_closes (s := { s with syn := { s.syn with joinDwell := none, joinClosed := true } }) opened
    (by rw [joining]; decide)]
  rw [reportClosed_of_unconfirmed aux]
  simp only [aux]

theorem exec_joinTimeLimitExpiry_of_joining {start : Nat} (run : s.phase = .run) (joining : s.ssc.station = .joining)
    (limit : s.syn.joinLimit = some start) :
    exec .joinTimeLimitExpiry s = .next (joinLimitReached (catchUp start (sec s.params.syncLimit) s)) := by
  have dispatched : exec .joinTimeLimitExpiry s = execJoinTimeLimitExpiry s := rfl
  rw [dispatched, execJoinTimeLimitExpiry, running_run run, if_pos joining, onExpiry_some limit]

theorem joinLimitReached_eq (s : State) :
    joinLimitReached s = hold .syncTimeout { s with syn := { s.syn with joinLimit := none } } := raise_alarm rfl

/-! ### Ship synchronising (R121 to R124) -/

theorem exec_shipDwellComplete_of_dwell {start : Nat} (run : s.phase = .run) (seeking : s.ssc.station = .shipSync)
    (dwell : s.syn.shipDwell = some start) (unready : s.syn.ready = false) :
    exec .shipDwellComplete s = .next (announce s (shipDwellDone (catchUp start (ms s.params.shipDwell) s))) := by
  have dispatched : exec .shipDwellComplete s = execShipDwellComplete s := rfl
  rw [dispatched, execShipDwellComplete, running_run run, announcing, if_pos ⟨seeking, unready⟩, onExpiry_some dwell]

theorem shipDwellDone_eq (seeking : s.ssc.station = .shipSync) :
    shipDwellDone s = { s with syn := { s.syn with ready := true, permit := true } } := by
  simp [shipDwellDone, setPermit, permitRule, seeking]

theorem exec_syncTimeLimitExpiry_of_shipSync {start : Nat} (run : s.phase = .run) (seeking : s.ssc.station = .shipSync)
    (limit : s.syn.syncLimit = some start) :
    exec .syncTimeLimitExpiry s = .next (announce s (syncLimitReached (catchUp start (sec s.params.syncLimit) s))) := by
  have dispatched : exec .syncTimeLimitExpiry s = execSyncTimeLimitExpiry s := rfl
  rw [dispatched, execSyncTimeLimitExpiry, running_run run, announcing, if_pos seeking, onExpiry_some limit]

/-- SHIP_SYNC left for ONLINE: the context at its starting values, the permit by the contactor alone (R123). -/
theorem enterOnline_of_shipSync (seeking : s.ssc.station = .shipSync) :
    (enterOnline s).ssc = { s.ssc with station := .online } ∧ (enterOnline s).pru = s.pru ∧
      (enterOnline s).syn = { s.syn with
        fSync := 0, vSync := 0, syncLimit := none, advance := none, predicted := none, slipOk := false, phaseOk := false
        voltOk := false, busOk := false, shipDwell := none, ready := false, permit := !s.syn.cmdClosed && !s.ccAux } ∧
      sameBut [.btr, .lkc, .pvw, .ssc, .syn] s (enterOnline s) := by
  have moves : enterOnline s = settled (moveTo .online s) := if_neg fun met => by rw [seeking] at met; exact absurd met.1 (by decide)
  rw [moves]
  refine ⟨by simp [moveTo], by simp, ?_, fun part other => ?_⟩
  · simp [settled, setPermit, judgeBand, permitRule, moveTo, seeking, Syn.moved, Syn.leaveShipSync]
  · cases part with
    | btr => simp at other
    | lkc => simp at other
    | pvw => simp at other
    | ssc => simp at other
    | syn => simp at other
    | _ => simp [Part.same, moveTo, seeking, Shc.moved, Hoc.moved, StationState.shipConnected]

end

/-- Settles O47: the dwells and time limits of JOINING and SHIP_SYNC. -/
theorem synchronisingTimersAct : Obligations.SynchronisingTimersAct := by
  refine ⟨fun s start run joining => ⟨fun dwell live opened aux => ?_, fun limit => ?_⟩,
    fun s start run seeking => ⟨fun dwell unready => ?_, fun limit => ?_⟩⟩
  · let u := catchUp start (ms s.params.joinDwell) s
    have closes : joinDwellDone u = { u with syn := { u.syn with
        joinDwell := none, joinClosed := true, cmdClosed := true, window := some u.now, confirmed := false, permit := false } } :=
      joinDwellDone_closes (s := u) joining opened aux
    have moved : sameBut [.clock, .syn] s (joinDwellDone u) := by
      rw [closes]
      intro part other
      cases part with
      | clock => simp at other
      | syn => simp at other
      | _ => simp [Part.same, u]
    refine ⟨_, exec_joinDwellComplete_of_dwell run joining dwell live opened,
      (moved.widen (by decide)).then ((announce_sameBut _ _).widen (by decide)), ?_, ?_⟩
    · rw [announce_now]
      exact congrArg State.now closes
    · rw [announce_syn, announce_now, show joinDwellDone (catchUp start (ms s.params.joinDwell) s) = _ from closes]
      exact ⟨rfl, rfl, rfl, rfl, rfl, rfl⟩
  · rw [exec_joinTimeLimitExpiry_of_joining run joining limit, joinLimitReached_eq]
    rfl
  · let u := catchUp start (ms s.params.shipDwell) s
    have released : shipDwellDone u = { u with syn := { u.syn with ready := true, permit := true } } :=
      shipDwellDone_eq (s := u) seeking
    have moved : sameBut [.clock, .syn] s (shipDwellDone u) := by
      rw [released]
      intro part other
      cases part with
      | clock => simp at other
      | syn => simp at other
      | _ => simp [Part.same, u]
    refine ⟨_, exec_shipDwellComplete_of_dwell run seeking dwell unready,
      (moved.widen (by decide)).then ((announce_sameBut _ _).widen (by decide)), ?_, ?_⟩
    · rw [announce_now]
      exact congrArg State.now released
    · rw [announce_syn]
      exact congrArg State.syn released
  · let u := catchUp start (sec s.params.syncLimit) s
    have reached : syncLimitReached u = enterOnline (hold .syncTimeout u) := congrArg enterOnline (raise_alarm rfl)
    obtain ⟨ssc, pru, syn, moved⟩ := enterOnline_of_shipSync (s := hold .syncTimeout u) seeking
    rw [← reached] at ssc pru syn moved
    have before : sameBut [.clock, .pru] s (hold .syncTimeout u) :=
      ((catchUp_near start _ s).widen (by decide)).then ((hold_sameBut _ u).widen (by decide))
    refine ⟨_, exec_syncTimeLimitExpiry_of_shipSync run seeking limit,
      ((before.widen (by decide)).then (moved.widen (by decide))).then ((announce_sameBut _ _).widen (by decide)), ?_, ?_, ?_⟩
    · rw [announce_ssc]
      exact ssc
    · rw [announce_held_iff (by decide), pru]
      exact mem_held_hold _ _
    · rw [announce_syn]
      exact syn

end Sys2Proof.Machine
end

/-! PROOFS. The contactor watched through its confirmation window and outside it (R114, R115). -/
section
namespace Sys2Proof.Machine

section
variable {s : State}

/-! ### The permit drive after a change of state (R122) -/

/-- The permit drive stands as R122 gives it. -/
def PermitFollows (s : State) : Prop := s.syn.permit = permitRule s

theorem PermitFollows.of_same {t : State} (follows : PermitFollows s) (syn : t.syn = s.syn) (ccAux : t.ccAux = s.ccAux)
    (ssc : t.ssc = s.ssc) : PermitFollows t := by
  rw [PermitFollows, permitRule, syn, ccAux, ssc]
  exact follows

theorem settled_permitFollows (s : State) : PermitFollows (settled s) := rfl

theorem setPermit_permitFollows (s : State) : PermitFollows (setPermit s) := rfl

theorem enterTripped_permitFollows (s : State) : PermitFollows (enterTripped s) := by
  unfold enterTripped
  exact settled_permitFollows _

theorem tripWith_permitFollows (r : FirstCause) (s : State) : PermitFollows (tripWith r s) := by
  refine (enterTripped_permitFollows { s with pru := { s.pru with first := some r } }).of_same ?_ ?_ ?_
  all_goals simp only [tripWith_eq, standsTripped_eq, submitRecord_syn, submit_syn, announce_syn, submitRecord_ccAux,
    submit_ccAux, announce_ccAux, submitRecord_ssc, submit_ssc, announce_ssc]

theorem raise_permitFollows {c : Condition} (follows : PermitFollows s) : PermitFollows (raise c s) := by
  rcases raise_cases c s with same | ⟨-, -, -, same⟩ <;> rw [same]
  · exact follows
  · exact tripWith_permitFollows _ _

theorem enterHandoverIn_permitFollows (s : State) : PermitFollows (enterHandoverIn s) := by
  unfold enterHandoverIn
  exact (settled_permitFollows _).of_same (submitEvent_syn _ _ _) (submitEvent_ccAux _ _ _) (submitEvent_ssc _ _ _)

theorem reportClosed_permitFollows (follows : PermitFollows s) : PermitFollows (reportClosed s) := by
  unfold reportClosed enterOnline
  split
  · split
    · exact enterHandoverIn_permitFollows _
    · exact settled_permitFollows _
  · exact follows

theorem announce_permitFollows (before : State) (follows : PermitFollows s) : PermitFollows (announce before s) :=
  follows.of_same (announce_syn _ _) (announce_ccAux _ _) (announce_ssc _ _)

/-! ### The cadence restarted (R57) -/

/-- The cadence has restarted now, with the slot count at 0. -/
def Restarted (s : State) : Prop := s.pvw.slot = 0 ∧ s.pvw.cadence = some s.now

theorem announce_keeps_restarted (before : State) (restarted : Restarted s) : Restarted (announce before s) := by
  rw [announce_eq]
  split
  · exact ⟨rfl, rfl⟩
  · exact restarted

/-- One of R57's items differs: the cadence restarts. -/
theorem announce_restarts_of_differs {before : State} (run : s.phase = .run) (broadcasting : s.ssc.station.broadcasting = true)
    (differs : announced before ≠ announced s) : Restarted (announce before s) := by
  have triggers : announces before s = true := by simp [announces, run, broadcasting, differs]
  rw [announce_eq, if_pos triggers]
  exact ⟨rfl, rfl⟩

theorem tripWith_keeps_restarted (r : FirstCause) (restarted : Restarted s) : Restarted (tripWith r s) := by
  have entered : Restarted (enterTripped { s with pru := { s.pru with first := some r } }) := by
    have pvw : (enterTripped { s with pru := { s.pru with first := some r } }).pvw.slot = s.pvw.slot ∧
        (enterTripped { s with pru := { s.pru with first := some r } }).pvw.cadence = s.pvw.cadence := by
      simp only [enterTripped, settled_pvw, clearClosed_pvw, moveTo]
      split <;> exact ⟨rfl, rfl⟩
    have now : (enterTripped { s with pru := { s.pru with first := some r } }).now = s.now :=
      enterTripped_sameBut _ .clock (by decide)
    rw [Restarted, pvw.1, pvw.2, now]
    exact restarted
  have announced : Restarted (standsTripped r s) := announce_keeps_restarted _ entered
  rw [tripWith_eq, Restarted, submitRecord_pvw, submit_pvw, submitRecord_now, submit_now]
  exact announced

theorem raise_keeps_restarted {c : Condition} (restarted : Restarted s) : Restarted (raise c s) := by
  rcases raise_cases c s with same | ⟨-, -, -, same⟩ <;> rw [same]
  · exact restarted
  · exact tripWith_keeps_restarted _ restarted

/-! ### The confirmation window's end (R114) -/

theorem exec_confirmationWindowEnd_of_window {start : Nat} (up : s.phase ≠ .rstLow) (window : s.syn.window = some start) :
    exec .confirmationWindowEnd s = .next (windowEnded (catchUp start 1200 s)) := by
  have dispatched : exec .confirmationWindowEnd s = execConfirmationWindowEnd s := rfl
  rw [dispatched, execConfirmationWindowEnd, taken_up up, onExpiry_some window]

/-- The window ended, CC_AUX not yet judged. -/
def windowClosed (s : State) : State := { s with syn := { s.syn with window := none } }

theorem windowEnded_agrees (agrees : s.ccAux = s.syn.cmdClosed) : windowEnded s = windowClosed s := by
  simp [windowEnded, raiseIf, agrees, windowClosed]

theorem windowEnded_strays (strays : s.ccAux ≠ s.syn.cmdClosed) : windowEnded s = raise .contactorFail (windowClosed s) := by
  simp [windowEnded, raiseIf, strays, windowClosed]

theorem windowClosed_sameBut (s : State) : sameBut [.syn] s (windowClosed s) := by
  intro part other
  cases part with
  | syn => simp at other
  | _ => simp [Part.same, windowClosed]

/-! ### A change of CC_AUX (R114, R115) -/

/-- CC_AUX at its new level, the close confirmed where its window is open, the permit drive after it. -/
def auxMoved (closed : Bool) (s : State) : State :=
  setPermit { s with
    ccAux := closed
    syn := { s.syn with confirmed := s.syn.confirmed || (s.syn.window.isSome && closed == s.syn.cmdClosed) } }

theorem ccAuxTaken_eq (closed : Bool) (s : State) : ccAuxTaken closed s = reportClosed (auxMoved closed s) := rfl

theorem auxMoved_sameBut (closed : Bool) (s : State) : sameBut [.ccAux, .syn] s (auxMoved closed s) := by
  intro part other
  cases part with
  | ccAux => simp at other
  | syn => simp at other
  | _ => simp [Part.same, auxMoved]

theorem exec_ccAuxChange_of_change {closed : Bool} (run : s.phase = .run) (change : s.ccAux ≠ closed) :
    exec (.ccAuxChange closed) s =
      .next (raiseIf (ccAuxStrays closed s) .contactorFail (announce s (ccAuxTaken closed s))) := by
  have dispatched : exec (.ccAuxChange closed) s = execCcAuxChange closed s := rfl
  rw [dispatched, execCcAuxChange, taken_up (by rw [run]; decide), if_neg change, announcing]

theorem reportClosed_elsewhere (away : s.ssc.station ≠ .joining) : reportClosed s = s := if_neg fun met => away met.2.1

theorem reportClosed_joined (run : s.phase = .run) (joining : s.ssc.station = .joining) (command : s.syn.cmdClosed = true)
    (confirmed : s.syn.confirmed = true) (live : s.btr.berthState = .live) : reportClosed s = enterOnline s :=
  if_pos ⟨run, joining, command, confirmed, live⟩

/-- JOINING left for ONLINE, or for HANDOVER_IN with the ship breaker closed (R93, R109). -/
theorem enterOnline_of_joining (joining : s.ssc.station = .joining) :
    (enterOnline s).ssc.station = (if s.sbAux then .handoverIn else .online) ∧ (enterOnline s).syn.fSync = 0 ∧
      (enterOnline s).syn.cmdClosed = s.syn.cmdClosed := by
  cases breaker : s.sbAux with
  | false =>
    have moves : enterOnline s = settled (moveTo .online s) := if_neg (by simp [breaker])
    rw [moves]
    simp [moveTo, joining, Syn.moved, Syn.leaveJoining, settled, setPermit, judgeBand]
  | true =>
    have moves : enterOnline s = enterHandoverIn (settled (moveTo .online s)) := if_pos ⟨joining, breaker⟩
    rw [moves]
    simp [enterHandoverIn, moveTo, joining, Syn.moved, Syn.leaveJoining, settled, setPermit, judgeBand]

/-- What a confirmed close makes of the station: nothing, or a state on the bus; PRU, clock, phase and CC_AUX stand. -/
theorem reportClosed_keeps (s : State) :
    ((reportClosed s).ssc.station = s.ssc.station ∨ (reportClosed s).ssc.station ∈ [StationState.online, .handoverIn]) ∧
      (reportClosed s).pru = s.pru ∧ (reportClosed s).now = s.now ∧ (reportClosed s).phase = s.phase ∧
      (reportClosed s).ccAux = s.ccAux := by
  unfold reportClosed enterOnline
  split
  · split
    · simp [enterHandoverIn, moveTo]
    · simp [moveTo]
  · exact ⟨.inl rfl, rfl, rfl, rfl, rfl⟩

/-- The station as a change of CC_AUX leaves it, CONTACTOR_FAIL not yet judged. -/
theorem ccAuxTaken_keeps (closed : Bool) (s : State) :
    ((ccAuxTaken closed s).ssc.station = s.ssc.station ∨
        (ccAuxTaken closed s).ssc.station ∈ [StationState.online, .handoverIn]) ∧
      (ccAuxTaken closed s).pru = s.pru ∧ (ccAuxTaken closed s).now = s.now ∧ (ccAuxTaken closed s).phase = s.phase ∧
      (ccAuxTaken closed s).ccAux = closed := by
  obtain ⟨station, pru, now, phase, ccAux⟩ := reportClosed_keeps (auxMoved closed s)
  exact ⟨station, pru, now, phase, ccAux⟩

/-- The station with the STATUS that the change triggers. -/
def auxAnnounced (closed : Bool) (s : State) : State := announce s (ccAuxTaken closed s)

theorem auxAnnounced_keeps (closed : Bool) (s : State) :
    (auxAnnounced closed s).ccAux = closed ∧ PermitFollows (auxAnnounced closed s) ∧
      (.contactorFail ∈ (auxAnnounced closed s).pru.held ↔ .contactorFail ∈ s.pru.held) := by
  obtain ⟨-, pru, -, -, ccAux⟩ := ccAuxTaken_keeps closed s
  refine ⟨(announce_ccAux _ _).trans ccAux,
    announce_permitFollows s (reportClosed_permitFollows (setPermit_permitFollows _)), ?_⟩
  rw [auxAnnounced, announce_held_iff (by decide), pru]

theorem auxAnnounced_restarted {closed : Bool} (run : s.phase = .run) (change : s.ccAux ≠ closed)
    (broadcasting : s.ssc.station.broadcasting = true) : Restarted (auxAnnounced closed s) ∧ (auxAnnounced closed s).now = s.now := by
  obtain ⟨station, -, now, phase, ccAux⟩ := ccAuxTaken_keeps closed s
  refine ⟨announce_restarts_of_differs (phase.trans run) ?_ fun same => change ?_, (announce_now _ _).trans now⟩
  · rcases station with same | moved
    · rw [same]; exact broadcasting
    · revert moved
      cases (ccAuxTaken closed s).ssc.station <;> decide
  · have items := congrArg (fun items => items.2.1) same
    exact items.trans ccAux

theorem auxAnnounced_canTrip {closed : Bool} (can : canTrip s = true) : canTrip (auxAnnounced closed s) = true := by
  obtain ⟨station, -, -, phase, -⟩ := ccAuxTaken_keeps closed s
  rw [canTrip, auxAnnounced, announce_ssc, announce_phase, phase]
  rcases station with same | moved
  · rw [same]; exact can
  · have run : s.phase = .run := by simp [canTrip] at can; exact can.1.1.1
    rw [run]
    revert moved
    cases (ccAuxTaken closed s).ssc.station <;> decide

theorem raiseIf_keeps {P : State → Prop} {met : Bool} {c : Condition} (keeps : P s → P (raise c s)) (start : P s) :
    P (raiseIf met c s) := by
  cases met
  · exact start
  · exact keeps start

theorem raise_ccAux (c : Condition) (s : State) : (raise c s).ccAux = s.ccAux := by
  rcases raise_cases c s with same | ⟨-, -, -, same⟩ <;> rw [same]
  · rfl
  · exact tripWith_sameBut _ _ .ccAux (by decide)

theorem raiseIf_now (met : Bool) (c : Condition) (s : State) : (raiseIf met c s).now = s.now := by
  cases met
  · rfl
  · exact raise_now c s

end

/-- Settles O48: the end of the confirmation window, and a change of CC_AUX. -/
theorem contactorIsWatched : Obligations.ContactorIsWatched := by
  refine ⟨fun s start up window => ⟨fun agrees => ?_, fun strays => ?_⟩, fun s closed run change => ?_⟩
  · rw [exec_confirmationWindowEnd_of_window up window, windowEnded_agrees (s := catchUp start 1200 s) agrees]
    rfl
  · let u := windowClosed (catchUp start 1200 s)
    have before : sameBut [.clock, .syn] s u :=
      ((catchUp_near start 1200 s).widen (by decide)).then ((windowClosed_sameBut _).widen (by decide))
    have can : canTrip u = canTrip s := by rw [canTrip, canTrip, before .phase (by decide), before .ssc (by decide)]
    refine ⟨raise .contactorFail u, ?_, mem_held_raise _ _, fun standing => ?_, fun trips fresh => ?_⟩
    · rw [exec_confirmationWindowEnd_of_window up window, windowEnded_strays (s := catchUp start 1200 s) strays]
    · rw [raise_cannot_trip (can.trans standing)]
      exact ⟨(before.widen (by decide)).then ((hold_sameBut _ _).widen (by decide)), rfl⟩
    · exact raise_trips (s := u) fresh rfl (can.trans trips)
  · let u := auxAnnounced closed s
    obtain ⟨ccAux, permit, held⟩ := auxAnnounced_keeps closed s
    refine ⟨raiseIf (ccAuxStrays closed s) .contactorFail u, exec_ccAuxChange_of_change run change, ?_, ?_,
      fun broadcasting => ?_, fun quiet => ?_, fun open_ strays => ?_, fun joining up command window live => ?_,
      fun away quiet => ?_⟩
    · exact raiseIf_keeps (P := fun t => t.ccAux = closed) (fun was => (raise_ccAux _ _).trans was) ccAux
    · exact raiseIf_keeps (P := PermitFollows) raise_permitFollows permit
    · obtain ⟨restarted, now⟩ := auxAnnounced_restarted run change broadcasting
      obtain ⟨slot, cadence⟩ := raiseIf_keeps (P := Restarted) (met := ccAuxStrays closed s) (c := .contactorFail)
        raise_keeps_restarted restarted
      exact ⟨slot, by rw [cadence, raiseIf_now, now]⟩
    · have stands : ccAuxStrays closed s = false := by
        rcases quiet with window | agrees
        · simp [ccAuxStrays, Option.isSome_iff_ne_none.mp window]
        · simp [ccAuxStrays, agrees]
      rw [stands]
      exact held
    · have is : ccAuxStrays closed s = true := by simp [ccAuxStrays, open_, strays]
      rw [is]
      refine ⟨mem_held_raise _ _, fun can fresh => ?_⟩
      obtain ⟨station, gate, contactor, -⟩ := raise_trips (s := u) (fun was => fresh (held.mp was)) rfl (auxAnnounced_canTrip can)
      exact ⟨station, gate, contactor⟩
    · have stands : ccAuxStrays closed s = false := by simp [ccAuxStrays, Option.isSome_iff_ne_none.mp window]
      have moved := auxMoved_sameBut closed s
      have confirmed : (auxMoved closed s).syn.confirmed = true := by simp [auxMoved, setPermit, window, up, command]
      have joins : ccAuxTaken closed s = enterOnline (auxMoved closed s) := by
        rw [ccAuxTaken_eq]
        exact reportClosed_joined run joining command confirmed live
      obtain ⟨station, fSync, contactor⟩ := enterOnline_of_joining (s := auxMoved closed s) joining
      rw [stands, show raiseIf false .contactorFail u = announce s (ccAuxTaken closed s) from rfl, announce_ssc, announce_syn, joins,
        station, fSync, contactor]
      exact ⟨rfl, rfl, command⟩
    · have stands : ccAuxStrays closed s = false := by
        rcases quiet with window | agrees
        · simp [ccAuxStrays, Option.isSome_iff_ne_none.mp window]
        · simp [ccAuxStrays, agrees]
      have stays : ccAuxTaken closed s = auxMoved closed s := by
        rw [ccAuxTaken_eq]
        exact reportClosed_elsewhere (s := auxMoved closed s) away
      rw [stands, show raiseIf false .contactorFail u = announce s (ccAuxTaken closed s) from rfl, stays]
      exact ((auxMoved_sameBut closed s).widen (by decide)).then ((announce_sameBut _ _).widen (by decide))

end Sys2Proof.Machine
end

/-! PROOFS. The timers of a claim: submission, expiry and the energise timer (R105, R108). -/
section
namespace Sys2Proof.Machine

section
variable {s : State}

/-! ### A CLAIM submitted (R105) -/

theorem raiseClaim_of_not (not : mayClaim s = false) : raiseClaim s = s := if_neg (by rw [not]; decide)

theorem claim_idle_iff (c : Claim) : c.idle = true ↔ c = .free ∨ c = .expired := by
  cases c <;> simp [Claim.idle]

theorem Syn.claimWait_self {y : Syn} (stands : y.claimWait = false) : { y with claimWait := false } = y := by
  rw [← stands]

/-- An entry of the transmit queue for a CLAIM. -/
def claimEntry (id : SessionId) : TxEntry :=
  { frame := { kind := .claim, payload := beBytes 4 id.toNat }, retry := 0, inAttempt := false }

/-- Where R105's conditions hold and the queue has room, the CLAIM is put at its end. -/
theorem raiseClaim_of_may {id : SessionId} (may : mayClaim s = true) (held : sessionId s = some id) (enabled : s.lkc.enabled = true)
    (room : s.lkc.queue.length < 8) :
    raiseClaim s = { s with lkc := { s.lkc with queue := s.lkc.queue ++ [claimEntry id] } } := by
  obtain ⟨-, joining, -, -, -, -, stands, -⟩ := (mayClaim_iff _).mp may
  have frame : claimFrame s = { kind := .claim, payload := beBytes 4 id.toNat } := by
    simp [claimFrame, sessionIdNat, held]
  have listening : s.ssc.station.listening = false := by rw [joining]; rfl
  have taken := enqueue_plain (f := claimFrame s) (l := s.lkc) rfl (fun log => FrameKind.noConfusion log) enabled room
  have accepted : submitted (claimFrame s) s = .accepted := by rw [submitted, listening, taken]
  have queued : submit (claimFrame s) s = { s with lkc := s.lkc.push (claimFrame s) } := by
    rw [submit, listening, taken, accepted]
    rfl
  have raised : raiseClaim s = { submit (claimFrame s) s with
      syn := { (submit (claimFrame s) s).syn with claimWait := decide (submitted (claimFrame s) s = .overrun) } } := if_pos may
  rw [raised, queued, accepted, frame]
  show { s with lkc := _, syn := { s.syn with claimWait := false } } = _
  rw [Syn.claimWait_self stands]
  rfl

theorem raiseClaim_sameBut (s : State) : sameBut [.lkc, .syn, .pru] s (raiseClaim s) := by
  intro part other
  unfold raiseClaim
  cases part with
  | lkc => simp at other
  | syn => simp at other
  | pru => simp at other
  | _ => split <;> simp [Part.same]

theorem raiseClaim_syn (s : State) : ∃ wait : Bool, (raiseClaim s).syn = { s.syn with claimWait := wait } := by
  unfold raiseClaim
  split
  · exact ⟨_, rfl⟩
  · exact ⟨s.syn.claimWait, rfl⟩

theorem raiseClaim_held {c : Condition} (s : State) (held : c ∈ s.pru.held) : c ∈ (raiseClaim s).pru.held := by
  unfold raiseClaim
  split
  · rcases submit_pru_cases (claimFrame s) s with same | more
    · exact same ▸ held
    · exact more ▸ (held_hold _ _ _).mpr (.inr held)
  · exact held

/-! ### The settle timer and free entries (R105) -/

theorem exec_settleTimerExpiry_of_settle {start : Nat} (run : s.phase = .run) (settle : s.syn.settle = some start)
    (unsettled : s.syn.settled = false) : exec .settleTimerExpiry s = .next (settleReached (catchUp start 1600 s)) := by
  have dispatched : exec .settleTimerExpiry s = execSettleTimerExpiry s := rfl
  rw [dispatched, execSettleTimerExpiry, running_run run, if_neg (by simp [unsettled]), onExpiry_some settle]

theorem exec_claimResubmit_of_wait (run : s.phase = .run) (waits : s.syn.claimWait = true) (free : 1 ≤ s.lkc.free) :
    exec .claimResubmit s = .next (resubmitClaim s) := by
  have dispatched : exec .claimResubmit s = execClaimResubmit s := rfl
  rw [dispatched, execClaimResubmit, running_run run, if_pos ⟨waits, free⟩]

/-! ### CLAIMs in the queue beside a STATUS (R52) -/

/-- The CLAIMs pending. -/
def claims (q : List TxEntry) : List TxEntry := q.filter fun e => e.frame.kind == .claim

theorem claims_none (none : claimPending s = false) : claims s.lkc.queue = [] := by
  rw [claims, List.filter_eq_nil_iff]
  exact List.any_eq_false.mp none

theorem claims_replaceStatus {f : Frame} (status : f.isStatus = true) (q : List TxEntry) : claims (replaceStatus f q) = claims q := by
  have other {g : Frame} (is : g.isStatus = true) : (g.kind == .claim) = false := by
    unfold Frame.isStatus at is
    cases kind : g.kind <;> simp_all
  induction q with
  | nil => rfl
  | cons e rest ih =>
    simp only [claims, replaceStatus, List.map_cons, List.filter_cons] at ih ⊢
    rw [ih]
    by_cases is : e.frame.isStatus = true
    · simp [is, other is, other status]
    · simp [is]

theorem claims_dropOldestLog {q r : List TxEntry} (dropped : dropOldestLog q = some r) : claims r = claims q := by
  induction q generalizing r with
  | nil => simp [dropOldestLog] at dropped
  | cons e rest ih =>
    simp only [dropOldestLog] at dropped
    split at dropped
    next log =>
      have away : (e.frame.kind == .claim) = false := by simp_all
      simp_all [claims]
    · obtain ⟨q, kept, rfl⟩ := Option.map_eq_some_iff.mp dropped
      simp only [claims, List.filter_cons] at ih ⊢
      rw [ih kept]

theorem claims_enqueue {f : Frame} (status : f.isStatus = true) (listening : Bool) (l : Lkc) :
    claims (l.enqueue listening f).1.queue = claims l.queue := by
  have away : (f.kind == .claim) = false := by
    unfold Frame.isStatus at status
    cases kind : f.kind <;> simp_all
  rcases enqueue_cases listening f l with same | ⟨-, replaced⟩ | ⟨-, joined⟩ | ⟨q, dropped, joined⟩
  · rw [same]
  · rw [replaced, claims_replaceStatus status]
  · rw [joined]
    simp [claims, List.filter_append, away]
  · rw [joined, ← claims_dropOldestLog dropped]
    simp [claims, List.filter_append, away]

theorem claims_announce (before after : State) : claims (announce before after).lkc.queue = claims after.lkc.queue := by
  rw [announce_eq]
  split
  · exact claims_enqueue rfl _ _
  · rfl

/-! ### The claim 3 s old (R108) -/

theorem exec_claimExpiry_of_timer {start : Nat} (run : s.phase = .run) (timer : s.syn.claim.timer = some start) :
    exec .claimExpiry s = .next (announce s (claimExpired (catchUp start 24000 s))) := by
  have dispatched : exec .claimExpiry s = execClaimExpiry s := rfl
  rw [dispatched, execClaimExpiry, running_run run, announcing, onExpiry_some timer]

/-- The claim context EXPIRED, the clock at the moment it is due. -/
def claimOver (start : Nat) (s : State) : State :=
  { s with now := max s.now (start + 24000), syn := { s.syn with claim := .expired } }

theorem claimExpired_eq {start : Nat} (timer : s.syn.claim.timer = some start) :
    claimExpired (catchUp start 24000 s) = raiseClaim (claimOver start s) := by
  have expires : s.syn.claim.expire = .expired := by
    cases held : s.syn.claim with
    | free => rw [held] at timer; cases timer
    | _ => rfl
  rw [claimExpired, catchUp, expires]
  rfl

theorem claimOver_sameBut (start : Nat) (s : State) : sameBut [.clock, .syn] s (claimOver start s) := by
  intro part other
  cases part with
  | clock => simp at other
  | syn => simp at other
  | _ => simp [Part.same, claimOver]

/-- A foreign claim given up changes none of R57's items. -/
theorem announce_foreign {a : Addr} {start : Nat} (foreign : s.syn.claim = .foreign a start) {t : State}
    (same : announced t = announced (claimOver start s)) : announce s t = t := by
  have stands : announced s = announced (claimOver start s) := by simp [announced, claimOver, foreign]
  have quiet : announces s t = false := by simp [announces, same, stands]
  rw [announce_eq, if_neg (by simp [quiet])]

/-! ### The energise timer (R108) -/

theorem exec_energiseTimerExpiry_of_timer {start : Nat} (run : s.phase = .run) (timer : s.syn.energise = some start) :
    exec .energiseTimerExpiry s = .next (announce s (energiseFailed (catchUp start 24000 s))) := by
  have dispatched : exec .energiseTimerExpiry s = execEnergiseTimerExpiry s := rfl
  rw [dispatched, execEnergiseTimerExpiry, running_run run, announcing, onExpiry_some timer]

/-- The contactor commanded open and ENERGISE_FAILED held. -/
def energiseHeld (s : State) : State := hold .energiseFailed (orderContactor false s)

/-- The EVENT of a failed energising. -/
def energiseEvent (s : State) : LogRecord := eventRecord 8 (BitVec.ofNat 8 s.btr.berthState.code :: beBytes 2 s.msu.vB.toNat)

/-- With its EVENT, the timer stopped and an OWN context EXPIRED. -/
def energiseLogged (s : State) : State :=
  let logged := submitRecord (energiseEvent s) (sessionId s) (energiseHeld s)
  { logged with syn := { logged.syn with
    energise := none
    claim :=
      match logged.syn.claim with
      | .own _ => .expired
      | c => c } }

theorem energiseFailed_eq (s : State) : energiseFailed s = raiseClaim (energiseLogged s) := by
  have alarm : raise .energiseFailed (orderContactor false s) = energiseHeld s := raise_alarm rfl
  unfold energiseFailed
  rw [alarm]
  rfl

theorem energiseHeld_sameBut (s : State) : sameBut [.syn, .pru] s (energiseHeld s) := by
  intro part other
  cases part with
  | syn => simp at other
  | pru => simp at other
  | _ => simp [Part.same, energiseHeld]

theorem energiseLogged_sameBut (s : State) : sameBut [.syn, .emt, .rwr, .pru] s (energiseLogged s) := by
  refine (((energiseHeld_sameBut s).widen (by decide)).then
    ((submitRecord_sameBut (energiseEvent s) (sessionId s) (energiseHeld s)).widen (by decide))).then fun part other => ?_
  cases part with
  | syn => simp at other
  | _ => simp [Part.same, energiseLogged]

theorem orderContactor_open (s : State) : (orderContactor false s).syn.cmdClosed = false := by
  simp only [orderContactor, setPermit, commandContactor, Syn.command]
  split
  · assumption
  · rfl

theorem energiseLogged_syn (s : State) :
    (energiseLogged s).syn.cmdClosed = false ∧ (energiseLogged s).syn.energise = none ∧
      ∀ time, (energiseLogged s).syn.claim ≠ .own time := by
  refine ⟨orderContactor_open s, rfl, fun time own => ?_⟩
  simp only [energiseLogged] at own
  split at own
  · cases own
  next other => exact other time own

end

/-- Settles O46: the settle timer, free entries, the claim's expiry and the energise timer. -/
theorem claimTimersAct : Obligations.ClaimTimersAct := by
  intro s start id run held
  refine ⟨fun joining dead idle none enabled room path => ⟨fun settle unsettled stands => ?_, fun waits settled => ?_⟩,
    fun joining closed path => ⟨fun settle unsettled => ?_, fun waits free => ?_⟩, fun away claim => ?_, fun joining claim => ?_,
    fun energise => ?_⟩
  · let u : State := { catchUp start 1600 s with syn := { s.syn with settled := true } }
    have may : mayClaim u = true :=
      (mayClaim_iff _).mpr ⟨run, joining, dead, rfl, (claim_idle_iff _).mpr idle, none, stands, fun closed => path.resolve_left (by simp [show s.syn.cmdClosed = true from closed])⟩
    rw [exec_settleTimerExpiry_of_settle run settle unsettled, settleReached]
    exact congrArg Host.Outcome.next (raiseClaim_of_may (s := u) may held enabled room)
  · let u : State := { s with syn := { s.syn with claimWait := false } }
    have may : mayClaim u = true :=
      (mayClaim_iff _).mpr ⟨run, joining, dead, settled, (claim_idle_iff _).mpr idle, none, rfl, fun closed => path.resolve_left (by simp [show s.syn.cmdClosed = true from closed])⟩
    rw [exec_claimResubmit_of_wait run waits (by simp [Lkc.free]; omega), resubmitClaim]
    exact congrArg Host.Outcome.next (raiseClaim_of_may (s := u) may held enabled room)
  · let u : State := { catchUp start 1600 s with syn := { s.syn with settled := true } }
    have not : mayClaim u = false := by simp [mayClaim, waitsClosed, u, closed, path]
    rw [exec_settleTimerExpiry_of_settle run settle unsettled, settleReached]
    exact congrArg Host.Outcome.next (raiseClaim_of_not (s := u) not)
  · let u : State := { s with syn := { s.syn with claimWait := false } }
    have not : mayClaim u = false := by simp [mayClaim, waitsClosed, u, closed, path]
    rw [exec_claimResubmit_of_wait run waits free, resubmitClaim]
    exact congrArg Host.Outcome.next (raiseClaim_of_not (s := u) not)
  · have timer : s.syn.claim.timer = some start := by rcases claim with own | ⟨a, foreign⟩ <;> simp [*, Claim.timer]
    rw [exec_claimExpiry_of_timer run timer, claimExpired_eq timer, raiseClaim_of_other (s := claimOver start s) away]
    exact ⟨_, rfl, ((claimOver_sameBut start s).widen (by decide)).then ((announce_sameBut _ _).widen (by decide)),
      announce_now _ _, announce_syn _ _⟩
  · have timer : s.syn.claim.timer = some start := by rcases claim with own | ⟨a, foreign⟩ <;> simp [*, Claim.timer]
    let u := claimOver start s
    have raised := raiseClaim_sameBut u
    rw [exec_claimExpiry_of_timer run timer, claimExpired_eq timer]
    refine ⟨_, rfl, (((claimOver_sameBut start s).widen (by decide)).then (raised.widen (by decide))).then
      ((announce_sameBut _ _).widen (by decide)), (announce_now _ _).trans (raised .clock (by decide)),
      (congrArg Syn.claim (announce_syn _ _)).trans (raiseClaim_claim u), fun dead settled stands none enabled room path => ?_,
      fun waits => ?_⟩
    · have may : mayClaim u = true := (mayClaim_iff _).mpr ⟨run, joining, dead, settled, rfl, none, stands, fun closed => path.resolve_left (by simp [show s.syn.cmdClosed = true from closed])⟩
      have queued := raiseClaim_of_may (s := u) may held enabled room
      have one : claims (s.lkc.queue ++ [claimEntry id]) = [claimEntry id] := by
        rw [claims, List.filter_append, show s.lkc.queue.filter _ = [] from claims_none none]
        rfl
      refine ⟨?_, ?_, ?_⟩
      · rw [announce_syn, queued]
        rfl
      · refine (claims_announce s (raiseClaim u)).trans ?_
        rw [queued]
        exact one
      · rintro ⟨a, foreign⟩
        rw [announce_foreign foreign (t := raiseClaim u) (by rw [queued]; rfl), queued]
        exact List.take_left' rfl
    · have not : mayClaim u = false := by
        rw [← Bool.not_eq_true, mayClaim_iff]
        rintro ⟨-, -, dead, settled, -, none, stands, path⟩
        rcases waits with live | unsettled | waiting | pending | ⟨closed, joined⟩
        · exact live dead
        · exact absurd (settled.symm.trans unsettled) (by decide)
        · exact absurd (stands.symm.trans waiting) (by decide)
        · exact absurd (none.symm.trans pending) (by decide)
        · exact absurd ((path closed).symm.trans joined) (by decide)
      rw [raiseClaim_of_not not]
      refine ⟨announce_syn _ _, claims_announce s u, ?_⟩
      rintro ⟨a, foreign⟩
      rw [announce_foreign foreign (t := u) rfl]
      rfl
  · let u := catchUp start 24000 s
    have logged := energiseLogged_sameBut u
    have raised := raiseClaim_sameBut (energiseLogged u)
    obtain ⟨opened, stopped, given⟩ := energiseLogged_syn u
    obtain ⟨wait, syn⟩ := raiseClaim_syn (energiseLogged u)
    rw [exec_energiseTimerExpiry_of_timer run energise, energiseFailed_eq]
    refine ⟨_, rfl, ((((catchUp_near start 24000 s).widen (by decide)).then (logged.widen (by decide))).then
      (raised.widen (by decide))).then ((announce_sameBut _ _).widen (by decide)), ?_, ?_, ?_, fun time => ?_, fun room => ?_⟩
    · rw [announce_syn, syn]
      exact opened
    · rw [announce_syn, syn]
      exact stopped
    · rw [announce_held_iff (by decide)]
      exact raiseClaim_held _ (mem_held_hold _ _)
    · rw [announce_syn, raiseClaim_claim]
      exact given time
    · have queue : (submitRecord (energiseEvent u) (sessionId u) (energiseHeld u)).rwr.queue = _ :=
        submitRecord_queue_of_room _ _ room
      rw [announce_rwr, raised .rwr (by decide), show (energiseLogged u).rwr.queue = _ from queue,
        show (energiseHeld u).rwr.queue = s.rwr.queue from rfl, List.drop_left' rfl, ← held]
      rfl

end Sys2Proof.Machine
end

/-! PROOFS. The ends of an own attempt (R45, R47 to R50, R52, R61) and the CLAIMs seen (R106, R107). -/
section
namespace Sys2Proof.Machine

/-! ### The queue of an attempt (R52) -/

section
variable {before after : List TxEntry} {e : TxEntry}

theorem map_stays {q : List TxEntry} {f : TxEntry → TxEntry} (same : ∀ x ∈ q, f x = x) : q.map f = q :=
  (List.map_congr_left same).trans (List.map_id q)

theorem settleEntries_idle {q : List TxEntry} (idle : ∀ x ∈ q, x.inAttempt = false) : settleEntries q = q := by
  refine map_stays fun x member => ?_
  rw [← idle x member]

theorem removeAttempted_eq (own : e.inAttempt = true) (idle : ∀ x ∈ before ++ after, x.inAttempt = false) :
    removeAttempted (before ++ e :: after) = before ++ after := by
  have kept (q : List TxEntry) (free : ∀ x ∈ q, x.inAttempt = false) : q.filter (fun e => !e.inAttempt) = q :=
    List.filter_eq_self.mpr fun x member => by simp [free x member]
  rw [removeAttempted, List.filter_append, List.filter_cons, own,
    kept before fun x member => idle x (List.mem_append_left _ member),
    kept after fun x member => idle x (List.mem_append_right _ member)]
  rfl

theorem settleEntries_eq (idle : ∀ x ∈ before ++ after, x.inAttempt = false) (x : TxEntry) :
    settleEntries (before ++ x :: after) = before ++ { x with inAttempt := false } :: after := by
  have first := settleEntries_idle fun x member => idle x (List.mem_append_left after member)
  have last := settleEntries_idle fun x member => idle x (List.mem_append_right before member)
  rw [settleEntries] at first last
  rw [settleEntries, List.map_append, List.map_cons, first, last]

theorem attemptRetry_eq (own : e.inAttempt = true) (idle : ∀ x ∈ before ++ after, x.inAttempt = false) :
    attemptRetry (before ++ e :: after) = e.retry := by
  have none : before.find? (fun x => x.inAttempt) = Option.none :=
    List.find?_eq_none.mpr fun x member => by simp [idle x (List.mem_append_left _ member)]
  rw [attemptRetry, List.find?_append, none, Option.none_or, List.find?_cons_of_pos own]
  rfl

theorem retryEntries_eq (own : e.inAttempt = true) (idle : ∀ x ∈ before ++ after, x.inAttempt = false) :
    retryEntries (before ++ e :: after) = before ++ { e with retry := e.retry + 1 } :: after := by
  have kept (q : List TxEntry) (free : ∀ x ∈ q, x.inAttempt = false) :
      q.map (fun e => if e.inAttempt then { e with retry := e.retry + 1 } else e) = q :=
    map_stays fun x member => by simp [free x member]
  rw [retryEntries, List.map_append, List.map_cons, kept before fun x member => idle x (List.mem_append_left _ member),
    kept after fun x member => idle x (List.mem_append_right _ member), if_pos own]

/-- Where the status broadcast given a new frame in its attempt is the only one, it alone is stamped again (R61). -/
theorem restampQueue_eq (seq : Byte) (status : e.frame.isStatus = true)
    (other : ∀ x ∈ before ++ after, x.frame.isStatus = false) :
    restampQueue seq (before ++ e :: after) = before ++ { e with frame := e.frame.restamp seq, retry := 0 } :: after := by
  have kept (q : List TxEntry) (free : ∀ x ∈ q, x.frame.isStatus = false) :
      q.map (fun e => if e.frame.isStatus then { e with frame := e.frame.restamp seq, retry := 0 } else e) = q :=
    map_stays fun x member => by simp [free x member]
  rw [restampQueue, List.map_append, List.map_cons, kept before fun x member => other x (List.mem_append_left _ member),
    kept after fun x member => other x (List.mem_append_right _ member), if_pos status]

theorem restampQueue_kinds (seq : Byte) (q : List TxEntry) :
    (restampQueue seq q).map (fun x => x.frame.kind) = q.map fun x => x.frame.kind := by
  rw [restampQueue, List.map_map]
  refine List.map_congr_left fun x _ => ?_
  simp only [Function.comp_apply]
  split
  · unfold Frame.restamp
    split <;> rfl
  · rfl

theorem settleEntries_frames (q : List TxEntry) :
    (settleEntries q).map (fun x => (x.frame, x.retry)) = q.map fun x => (x.frame, x.retry) := by
  rw [settleEntries, List.map_map]
  rfl

end

section
variable {s : State} {a : Attempt}

/-! ### The bad frames of an attempt, counted (R45) -/

theorem countBads_sameBut (n : Nat) (s : State) : sameBut [.lkc, .pru] s (countBads n s) := by
  induction n generalizing s with
  | zero => exact fun part _ => by cases part <;> simp [Part.same, countBads]
  | succ n ih => exact (countBad_sameBut s).then (ih _)

theorem countBads_lkc (n : Nat) (s : State) : ∃ k, (countBads n s).lkc = { s.lkc with badCount := k } := by
  cases counted : countsBad s with
  | false => exact ⟨s.lkc.badCount, by rw [countBads_uncounted counted]⟩
  | true =>
    cases n with
    | zero => exact ⟨s.lkc.badCount, rfl⟩
    | succ n =>
      obtain ⟨p, eq⟩ := countBads_only n s counted
      exact ⟨_, by rw [eq]⟩

/-- The count and the held set after `n` bad frames: R45 one by one. -/
def CountedBads (n : Nat) (s t : State) : Prop :=
  (countsBad s = false ∨ n = 0 → t.lkc.badCount = s.lkc.badCount ∧ t.pru = s.pru) ∧
    (countsBad s = true → 0 < n → t.lkc.badCount = min 255 (s.lkc.badCount + n) ∧
      (s.lkc.badCount < 16 → 16 ≤ s.lkc.badCount + n → .linkNoisy ∈ t.pru.held) ∧
      (16 ≤ s.lkc.badCount ∨ s.lkc.badCount + n < 16 → t.pru = s.pru))

theorem countBad_keeps_held {c : Condition} (held : c ∈ s.pru.held) : c ∈ (countBad s).pru.held := by
  cases counted : countsBad s with
  | false => rw [countBad_of_uncounted counted]; exact held
  | true =>
    rw [countBad_of_counted counted]
    exact raiseIf_keeps (P := fun t => c ∈ t.pru.held) raise_keeps_held held

theorem countBads_keeps_held {c : Condition} (n : Nat) (s : State) (held : c ∈ s.pru.held) : c ∈ (countBads n s).pru.held := by
  induction n generalizing s with
  | zero => exact held
  | succ n ih => exact ih _ (countBad_keeps_held held)

theorem countBad_count (counted : countsBad s = true) :
    countsBad (countBad s) = true ∧ (countBad s).lkc.badCount = min 255 (s.lkc.badCount + 1) := by
  obtain ⟨p, eq⟩ := countBad_only s
  rw [eq, if_pos counted]
  exact ⟨counted, rfl⟩

theorem countBads_noisy (n : Nat) (s : State) (counted : countsBad s = true) (few : s.lkc.badCount < 16)
    (reached : 16 ≤ s.lkc.badCount + n) : .linkNoisy ∈ (countBads n s).pru.held := by
  induction n generalizing s with
  | zero => omega
  | succ n ih =>
    obtain ⟨goes, count⟩ := countBad_count counted
    rw [countBads_succ]
    by_cases last : s.lkc.badCount = 15
    · exact countBads_keeps_held n _ (countBad_holds_linkNoisy counted last)
    · exact ih _ goes (by rw [count]; omega) (by rw [count]; omega)

theorem countBads_pru_same (n : Nat) (s : State) (quiet : 16 ≤ s.lkc.badCount ∨ s.lkc.badCount + n < 16) :
    (countBads n s).pru = s.pru := by
  cases counted : countsBad s with
  | false => rw [countBads_uncounted counted]
  | true =>
    induction n generalizing s with
    | zero => rfl
    | succ n ih =>
      obtain ⟨goes, count⟩ := countBad_count counted
      rw [countBads_succ, ih _ (by rw [count]; omega) goes, countBad_pru_of_other (.inr (by omega))]

theorem countBads_counts (n : Nat) (s : State) : CountedBads n s (countBads n s) := by
  refine ⟨fun none => ?_, fun counted some => ⟨?_, countBads_noisy n s counted, countBads_pru_same n s⟩⟩
  · rcases none with uncounted | rfl
    · rw [countBads_uncounted uncounted]
      exact ⟨rfl, rfl⟩
    · exact ⟨rfl, rfl⟩
  · obtain ⟨m, rfl⟩ := Nat.exists_eq_succ_of_ne_zero (Nat.pos_iff_ne_zero.mp some)
    obtain ⟨p, eq⟩ := countBads_only m s counted
    rw [eq]

/-! ### The own frame seen (R50) -/

theorem exec_ownFrameSeen_of_attempt (run : s.phase = .run) (enabled : s.lkc.enabled = true) (own : s.lkc.attempt = some a) :
    exec .ownFrameSeen s = .next (ownFrameSeen a s) := by
  have dispatched : exec .ownFrameSeen s = execOwnFrameSeen s := rfl
  rw [dispatched, execOwnFrameSeen, running_run run, onLink, if_pos enabled]
  simp only [own]

/-- The attempt over and its bad frames counted, the block that submitted the frame not yet told. -/
def seenCounted (a : Attempt) (s : State) : State := countBads a.bad { s with lkc := s.lkc.seen a }

theorem ownFrameSeen_eq (a : Attempt) (s : State) : ownFrameSeen a s = sentNotice a (seenCounted a s) := rfl

theorem seenCounted_sameBut (a : Attempt) (s : State) : sameBut [.lkc, .pru] s (seenCounted a s) := by
  have seen : sameBut [.lkc] s { s with lkc := s.lkc.seen a } := by
    intro part other
    cases part with
    | lkc => simp at other
    | _ => simp [Part.same]
  exact (seen.widen (by decide)).then (countBads_sameBut _ _)

theorem seenCounted_lkc (a : Attempt) (s : State) : ∃ k, (seenCounted a s).lkc = { s.lkc.seen a with badCount := k } :=
  countBads_lkc a.bad { s with lkc := s.lkc.seen a }

theorem seenCounted_counts (a : Attempt) (s : State) : CountedBads a.bad s (seenCounted a s) :=
  countBads_counts a.bad { s with lkc := s.lkc.seen a }

theorem sentNotice_other (quiet : a.frame.isStatus = false) (noClaim : a.frame.kind ≠ .claim) : sentNotice a s = s := by
  rw [sentNotice, if_neg (by simp [quiet]), if_neg noClaim]

theorem sentNotice_status (status : a.frame.isStatus = true) :
    sentNotice a s = { s with
      pvw := { s.pvw with seq := s.pvw.seq + 1 }
      lkc := if a.replaced then { s.lkc with queue := restampQueue (s.pvw.seq + 1) s.lkc.queue } else s.lkc } := if_pos status

theorem sentNotice_claim (claim : a.frame.kind = .claim) : sentNotice a s = announcing ownClaimSeen s := by
  rw [sentNotice, if_neg (by simp [Frame.isStatus, claim]), if_pos claim]

/-- What the notice of a frame that is no CLAIM leaves: the queue where the entry was not replaced, and all but LKC and PVW. -/
theorem sentNotice_plain (noClaim : a.frame.kind ≠ .claim) (s : State) :
    sameBut [.lkc, .pvw] s (sentNotice a s) ∧ (sentNotice a s).lkc.attempt = s.lkc.attempt ∧
      (sentNotice a s).lkc.lde = s.lkc.lde ∧ (sentNotice a s).lkc.badCount = s.lkc.badCount ∧
      (sentNotice a s).pvw.seq = (if a.frame.isStatus then s.pvw.seq + 1 else s.pvw.seq) ∧
      (a.replaced = false → (sentNotice a s).lkc.queue = s.lkc.queue) ∧
      (a.replaced = true → (sentNotice a s).lkc.queue =
        if a.frame.isStatus then restampQueue (s.pvw.seq + 1) s.lkc.queue else s.lkc.queue) := by
  cases status : a.frame.isStatus with
  | false =>
    rw [sentNotice_other status noClaim]
    exact ⟨fun part _ => by cases part <;> simp [Part.same], rfl, rfl, rfl, rfl, fun _ => rfl, fun _ => rfl⟩
  | true =>
    rw [sentNotice_status status]
    refine ⟨fun part other => ?_, ?_, ?_, ?_, rfl, fun kept => ?_, fun replaced => ?_⟩
    · cases part with
      | lkc => simp at other
      | pvw => simp at other
      | _ => simp [Part.same]
    · dsimp only; split <;> rfl
    · dsimp only; split <;> rfl
    · dsimp only; split <;> rfl
    · simp [kept]
    · simp [replaced]

/-! ### A foreign CLAIM (R106, R107) -/

theorem claimTaken_of_dead {sender : Addr} {p : List Byte} (length : p.length = 4) (other : sender ≠ s.addr)
    (dead : s.btr.berthState = .dead) (broadcasting : s.ssc.station.broadcasting = true) :
    claimTaken sender p s = foreignClaim sender s := if_pos ⟨length, other, dead, broadcasting⟩

theorem claimTaken_aside {sender : Addr} {p : List Byte} (aside : s.btr.berthState ≠ .dead ∨ p.length ≠ 4) :
    claimTaken sender p s = s :=
  if_neg fun met => aside.elim (fun live => live met.2.2.1) fun long => long met.1

theorem foreignClaim_held {sender b : Addr} {time : Nat} (held : s.syn.claim = .foreign b time) : foreignClaim sender s = s := by
  simp only [foreignClaim, held]

theorem foreignClaim_recorded {sender : Addr} (idle : s.syn.claim = .free ∨ s.syn.claim = .expired) :
    foreignClaim sender s =
      { s with syn := { s.syn with claim := .foreign sender s.now, claimWait := false }, lkc := s.lkc.dropClaim } := by
  rcases idle with held | held <;> simp only [foreignClaim, held]

theorem foreignClaim_yields {sender : Addr} {time : Nat} (own : s.syn.claim = .own time) :
    foreignClaim sender s = orderContactor false
      { s with syn := { s.syn with claim := .foreign sender s.now, energise := none, claimWait := false }, lkc := s.lkc.dropClaim } := by
  simp only [foreignClaim, own]

theorem orderContactor_sameBut (closed : Bool) (s : State) : sameBut [.syn] s (orderContactor closed s) := by
  intro part other
  cases part with
  | syn => simp at other
  | _ => simp [Part.same]

theorem orderContactor_keeps (closed : Bool) (s : State) :
    (orderContactor closed s).syn.claim = s.syn.claim ∧ (orderContactor closed s).syn.energise = s.syn.energise ∧
      (orderContactor closed s).syn.joinClosed = s.syn.joinClosed ∧ (orderContactor closed s).syn.cmdClosed = closed ∧
      (s.syn.cmdClosed ≠ closed → (orderContactor closed s).syn.window = some s.now ∧
        (orderContactor closed s).syn.confirmed = (s.ccAux == closed)) := by
  by_cases stands : s.syn.cmdClosed = closed
  · simp [orderContactor, setPermit, commandContactor, Syn.command, stands]
  · simp [orderContactor, setPermit, commandContactor, Syn.command, stands]

theorem foreignClaim_sameBut (sender : Addr) (s : State) : sameBut [.lkc, .syn] s (foreignClaim sender s) := by
  have recorded (y : Syn) (l : Lkc) : sameBut [.lkc, .syn] s { s with syn := y, lkc := l } := by
    intro part other
    cases part with
    | lkc => simp at other
    | syn => simp at other
    | _ => simp [Part.same]
  cases held : s.syn.claim with
  | free => rw [foreignClaim_recorded (.inl held)]; exact recorded _ _
  | expired => rw [foreignClaim_recorded (.inr held)]; exact recorded _ _
  | foreign b time => rw [foreignClaim_held held]; exact recorded s.syn s.lkc
  | own time =>
    rw [foreignClaim_yields held]
    exact (recorded _ _).then ((orderContactor_sameBut false _).widen (by decide))

theorem claimTaken_sameBut (sender : Addr) (p : List Byte) (s : State) : sameBut [.lkc, .syn] s (claimTaken sender p s) := by
  unfold claimTaken
  split
  · exact foreignClaim_sameBut sender s
  · exact fun part _ => by cases part <;> simp [Part.same]

/-! ### The own CLAIM seen (R106, R108) -/

theorem ownClaimSeen_of_dead (joining : s.ssc.station = .joining) (dead : s.btr.berthState = .dead)
    (idle : s.syn.claim = .free ∨ s.syn.claim = .expired) :
    ownClaimSeen s = orderContactor true
      { s with syn := { s.syn with claim := .own s.now, energise := some s.now, joinClosed := false } } :=
  if_pos ⟨joining, dead, (claim_idle_iff _).mpr idle⟩

theorem ownClaimSeen_elsewhere (away : s.ssc.station ≠ .joining) : ownClaimSeen s = s := if_neg fun met => away met.1

theorem ownClaimSeen_sameBut (s : State) : sameBut [.syn] s (ownClaimSeen s) := by
  unfold ownClaimSeen
  split
  · refine sameBut.then (t := { s with syn := _ }) (fun part other => ?_) (orderContactor_sameBut true _)
    cases part with
    | syn => simp at other
    | _ => simp [Part.same]
  · exact fun part _ => by cases part <;> simp [Part.same]

theorem announce_lkc_keeps (before after : State) :
    (announce before after).lkc.attempt.isNone = after.lkc.attempt.isNone ∧
      (announce before after).lkc.badCount = after.lkc.badCount := by
  rw [announce_eq]
  split
  · simp only [triggerStatus, submit, Lkc.enqueue]
    repeat' split
    all_goals simp
  · exact ⟨rfl, rfl⟩

end

/-- Settles O25: the own frame seen, its sequence advanced and its bad frames counted. -/
theorem ownFrameSeenLeavesTheQueue : Obligations.OwnFrameSeenLeavesTheQueue := by
  intro s a before after e run enabled own noClaim queue mine idle
  let u := seenCounted a s
  obtain ⟨k, lkc⟩ := seenCounted_lkc a s
  have pvw : u.pvw = s.pvw := seenCounted_sameBut a s .pvw (by decide)
  obtain ⟨counts, counted⟩ := seenCounted_counts a s
  obtain ⟨kept, attempt, lde, badCount, seq, stays, replaced⟩ := sentNotice_plain noClaim u
  have pru : (sentNotice a u).pru = u.pru := kept .pru (by decide)
  rw [pvw] at seq replaced
  have queued : u.lkc.queue = settleEntries (if a.replaced then s.lkc.queue else removeAttempted s.lkc.queue) := by rw [lkc]; rfl
  refine ⟨_, exec_ownFrameSeen_of_attempt run enabled own, attempt.trans (by rw [lkc]; rfl), lde.trans (by rw [lkc]; rfl), seq,
    fun left => ?_, fun given => ?_, fun given status only => ?_,
    ((seenCounted_sameBut a s).widen (by decide)).then (kept.widen (by decide)), ?_, ?_⟩
  · rw [ownFrameSeen_eq, stays left, queued, left, queue]
    exact (congrArg settleEntries (removeAttempted_eq mine idle)).trans (settleEntries_idle idle)
  · have kinds : (ownFrameSeen a s).lkc.queue.map (fun x => x.frame.kind) = s.lkc.queue.map (fun x => x.frame.kind) := by
      rw [ownFrameSeen_eq, replaced given, queued, given, if_pos rfl]
      split
      · rw [restampQueue_kinds, settleEntries, List.map_map]; rfl
      · rw [settleEntries, List.map_map]; rfl
    exact ⟨by simpa using congrArg List.length kinds, kinds⟩
  · have after_ : settleEntries s.lkc.queue = before ++ { e with inAttempt := false } :: after := by
      rw [queue]
      exact settleEntries_eq idle e
    have stamped (is : e.frame.isStatus = true) : (ownFrameSeen a s).lkc.queue =
        before ++ { frame := e.frame.restamp (s.pvw.seq + 1), retry := 0, inAttempt := false } :: after := by
      rw [ownFrameSeen_eq, replaced given, queued, given, if_pos rfl, if_pos status, after_]
      exact restampQueue_eq (e := { e with inAttempt := false }) (s.pvw.seq + 1) is only
    refine ⟨fun kind => ?_, fun kind => ?_⟩
    · rw [stamped (by simp [Frame.isStatus, kind])]
      simp [Frame.restamp, kind]
    · rw [stamped (by simp [Frame.isStatus, kind])]
      simp [Frame.restamp, kind]
  · rw [ownFrameSeen_eq, pru, badCount]
    exact counts
  · rw [ownFrameSeen_eq, pru, badCount]
    exact counted

/-- Settles O45: a foreign CLAIM, and the own one, seen. -/
theorem firstClaimCounts : Obligations.FirstClaimCounts := by
  intro s run enabled broadcasting
  refine ⟨fun sender p station other => ?_, fun a before after e own claim left queue mine idle => ?_⟩
  · have awake : s.ssc.station.listening = false := by
      revert broadcasting
      cases s.ssc.station <;> decide
    let u := withRx .hunt s
    have link : sameBut [.lkc] s u := withRx_sameBut .hunt s
    have taken := claimTaken_sameBut sender p u
    refine ⟨announce u (claimTaken sender p u), exec_claimReceived_of_peer run enabled awake station other,
      (((link.widen (by decide)).then (taken.widen (by decide))).then ((announce_sameBut _ _).widen (by decide))), fun aside => ?_,
      fun dead length free => ?_, fun dead length held => ?_⟩
    · have stands : claimTaken sender p u = u := by
        rcases aside with live | long | ⟨b, time, held⟩
        · exact claimTaken_aside (.inl live)
        · exact claimTaken_aside (.inr long)
        · unfold claimTaken
          split
          · exact foreignClaim_held (s := u) held
          · rfl
      rw [stands, announce_self]
      exact ⟨rfl, rfl⟩
    · have recorded := foreignClaim_recorded (s := u) (sender := sender) free
      have quiet : announced u = announced (foreignClaim sender u) := by
        rw [recorded]
        rcases free with held | held <;> simp [announced, u, held]
      rw [claimTaken_of_dead (s := u) length other dead broadcasting, announce_of_same quiet, recorded]
      exact ⟨rfl, rfl⟩
    · obtain ⟨time, mine⟩ := held
      rw [claimTaken_of_dead (s := u) length other dead broadcasting, foreignClaim_yields (s := u) mine, announce_syn]
      obtain ⟨foreign, energise, -, opened, window⟩ := orderContactor_keeps false { u with
        syn := { u.syn with claim := .foreign sender u.now, energise := none, claimWait := false }, lkc := u.lkc.dropClaim }
      exact ⟨foreign, opened, energise, fun closed => (window (by simpa using (show u.syn.cmdClosed = true from closed))).1⟩
  · let u := seenCounted a s
    obtain ⟨k, lkc⟩ := seenCounted_lkc a s
    have kept : sameBut [.lkc, .pru] s u := seenCounted_sameBut a s
    obtain ⟨counts, counted⟩ := seenCounted_counts a s
    have syn : u.syn = s.syn := kept .syn (by decide)
    have now : u.now = s.now := kept .clock (by decide)
    have ssc : u.ssc = s.ssc := kept .ssc (by decide)
    have btr : u.btr = s.btr := kept .btr (by decide)
    have seen := ownClaimSeen_sameBut u
    have link : (ownClaimSeen u).lkc = u.lkc := seen .lkc (by decide)
    have told : ownFrameSeen a s = announce u (ownClaimSeen u) := sentNotice_claim claim
    obtain ⟨none, badCount⟩ := announce_lkc_keeps u (ownClaimSeen u)
    rw [link] at none badCount
    refine ⟨_, by rw [exec_ownFrameSeen_of_attempt run enabled own, told],
      ((kept.widen (by decide)).then (seen.widen (by decide))).then ((announce_sameBut _ _).widen (by decide)), ?_,
      fun quiet => badCount.trans (counts quiet).1, fun counts some => badCount.trans (counted counts some).1,
      fun joining dead free => ?_, fun away => ?_⟩
    · rw [lkc] at none
      exact Option.isNone_iff_eq_none.mp none
    · rw [announce_syn, ownClaimSeen_of_dead (s := u) (by rw [ssc]; exact joining) (by rw [btr]; exact dead) (by rw [syn]; exact free)]
      obtain ⟨claimed, energise, path, closed, window⟩ := orderContactor_keeps true { u with
        syn := { u.syn with claim := .own u.now, energise := some u.now, joinClosed := false } }
      refine ⟨claimed.trans (by rw [now]), energise.trans (by rw [now]), closed, path, fun opened => ?_⟩
      obtain ⟨runs, confirmed⟩ := window (by rw [show u.syn.cmdClosed = _ from congrArg Syn.cmdClosed syn, opened]; decide)
      refine ⟨runs.trans (congrArg some now), confirmed.trans ?_⟩
      rw [show u.ccAux = s.ccAux from kept .ccAux (by decide)]
      simp
    · rw [ownClaimSeen_elsewhere (s := u) (by rw [ssc]; exact away), announce_self]
      refine ⟨syn, ?_⟩
      rw [lkc]
      show settleEntries (if a.replaced then s.lkc.queue else removeAttempted s.lkc.queue) = _
      rw [left, queue]
      exact (congrArg settleEntries (removeAttempted_eq mine idle)).trans (settleEntries_idle idle)

end Sys2Proof.Machine
end

/-! PROOFS. Attempts that fail (R47 to R49), and where the transmitter meets them on the pair. -/
section
namespace Sys2Proof.Machine

section
variable {s : State} {a : Attempt}

/-! ### Dropout and lost arbitration (R47, R48) -/

theorem exec_attemptLeft {c : Instr} (row : c = .alignmentDropout ∨ c = .arbitrationLost) (run : s.phase = .run)
    (enabled : s.lkc.enabled = true) (own : s.lkc.attempt = some a) : exec c s = .next (attemptLeft a s) := by
  rcases row with rfl | rfl
  · have dispatched : exec .alignmentDropout s = execAlignmentDropout s := rfl
    rw [dispatched, execAlignmentDropout, running_run run, onLink, if_pos enabled]
    simp only [own]
  · have dispatched : exec .arbitrationLost s = execArbitrationLost s := rfl
    rw [dispatched, execArbitrationLost, running_run run, onLink, if_pos enabled]
    simp only [own]

theorem attemptLeft_sameBut (a : Attempt) (s : State) : sameBut [.lkc, .pru] s (attemptLeft a s) := by
  have left : sameBut [.lkc] s { s with lkc := s.lkc.endAttempt } := by
    intro part other
    cases part with
    | lkc => simp at other
    | _ => simp [Part.same]
  exact (left.widen (by decide)).then (countBads_sameBut _ _)

theorem attemptLeft_lkc (a : Attempt) (s : State) : ∃ k, (attemptLeft a s).lkc = { s.lkc.endAttempt with badCount := k } :=
  countBads_lkc a.bad { s with lkc := s.lkc.endAttempt }

theorem attemptLeft_counts (a : Attempt) (s : State) : CountedBads a.bad s (attemptLeft a s) :=
  countBads_counts a.bad { s with lkc := s.lkc.endAttempt }

/-! ### A bit error (R49) -/

theorem exec_bitError_of_attempt (run : s.phase = .run) (enabled : s.lkc.enabled = true) (own : s.lkc.attempt = some a) :
    exec .bitError s = .next (bitErrorTaken a s) := by
  have dispatched : exec .bitError s = execBitError s := rfl
  rw [dispatched, execBitError, running_run run, onLink, if_pos enabled]
  simp only [own]

/-- LKC after the abort break, with what the bit error leaves of its queue. -/
def abortedWith (queue : List TxEntry) (s : State) : State := { s with lkc := s.lkc.aborted queue }

theorem abortedWith_sameBut (queue : List TxEntry) (s : State) : sameBut [.lkc] s (abortedWith queue s) := by
  intro part other
  cases part with
  | lkc => simp at other
  | _ => simp [Part.same, abortedWith]

theorem bitErrorTaken_replaced (replaced : a.replaced = true) : bitErrorTaken a s = abortedWith s.lkc.queue s := if_pos replaced

theorem bitErrorTaken_retries (kept : a.replaced = false) (few : attemptRetry s.lkc.queue + 1 < 16) :
    bitErrorTaken a s = abortedWith (retryEntries s.lkc.queue) s := by
  rw [bitErrorTaken, if_neg (by simp [kept]), if_pos few]
  rfl

theorem bitErrorTaken_discards (kept : a.replaced = false) (last : 16 ≤ attemptRetry s.lkc.queue + 1) :
    bitErrorTaken a s = raiseClaim (raise .linkTxFail (abortedWith (removeAttempted s.lkc.queue) s)) := by
  rw [bitErrorTaken, if_neg (by simp [kept]), if_neg (by omega)]
  rfl

theorem enqueue_keeps_link (listening : Bool) (f : Frame) (l : Lkc) :
    (l.enqueue listening f).1.attempt.isNone = l.attempt.isNone ∧ (l.enqueue listening f).1.lde = l.lde ∧
      (l.enqueue listening f).1.badCount = l.badCount := by
  unfold Lkc.enqueue
  repeat' split
  all_goals simp

theorem raiseClaim_keeps_link (s : State) :
    (raiseClaim s).lkc.attempt.isNone = s.lkc.attempt.isNone ∧ (raiseClaim s).lkc.lde = s.lkc.lde ∧
      (raiseClaim s).lkc.badCount = s.lkc.badCount := by
  unfold raiseClaim
  split
  · exact enqueue_keeps_link _ _ _
  · exact ⟨rfl, rfl, rfl⟩

theorem announce_keeps_lde (before after : State) : (announce before after).lkc.lde = after.lkc.lde := by
  rw [announce_eq]
  split
  · exact (enqueue_keeps_link _ _ _).2.1
  · rfl

theorem tripWith_keeps_link (r : FirstCause) (s : State) :
    (tripWith r s).lkc.attempt.isNone = s.lkc.attempt.isNone ∧ (tripWith r s).lkc.lde = s.lkc.lde := by
  have entered : (enterTripped { s with pru := { s.pru with first := some r } }).lkc.attempt = s.lkc.attempt ∧
      (enterTripped { s with pru := { s.pru with first := some r } }).lkc.lde = s.lkc.lde := by
    rw [enterTripped_lkc]
    split <;> exact ⟨rfl, rfl⟩
  have stands : (standsTripped r s).lkc.attempt.isNone = s.lkc.attempt.isNone ∧ (standsTripped r s).lkc.lde = s.lkc.lde := by
    rw [standsTripped_eq, announce_keeps_lde, (announce_lkc_keeps _ _).1, entered.1, entered.2]
    exact ⟨rfl, rfl⟩
  obtain ⟨attempt, lde, -⟩ := enqueue_keeps_link (standsTripped r s).ssc.station.listening (tripNoticeFrame r) (standsTripped r s).lkc
  rw [tripWith_eq, submitRecord_lkc, submit]
  exact ⟨attempt.trans stands.1, lde.trans stands.2⟩

theorem raise_keeps_link (c : Condition) (s : State) :
    (raise c s).lkc.attempt.isNone = s.lkc.attempt.isNone ∧ (raise c s).lkc.lde = s.lkc.lde := by
  rcases raise_cases c s with same | ⟨-, -, -, same⟩ <;> rw [same]
  · exact ⟨rfl, rfl⟩
  · exact tripWith_keeps_link _ _

/-! ### The transmitter at a part clock (R47 to R49) -/

/-- What a part clock makes of an own attempt: its place moves, and the end it meets stands first among the commands. -/
theorem hears_attempt {d : Bool} {rest : List Bool} {n : Nat} (hears : HearsNext n d rest s) (own : s.lkc.attempt = some a) :
    ∃ (t : State) (more : List Instr), step s = .next t ∧ sameBut [.pending, .pair, .lkc] s t ∧ t.lkc.queue = s.lkc.queue ∧
      t.lkc.lde = s.lkc.lde ∧ t.lkc.attempt = some { a with place := (a.talk n d).1 } ∧
      t.pending = (a.talk n d).2.toList ++ more ∧ ∀ c ∈ transmitterRows, c ∉ more := by
  obtain ⟨enabled, empty, pair, clocks⟩ := hears
  have nominal : bitClocks s.linkRate = n := by rw [clocks]; rfl
  let talked : Lkc := { s.lkc with attempt := some { a with place := (a.talk n d).1 } }
  have talks : s.lkc.talk n d = (talked, (a.talk n d).2) := talk_some own
  obtain ⟨rx, idle, run, ear, listens, -⟩ := listen_cases n d talked
  have clocked : s.lkc.clocked n d = ((talked.listen n d).1, (a.talk n d).2.toList ++ (talked.listen n d).2.toList) := by
    rw [Lkc.clocked, talks]
  have steps : step s = .next (hear d { s with pair := rest }) := by simp only [step, empty, pair]
  have lkc : (hear d { s with pair := rest }).lkc = (talked.listen n d).1 := by
    simp only [hear, enabled, if_true, nominal, clocked]
  have pending : (hear d { s with pair := rest }).pending = (a.talk n d).2.toList ++ (talked.listen n d).2.toList := by
    simp only [hear, enabled, if_true, nominal, clocked, empty, List.append_nil]
  refine ⟨_, (talked.listen n d).2.toList, steps, fun part other => ?_, by rw [lkc, listens], by rw [lkc, listens],
    by rw [lkc, listens], pending, fun c row member => ?_⟩
  · cases part with
    | pending => simp at other
    | pair => simp at other
    | lkc => simp at other
    | _ => simp [Part.same, hear]
  · exact listen_command (Option.mem_toList.mp member) row

theorem not_pending {t : State} {ended : Option Instr} {more : List Instr} {c : Instr} (pending : t.pending = ended.toList ++ more)
    (none : ended = Option.none) (row : c ∈ transmitterRows) (apart : ∀ c ∈ transmitterRows, c ∉ more) : c ∉ t.pending := by
  rw [pending, none]
  exact apart c row

theorem head_pending {t : State} {ended : Option Instr} {more : List Instr} {c : Instr} (pending : t.pending = ended.toList ++ more)
    (met : ended = some c) : t.pending.head? = some c := by
  rw [pending, met]
  rfl

theorem levels_drop (a : Attempt) : a.levels.drop 13 = a.frameLevels := List.drop_left' rfl

theorem bitAt_eq (a : Attempt) (i : Nat) : a.bitAt i = (a.levels.drop 13).getD i false := by rw [levels_drop, Attempt.bitAt]

theorem ltx_of_attempt (own : s.lkc.attempt = some a) (n : Nat) : s.lkc.ltx n = a.drives n := by simp only [Lkc.ltx, own]

/-- At the centre of bit `i` the pair differs from what is sent (R47 to R49). -/
theorem talk_differs {n i : Nat} {d : Bool} (positive : 0 < n) (place : a.place = .sending (i * n + n / 2))
    (differs : d ≠ a.bitAt i) : a.talk n d = a.differs n i := by
  have half : n / 2 < n := Nat.div_lt_self positive (by decide)
  have centre : (i * n + n / 2) % n = n / 2 := by rw [Nat.mul_comm, Nat.mul_add_mod, Nat.mod_eq_of_lt half]
  have bit : (i * n + n / 2) / n = i := by
    rw [Nat.mul_comm, Nat.mul_add_div positive, Nat.div_eq_of_lt half, Nat.add_zero]
  simp only [Attempt.talk, place, centre, bit, differs, ne_eq, not_false_eq_true, and_self, if_true]

end

/-- Settles O24: dropout, lost arbitration and bit error, and where the transmitter meets them. -/
theorem failedAttemptsKeepOrDiscardTheFrame : Obligations.FailedAttemptsKeepOrDiscardTheFrame := by
  refine ⟨fun s a c row run enabled own => ?_, fun s a before after e run enabled own queue mine idle => ?_,
    fun s a d rest n hears own => ?_⟩
  · obtain ⟨k, lkc⟩ := attemptLeft_lkc a s
    obtain ⟨counts, counted⟩ := attemptLeft_counts a s
    refine ⟨_, exec_attemptLeft row run enabled own, by rw [lkc]; rfl, by rw [lkc]; rfl, ?_, fun x member => ?_,
      attemptLeft_sameBut a s, counts, counted⟩
    · rw [lkc]
      exact settleEntries_frames _
    · rw [lkc] at member
      obtain ⟨y, -, rfl⟩ := List.mem_map.mp (show x ∈ settleEntries s.lkc.queue from member)
      rfl
  · have retry : attemptRetry s.lkc.queue = e.retry := by rw [queue, attemptRetry_eq mine idle]
    refine ⟨_, exec_bitError_of_attempt run enabled own, ?_⟩
    cases replaced : a.replaced with
    | true =>
      rw [bitErrorTaken_replaced replaced]
      refine ⟨rfl, rfl, fun _ => ⟨rfl, rfl⟩, fun _ => ⟨?_, rfl, abortedWith_sameBut _ _⟩, fun no => absurd no (by decide),
        fun no => absurd no (by decide)⟩
      rw [queue]
      exact settleEntries_eq idle e
    | false =>
      rcases Nat.lt_or_ge e.retry 15 with few | last
      · rw [bitErrorTaken_retries replaced (by rw [retry]; omega)]
        refine ⟨rfl, rfl, fun _ => ⟨rfl, rfl⟩, fun no => absurd no (by decide), fun _ _ => ⟨?_, rfl, rfl, abortedWith_sameBut _ _⟩,
          fun _ late => absurd late (by omega)⟩
        rw [queue, retryEntries_eq mine idle]
        exact settleEntries_eq idle { e with retry := e.retry + 1 }
      · let u := abortedWith (removeAttempted s.lkc.queue) s
        have aborted : sameBut [.lkc] s u := abortedWith_sameBut _ _
        have left : u.lkc.queue = before ++ after := by
          show settleEntries (removeAttempted s.lkc.queue) = _
          rw [queue, removeAttempted_eq mine idle, settleEntries_idle idle]
        rw [bitErrorTaken_discards replaced (by rw [retry]; omega)]
        obtain ⟨attempt, lde, badCount⟩ := raiseClaim_keeps_link (raise .linkTxFail u)
        obtain ⟨attempt', lde'⟩ := raise_keeps_link .linkTxFail u
        refine ⟨?_, lde.trans lde', fun few => absurd few (by simp; omega), fun no => absurd no (by decide),
          fun _ few => absurd few (by omega), fun _ _ => ⟨raiseClaim_held _ (mem_held_raise _ _), fun cls can fresh => ?_, fun quiet => ?_⟩⟩
        · exact Option.isNone_iff_eq_none.mp (attempt.trans attempt')
        · have trips := raise_trips (s := u) fresh cls can
          rw [raiseClaim_of_other (s := raise .linkTxFail u) (by rw [trips.1]; decide)]
          exact trips
        · have stands : raise .linkTxFail u = hold .linkTxFail u := by
            refine raise_quiet (s := u) ?_
            rcases quiet with alarm | standing | held
            · exact .inr (.inl alarm)
            · exact .inr (.inr standing)
            · exact .inl held
          rw [stands] at badCount ⊢
          let v := hold .linkTxFail u
          have kept : sameBut [.lkc, .pru] s v := (aborted.widen (by decide)).then ((hold_sameBut _ u).widen (by decide))
          refine ⟨badCount, fun waits => ?_, fun id joining dead settled free claim none path room held => ?_⟩
          · have not : mayClaim v = false := by
              rw [← Bool.not_eq_true, mayClaim_iff]
              rintro ⟨-, joining, dead, settled, claim, none, stands, path⟩
              rcases waits with away | live | unsettled | waiting | ⟨time, own⟩ | ⟨b, time, foreign⟩ | ⟨x, member, kind⟩ | ⟨closed, joined⟩
              · exact away joining
              · exact live dead
              · exact absurd (settled.symm.trans unsettled) (by decide)
              · exact absurd (stands.symm.trans waiting) (by decide)
              · exact absurd claim (by rw [show v.syn.claim = _ from own]; simp [Claim.idle])
              · exact absurd claim (by rw [show v.syn.claim = _ from foreign]; simp [Claim.idle])
              · refine absurd none ?_
                simp only [claimPending, show v.lkc.queue = before ++ after from left, Bool.not_eq_false, List.any_eq_true]
                exact ⟨x, member, by simp [kind]⟩
              · exact absurd ((path closed).symm.trans joined) (by decide)
            rw [raiseClaim_of_not not]
            exact ⟨left, kept⟩
          · have pending : claimPending v = false := by
              simp only [claimPending, show v.lkc.queue = before ++ after from left]
              exact List.any_eq_false.mpr fun x member => by simp [none x member]
            have may : mayClaim v = true :=
              (mayClaim_iff _).mpr ⟨run, joining, dead, settled, (claim_idle_iff _).mpr claim, pending, free,
                fun closed => path.resolve_left (by simp [show s.syn.cmdClosed = true from closed])⟩
            have space : v.lkc.queue.length < 8 := by
              rw [show v.lkc.queue = before ++ after from left]
              rw [queue] at room
              simp at room ⊢
              omega
            rw [raiseClaim_of_may may held enabled space]
            refine ⟨fun part other => ?_, by rw [show v.lkc.queue = before ++ after from left]; rfl⟩
            have was := kept part other
            cases part with
            | lkc => simp at other
            | _ => exact was
  · have positive : 0 < n := by
      rw [hears.2.2.2]
      split <;> decide
    obtain ⟨t, more, steps, kept, queue, lde, attempt, pending, apart⟩ := hears_attempt hears own
    have ltx := ltx_of_attempt own n
    refine ⟨t, steps, kept, queue, lde, fun c place centre low => ?_, fun i place differs => ⟨fun low => ?_, fun high early => ?_,
      fun high first last => ?_, fun high late => ?_⟩, fun left place => ⟨?_, fun more_ => ⟨?_, ?_⟩, fun done => ?_⟩,
      fun left level place => ⟨?_, ?_⟩, fun c place => ⟨?_, fun more_ => ⟨?_, ?_⟩, fun done => ?_⟩⟩
    · rw [attempt]
      simp [Attempt.talk, place, centre, low, afterCentre]
    · rw [← bitAt_eq] at differs
      rw [attempt, talk_differs positive place differs]
      subst low
      simp [Attempt.differs, Bool.eq_true_of_not_eq_false (Ne.symm differs), afterCentre]
    · rw [← bitAt_eq] at differs
      subst high
      refine head_pending pending ?_
      rw [talk_differs positive place differs, Attempt.differs, if_neg (by simpa using Ne.symm differs), if_pos early]
    · rw [← bitAt_eq] at differs
      subst high
      rw [attempt, talk_differs positive place differs, Attempt.differs, if_neg (by simpa using Ne.symm differs),
        if_neg (by omega), if_pos last]
      rfl
    · rw [← bitAt_eq] at differs
      subst high
      rw [attempt, talk_differs positive place differs, Attempt.differs, if_neg (by simpa using Ne.symm differs),
        if_neg (by omega), if_neg (by omega)]
      rfl
    · rw [ltx, Attempt.drives, place]
    · rw [attempt]
      simp [Attempt.talk, place]
    · exact not_pending pending (by simp [Attempt.talk, place, more_]) (by simp [transmitterRows]) apart
    · exact head_pending pending (by simp [Attempt.talk, place, show ¬ 1 < left by omega])
    · rw [ltx, Attempt.drives, place]
    · rw [attempt]
      simp [Attempt.talk, place]
    · rw [ltx, Attempt.drives, place]
    · rw [attempt]
      simp [Attempt.talk, place]
    · exact not_pending pending (by simp [Attempt.talk, place, more_]) (by simp [transmitterRows]) apart
    · exact head_pending pending (by simp [Attempt.talk, place, show ¬ c + 1 < 13 * n by omega])

end Sys2Proof.Machine
end

/-! PROOFS. A transmission takes the head of the queue and drives its levels to the end (R38, R39, R46, R47, R50, R52). -/
section
namespace Sys2Proof.Machine

/-! ### The send order (R52) -/

theorem sendKey_lt_iff (f g : Frame) : f.sendKey < g.sendKey ↔
    f.kind.cls < g.kind.cls ∨ f.kind.cls = g.kind.cls ∧ f.kind.code < g.kind.code := by
  have byte (k : FrameKind) : k.code < 256 := by cases k <;> decide
  have first := byte f.kind
  have second := byte g.kind
  unfold Frame.sendKey
  omega

theorem sendKey_le_iff (f g : Frame) : f.sendKey ≤ g.sendKey ↔
    f.kind.cls < g.kind.cls ∨ f.kind.cls = g.kind.cls ∧ f.kind.code ≤ g.kind.code := by
  have byte (k : FrameKind) : k.code < 256 := by cases k <;> decide
  have first := byte f.kind
  have second := byte g.kind
  unfold Frame.sendKey
  omega

/-- An entry stands first in the send order of a queue, `before` and `after` it the others. -/
def HeadOf (q before : List TxEntry) (e : TxEntry) (after : List TxEntry) : Prop :=
  q = before ++ e :: after ∧ (∀ x ∈ before, e.frame.sendKey < x.frame.sendKey) ∧ ∀ x ∈ after, e.frame.sendKey ≤ x.frame.sendKey

theorem headIndex_some {e : TxEntry} {rest : List TxEntry} {i : Nat} {h : TxEntry} (index : headIndex rest = some i)
    (at_ : rest[i]? = some h) :
    headIndex (e :: rest) = if h.frame.sendKey < e.frame.sendKey then some (i + 1) else some 0 := by
  simp only [headIndex, index, at_]

/-- The head of a queue that is not empty. -/
theorem headIndex_heads (q : List TxEntry) (filled : q ≠ []) :
    ∃ (before : List TxEntry) (e : TxEntry) (after : List TxEntry), headIndex q = some before.length ∧ HeadOf q before e after := by
  induction q with
  | nil => exact absurd rfl filled
  | cons e rest ih =>
    by_cases last : rest = []
    · subst last
      exact ⟨[], e, [], rfl, rfl, by simp, by simp⟩
    · obtain ⟨before, h, after, index, split, earlier, later⟩ := ih last
      have at_ : rest[before.length]? = some h := by rw [split]; simp
      rw [headIndex_some index at_]
      by_cases less : h.frame.sendKey < e.frame.sendKey
      · refine ⟨e :: before, h, after, by simp [less], by rw [split]; rfl, fun x member => ?_, later⟩
        rcases List.mem_cons.mp member with rfl | inside
        · exact less
        · exact earlier x inside
      · refine ⟨[], e, rest, by simp [less], rfl, by simp, fun x member => ?_⟩
        have reaches : h.frame.sendKey ≤ x.frame.sendKey := by
          rw [split] at member
          rcases List.mem_append.mp member with inside | inside
          · exact Nat.le_of_lt (earlier x inside)
          · rcases List.mem_cons.mp inside with rfl | behind
            · exact Nat.le_refl _
            · exact later x behind
        omega

theorem markEntry_eq (before : List TxEntry) (e : TxEntry) (after : List TxEntry) :
    markEntry before.length (before ++ e :: after) = before ++ { e with inAttempt := true } :: after := by
  induction before with
  | nil => rfl
  | cons x rest ih => simp only [List.length_cons, List.cons_append, markEntry, ih]

/-! ### The levels of an attempt (R38, R39) -/

theorem levels_eq (a : Attempt) :
    a.levels = List.replicate 13 true ++ [false] ++ a.bytes.flatMap fun b =>
      [ true, !b.getLsbD 7, !b.getLsbD 6, !b.getLsbD 5, !b.getLsbD 4, !b.getLsbD 3, !b.getLsbD 2, !b.getLsbD 1,
        !b.getLsbD 0, false ] := by
  rw [Attempt.levels, Attempt.frameLevels, List.append_assoc]
  rfl

theorem frameLevels_length (a : Attempt) : a.frameLevels.length = a.bitCount := by
  have ten (b : Byte) : (byteLevels b).length = 10 := rfl
  rw [Attempt.frameLevels, Attempt.bitCount, List.length_cons, List.length_flatMap]
  simp only [ten, List.map_const', List.sum_replicate, smul_eq_mul]
  omega

/-! ### A line of levels, each for one bit time -/

/-- The levels on the pair, each for `n` part clocks. -/
def lineOf (n : Nat) (levels : List Bool) : List Bool := levels.flatMap (List.replicate n)

theorem lineOf_length (n : Nat) (levels : List Bool) : (lineOf n levels).length = n * levels.length := by
  simp [lineOf, List.length_flatMap, Nat.mul_comm]

theorem lineOf_getD {n : Nat} (positive : 0 < n) (levels : List Bool) (k : Nat) :
    (lineOf n levels).getD k false = levels.getD (k / n) false := by
  induction levels generalizing k with
  | nil => simp [lineOf]
  | cons level rest ih =>
    have line : lineOf n (level :: rest) = List.replicate n level ++ lineOf n rest := rfl
    rw [line]
    rcases Nat.lt_or_ge k n with inside | beyond
    · rw [Nat.div_eq_of_lt inside, List.getD_append _ _ _ _ (by simpa using inside)]
      simp [inside]
    · rw [List.getD_append_right _ _ _ _ (by simpa using beyond), List.length_replicate, ih,
        Nat.div_eq_sub_div positive beyond]
      rfl

section
variable {s : State} {a : Attempt}

/-! ### A transmission starts (R46) -/

theorem exec_transmitStart_of_idle (run : s.phase = .run) (enabled : s.lkc.enabled = true) (idle : s.lkc.linkIdle = true)
    (none : s.lkc.attempt = none) : exec .transmitStart s = .next (transmit s) := by
  have dispatched : exec .transmitStart s = execTransmitStart s := rfl
  rw [dispatched, execTransmitStart, running_run run, onLink, if_pos enabled, if_pos ⟨idle, none⟩]

/-- LKC with the head of its queue fixed for an attempt. -/
def begun (before : List TxEntry) (e : TxEntry) (after : List TxEntry) (s : State) : State :=
  { s with lkc := { s.lkc with
      queue := before ++ { e with inAttempt := true } :: after
      attempt := some { frame := e.frame, bytes := e.frame.bytes s.addr, replaced := false }
      lde := true, linkIdle := false, rx := .dominantRun } }

theorem transmit_of_head {before after : List TxEntry} {e : TxEntry} (index : headIndex s.lkc.queue = some before.length)
    (split : s.lkc.queue = before ++ e :: after) : transmit s = begun before e after s := by
  have at_ : s.lkc.queue[before.length]? = some e := by rw [split]; simp
  simp only [transmit, index, at_]
  rw [split, markEntry_eq]
  rfl

theorem begun_sameBut (before : List TxEntry) (e : TxEntry) (after : List TxEntry) (s : State) :
    sameBut [.lkc] s (begun before e after s) := by
  intro part other
  cases part with
  | lkc => simp at other
  | _ => simp [Part.same, begun]

/-! ### The transmitter along its line (R46 to R50) -/

/-- The place of an attempt after `k` part clocks of the line that it sends. -/
def placeAt (n k : Nat) : TxPlace :=
  if k < 13 * n then .brk k else if k = 13 * n then .waiting else .sending (k - 13 * n)

/-- LTX at the part clock to come is the level of the line. -/
theorem drives_placeAt {n : Nat} (positive : 0 < n) (k : Nat) :
    { a with place := placeAt n k }.drives n = (lineOf n a.levels).getD k false := by
  rw [lineOf_getD positive]
  have split (i : Nat) (after : 13 ≤ i) : a.levels.getD i false = a.bitAt (i - 13) := by
    rw [bitAt_eq, List.getD_eq_getElem?_getD, List.getD_eq_getElem?_getD, List.getElem?_drop, Nat.add_sub_cancel' after]
  unfold placeAt
  split_ifs with brk gap
  · have low : k / n < 13 := Nat.div_lt_of_lt_mul (by rw [Nat.mul_comm]; exact brk)
    rw [Attempt.levels, List.getD_append _ _ _ _ (by simpa using low)]
    rw [List.getD_eq_getElem _ _ (by simpa using low), List.getElem_replicate]
    rfl
  · have first : k / n = 13 := by rw [gap, Nat.mul_div_cancel _ positive]
    rw [first, split 13 (by decide)]
    rfl
  · have high : 13 ≤ k / n := (Nat.le_div_iff_mul_le positive).mpr (by omega)
    rw [split _ high]
    have less : (k - 13 * n) / n = k / n - 13 := by rw [Nat.mul_comm, Nat.sub_mul_div]
    rw [← less]
    rfl

/-- Where the pair reads as the attempt drives, the attempt goes on to the next place of its line; at the last clock the own
frame is seen, and no end of the attempt before. -/
theorem talk_placeAt {n k : Nat} (two : 2 ≤ n) (inside : k < (lineOf n a.levels).length) :
    { a with place := placeAt n k }.talk n ((lineOf n a.levels).getD k false) =
      (placeAt n (k + 1), if k + 1 = (lineOf n a.levels).length then some .ownFrameSeen else none) := by
  have positive : 0 < n := by omega
  have length : (lineOf n a.levels).length = 13 * n + n * a.bitCount := by
    rw [lineOf_length, Attempt.levels, List.length_append, List.length_replicate, frameLevels_length, Nat.mul_add, Nat.mul_comm n 13]
  have least : n ≤ n * a.bitCount := Nat.le_mul_of_pos_right n (by simp [Attempt.bitCount])
  rw [← drives_placeAt positive]
  rw [length] at inside ⊢
  unfold placeAt
  by_cases brk : k < 13 * n
  · simp only [brk, if_true, Attempt.drives, Attempt.talk, Bool.true_eq_false, and_false, if_false]
    rw [if_neg (show ¬ k + 1 = 13 * n + n * a.bitCount by omega)]
    by_cases more : k + 1 < 13 * n
    · rw [if_pos more, if_pos more]
    · rw [if_neg more, if_neg more, if_pos (by omega)]
  · by_cases gap : k = 13 * n
    · subst gap
      simp only [lt_self_iff_false, if_false, if_true, Attempt.drives, Attempt.talk, Bool.false_eq_true]
      rw [if_neg (show ¬ 13 * n + 1 < 13 * n by omega), if_neg (show ¬ 13 * n + 1 = 13 * n by omega),
        if_neg (show ¬ 13 * n + 1 = 13 * n + n * a.bitCount by omega), Nat.add_sub_cancel_left]
    · simp only [brk, gap, if_false, Attempt.drives, Attempt.talk, ne_eq, Attempt.bitAt, not_true_eq_false,
        and_false]
      rw [if_neg (show ¬ k + 1 < 13 * n by omega), if_neg (show ¬ k + 1 = 13 * n by omega),
        show k - 13 * n + 1 = k + 1 - 13 * n by omega]
      have count : { a with place := TxPlace.sending (k - 13 * n) }.bitCount = a.bitCount := rfl
      rw [count]
      by_cases last : k + 1 = 13 * n + n * a.bitCount
      · rw [if_pos last, if_neg (show ¬ k + 1 - 13 * n < n * a.bitCount by omega)]
      · rw [if_neg last, if_pos (show k + 1 - 13 * n < n * a.bitCount by omega)]

/-- LKC after the first part clocks of the line. -/
theorem talk_line {l : Lkc} {n : Nat} (two : 2 ≤ n) (own : l.attempt = some a) (start : a.place = .brk 0) (k : Nat)
    (inside : k ≤ (lineOf n a.levels).length) :
    (((lineOf n a.levels).take k).foldl (fun m d => (m.talk n d).1) l).attempt = some { a with place := placeAt n k } := by
  induction k with
  | zero =>
    have first : placeAt n 0 = .brk 0 := if_pos (by omega)
    rw [List.take_zero, List.foldl_nil, own, first, ← start]
  | succ k ih =>
    have held := ih (by omega)
    have level : (lineOf n a.levels)[k]? = some ((lineOf n a.levels).getD k false) := by
      rw [List.getD_eq_getElem _ _ (by omega), List.getElem?_eq_getElem]
    rw [List.take_add_one, level, List.foldl_append]
    show (Lkc.talk n _ _).1.attempt = _
    rw [talk_some held, talk_placeAt two (by omega)]

end

/-- Settles O23: the head of the queue in its attempt, and the attempt along its line. -/
theorem transmissionTakesTheHead : Obligations.TransmissionTakesTheHead := by
  refine ⟨fun s run enabled idle none filled => ?_, fun s a d rest n hears own => ?_,
    fun l a n k line clocks own start is inside => ?_⟩
  · obtain ⟨before, e, after, index, split, earlier, later⟩ := headIndex_heads s.lkc.queue filled
    have starts := transmit_of_head (s := s) index split
    refine ⟨begun before e after s, before, after, e, ?_, split, fun x member => (sendKey_lt_iff _ _).mp (earlier x member),
      fun x member => (sendKey_le_iff _ _).mp (later x member), rfl, fun a _ => levels_eq a, begun_sameBut before e after s⟩
    rw [exec_transmitStart_of_idle run enabled idle none, starts]
  · obtain ⟨t, more, steps, kept, queue, lde, attempt, pending, apart⟩ := hears_attempt hears own
    have ltx := ltx_of_attempt own n
    refine ⟨t, steps, kept, queue, lde, fun c place => ⟨?_, fun dominant => ?_⟩, fun place => ⟨?_, ?_⟩,
      fun c place => ⟨?_, fun sent => ?_⟩⟩
    · rw [ltx, Attempt.drives, place]
    · rw [attempt, dominant]
      simp only [Attempt.talk, place, Bool.true_eq_false, and_false, if_false]
      split <;> rfl
    · rw [ltx, Attempt.drives, place]
    · rw [attempt]
      simp only [Attempt.talk, place]
      split <;> rfl
    · rw [ltx, ← bitAt_eq, Attempt.drives, place]
    · rw [← bitAt_eq] at sent
      have goes : a.talk n d = (.sending (c + 1), if c + 1 < n * a.bitCount then none else some .ownFrameSeen) := by
        simp [Attempt.talk, place, sent]
      rw [goes] at attempt pending
      refine ⟨attempt, fun more_ => ?_, fun done => ?_⟩
      · exact not_pending pending (if_pos more_) (by simp [transmitterRows]) apart
      · exact head_pending pending (if_neg (show ¬ c + 1 < n * (1 + 10 * a.bytes.length) by omega))
  · obtain rfl : line = lineOf n a.levels := is
    have two : 2 ≤ n := by omega
    have held := talk_line (l := l) two own start k (by omega)
    refine ⟨?_, ?_⟩
    · simp only [Lkc.ltx, held]
      exact drives_placeAt (by omega) k
    · rw [talk_some held, talk_placeAt two inside]

end Sys2Proof.Machine
end

/-! PROOFS. RST_N puts the station at rest and starts it by its straps (R55, R85, R86, R122, R157 to R159, R173). -/
section
namespace Sys2Proof.Machine

/-! ### The record memory that a cold reset cuts off (R157, R159) -/

/-- A cold reset keeps the log's sectors, which begin behind sector 0. -/
theorem noRecord_get {a : Nat} (log : 4096 ≤ a) (m : Memory) : m.noRecord.get a = m.get a := by
  unfold Memory.noRecord
  split
  · exact cellsGet_erase_other m.cells (by omega)
  · rfl

theorem coldCut_of_log {m : Memory} (occasion : Nat) (log : m.writesConfig = false) : m.coldCut occasion = m := by
  rw [Memory.coldCut, log]
  rfl

theorem coldCut_of_config {m : Memory} (occasion : Nat) (config : m.writesConfig = true) :
    m.coldCut occasion = Memory.noRecord { m with op := m.op.map (MemOp.torn occasion) } := if_pos config

theorem powerLoss_of_config {m : Memory} (occasion : Nat) (config : m.writesConfig = true) :
    m.powerLoss occasion = (m.unpowered occasion).noRecord := if_pos config

theorem coldCut_get {a : Nat} (log : 4096 ≤ a) (m : Memory) (occasion : Nat) : (m.coldCut occasion).get a = m.get a := by
  cases config : m.writesConfig with
  | false => rw [coldCut_of_log occasion config]
  | true => rw [coldCut_of_config occasion config, noRecord_get log]; rfl

theorem unpowered_stops (m : Memory) (occasion : Nat) :
    (m.unpowered occasion).op = none ∧ (m.unpowered occasion).latch = false := by
  unfold Memory.unpowered
  split
  next none => exact ⟨none, rfl⟩
  next => exact ⟨rfl, rfl⟩
  next => exact ⟨rfl, rfl⟩

theorem noRecord_stopped {m : Memory} (stopped : m.op = none ∧ m.latch = false) :
    m.noRecord.op = none ∧ m.noRecord.latch = false := by
  unfold Memory.noRecord
  split
  · rw [stopped.1]
    exact ⟨rfl, stopped.2⟩
  · exact stopped

theorem powerLoss_stops (m : Memory) (occasion : Nat) :
    (m.powerLoss occasion).op = none ∧ (m.powerLoss occasion).latch = false := by
  unfold Memory.powerLoss
  split
  · exact noRecord_stopped (unpowered_stops m occasion)
  · exact unpowered_stops m occasion

/-- The end of the reset reads the same bytes in continuous-read mode and out of it. -/
theorem finish_cont (m : Memory) (cont : Bool) : { m with cont := cont }.finish.cells = m.finish.cells := by
  unfold Memory.finish
  cases op : m.op with
  | none => rfl
  | some o => cases o <;> rfl

theorem memBytes_of_cells {m m' : Memory} (cells : m'.cells = m.cells) (a len : Nat) : memBytes m' a len = memBytes m a len := by
  unfold memBytes Memory.get
  rw [cells]

section
variable {s : State}

/-! ### While RST_N is low (R85) -/

theorem exec_of_low (low : s.phase = .rstLow) (c : Instr) (noEnd : ∀ a r l x y z, c ≠ .coldReset a r l x y z)
    (noStart : ∀ p, c ≠ .rstNAsserted p) : exec c s = .next s := by
  have notRun : s.phase ≠ .run := by rw [low]; decide
  cases c with
  | coldReset a r l x y z => exact absurd rfl (noEnd a r l x y z)
  | rstNAsserted p => exact absurd rfl (noStart p)
  | warmResetEnd =>
    have dispatched : exec .warmResetEnd s = execWarmResetEnd s := rfl
    rw [dispatched, execWarmResetEnd, if_neg (by rw [low]; decide)]
  | tripInAsserted => exact congrArg Host.Outcome.next (if_pos low)
  | tripInReleased => exact congrArg Host.Outcome.next (if_pos low)
  | ccAuxChange closed => exact congrArg Host.Outcome.next (if_pos low)
  | sbAuxClose => exact congrArg Host.Outcome.next (if_pos low)
  | sbAuxOpen => exact congrArg Host.Outcome.next (if_pos low)
  | carrierPeriodStart workFirst => exact congrArg Host.Outcome.next (if_pos low)
  | confirmationWindowEnd => exact congrArg Host.Outcome.next (if_pos low)
  | _ => exact congrArg Host.Outcome.next (if_neg notRun)

/-! ### The end of RST_N (R85, R86) -/

theorem isStation_iff (addr : Addr) : isStation addr = true ↔ 1 ≤ addr.toNat ∧ addr.toNat ≤ 12 := by
  simp [isStation]

/-- The station at the end of RST_N, with its start work's first step where the strap address is a station's. -/
def coldBegun (addr : Addr) (rating : BitVec 2) (linkRate ccAux sbAux tripIn : Bool) (ssc : Ssc) (lkc : Lkc) (start : StartWork)
    (mem : Memory) (s : State) : State :=
  setPermit { coldBase s with
    phase := .run, addr := addr, rating := rating, linkRate := linkRate, ccAux := ccAux, sbAux := sbAux, tripIn := tripIn
    ssc := ssc, lkc := lkc, shc := { Shc.initial with tick := some s.now }
    syn := { Syn.initial with window := some s.now, confirmed := !ccAux }, rwr := { Rwr.initial with start := start }, mem := mem }

theorem coldStart_of_station {addr : Addr} {rating : BitVec 2} {linkRate ccAux sbAux tripIn : Bool} (valid : isStation addr = true) :
    coldStart addr rating linkRate ccAux sbAux tripIn s = coldBegun addr rating linkRate ccAux sbAux tripIn
      { station := .starting, session := none } (Lkc.enable s.now) .configLoad { s.mem.coldCut s.freeCount with cont := false } s := by
  simp only [coldStart, valid, if_true]
  rfl

theorem coldStart_of_invalid {addr : Addr} {rating : BitVec 2} {linkRate ccAux sbAux tripIn : Bool} (invalid : isStation addr = false) :
    coldStart addr rating linkRate ccAux sbAux tripIn s = coldBegun addr rating linkRate ccAux sbAux tripIn
      { station := .invalid, session := none } .disabled .none (s.mem.coldCut s.freeCount) s := by
  simp only [coldStart, invalid, Bool.false_eq_true, if_false]
  rfl

theorem coldStart_syn (addr : Addr) (rating : BitVec 2) (linkRate ccAux sbAux tripIn : Bool) (s : State) :
    (coldStart addr rating linkRate ccAux sbAux tripIn s).syn =
      { Syn.initial with window := some s.now, confirmed := !ccAux, permit := !ccAux } := by
  cases valid : isStation addr with
  | true => rw [coldStart_of_station valid]; simp [coldBegun, setPermit, permitRule, Syn.initial]
  | false => rw [coldStart_of_invalid valid]; simp [coldBegun, setPermit, permitRule, Syn.initial]

theorem coldStart_cannot_trip (addr : Addr) (rating : BitVec 2) (linkRate ccAux sbAux tripIn : Bool) (s : State) :
    canTrip (coldStart addr rating linkRate ccAux sbAux tripIn s) = false := by
  cases station : isStation addr <;> simp [canTrip, coldStart, setPermit, station]

/-- The end of RST_N, TRIP_IN standing asserted held without a trip (R172, R173). -/
theorem coldReset_starts (addr : Addr) (rating : BitVec 2) (linkRate ccAux sbAux tripIn : Bool) (s : State) :
    sameBut [.pru] (coldStart addr rating linkRate ccAux sbAux tripIn s)
        (raiseIf tripIn .tripInput (coldStart addr rating linkRate ccAux sbAux tripIn s)) ∧
      (raiseIf tripIn .tripInput (coldStart addr rating linkRate ccAux sbAux tripIn s)).pru.held =
        (if tripIn then [.tripInput] else []) ∧
      (raiseIf tripIn .tripInput (coldStart addr rating linkRate ccAux sbAux tripIn s)).pru.first = none := by
  cases tripIn with
  | false => exact ⟨fun part _ => by cases part <;> simp [Part.same, raiseIf], rfl, rfl⟩
  | true =>
    rw [raiseIf, if_pos rfl, raise_quiet (.inr (.inr (coldStart_cannot_trip ..)))]
    refine ⟨hold_sameBut _ _, rfl, ?_⟩
    simp [hold, Pru.hold, coldStart, setPermit, coldBase, State.reset, Pru.initial]

end

/-- Settles O58: the assertion of RST_N, the commands under it, and its end by the straps. -/
theorem coldReset : Obligations.ColdReset := by
  refine ⟨fun s powerLost => ?_, fun s c low noEnd noStart => exec_of_low low c noEnd noStart,
    fun s addr rating linkRate ccAux sbAux tripIn => ?_⟩
  · refine ⟨rstAsserted powerLost s, rfl, rfl, ⟨rfl, rfl⟩, rfl, rfl, rfl, rfl, rfl, rfl, rfl, rfl, rfl, rfl, rfl, rfl, rfl, rfl,
      rfl, rfl, rfl, rfl, rfl, rfl, rfl, fun supplied log => ?_, fun config => ?_, fun supplied a log => ?_, fun lost => ?_⟩
    · subst supplied
      exact coldCut_of_log _ log
    · cases powerLost with
      | false =>
        show configGood (memBytes (s.mem.coldCut s.freeCount).finish 0 32) = false
        rw [coldCut_of_config _ config, Memory.noRecord_bad]
      | true =>
        show configGood (memBytes (s.mem.powerLoss s.freeCount).finish 0 32) = false
        rw [powerLoss_of_config _ config, Memory.noRecord_bad]
    · subst supplied
      exact coldCut_get log s.mem s.freeCount
    · subst lost
      exact powerLoss_stops s.mem s.freeCount
  · obtain ⟨kept, held, first⟩ := coldReset_starts addr rating linkRate ccAux sbAux tripIn s
    have dispatched : exec (.coldReset addr rating linkRate ccAux sbAux tripIn) s =
        .next (raiseIf tripIn .tripInput (coldStart addr rating linkRate ccAux sbAux tripIn s)) := rfl
    rw [dispatched]
    generalize raiseIf tripIn .tripInput (coldStart addr rating linkRate ccAux sbAux tripIn s) = t at kept held first
    obtain ⟨strapAddr, strapRating, strapRate⟩ : t.addr = addr ∧ t.rating = rating ∧ t.linkRate = linkRate := kept .straps (by decide)
    have gate : t.mod = .off := kept .mod (by decide)
    have syn : t.syn = { Syn.initial with window := some s.now, confirmed := !ccAux, permit := !ccAux } :=
      (kept .syn (by decide)).trans (coldStart_syn addr rating linkRate ccAux sbAux tripIn s)
    have ssc := kept .ssc (by decide)
    have lkc := kept .lkc (by decide)
    have rwr := kept .rwr (by decide)
    have mem := kept .mem (by decide)
    have cleared : t.ssc.session = none := congrArg Ssc.session ssc
    refine ⟨t, rfl, kept .phase (by decide), strapAddr, strapRating, strapRate, kept .ccAux (by decide), kept .sbAux (by decide),
      kept .tripIn (by decide), ⟨congrArg Mod.gate gate, congrArg Syn.cmdClosed syn⟩, syn, kept .hoc (by decide),
      kept .params (by decide), cleared, kept .emt (by decide), kept .spt (by decide), kept .msu (by decide),
      kept .btr (by decide), kept .rfg (by decide), gate, kept .pvw (by decide), kept .shc (by decide), kept .fpt (by decide),
      held, first, kept .clock (by decide), kept .pending (by decide), kept .pair (by decide), fun inside => ?_, fun outside => ?_,
      fun config => ?_⟩
    · have valid := (isStation_iff addr).mpr inside
      rw [coldStart_of_station valid] at ssc lkc rwr mem
      refine ⟨congrArg Ssc.station ssc, lkc, rwr, fun log => mem.trans ?_⟩
      rw [coldCut_of_log _ log]
      rfl
    · have invalid : isStation addr = false := by
        rw [← Bool.not_eq_true, isStation_iff]
        omega
      rw [coldStart_of_invalid invalid] at ssc lkc rwr mem
      exact ⟨congrArg Ssc.station ssc, lkc, rwr, fun log => mem.trans (coldCut_of_log _ log)⟩
    · rw [memBytes_of_cells (m := (s.mem.coldCut s.freeCount).finish)]
      · rw [coldCut_of_config _ config, Memory.noRecord_bad]
      · cases valid : isStation addr with
        | true => rw [mem, coldStart_of_station valid]; exact finish_cont _ false
        | false => rw [mem, coldStart_of_invalid valid]; rfl

end Sys2Proof.Machine
end

/-! PROOFS. RESTART_N stops the station and keeps what it keeps; its end announces STANDBY or TRIPPED (R62, R87, R167, R179). -/
section
namespace Sys2Proof.Machine

section
variable {s t : State}

/-! ### The assertion (R87) -/

theorem exec_warmReset_of_station (run : s.phase = .run) (station : s.ssc.station ≠ .invalid) :
    exec .warmReset s = .next (warmAsserted s) := by
  have dispatched : exec .warmReset s = execWarmReset s := rfl
  rw [dispatched, execWarmReset, running_run run, if_neg station]

theorem exec_warmReset_of_invalid (run : s.phase = .run) (invalid : s.ssc.station = .invalid) :
    exec .warmReset s = .next s := by
  have dispatched : exec .warmReset s = execWarmReset s := rfl
  rw [dispatched, execWarmReset, running_run run, if_pos invalid]

theorem warmAsserted_sameBut (s : State) :
    sameBut [.phase, .spt, .msu, .btr, .rfg, .mod, .lkc, .pvw, .shc, .syn, .hoc, .emt, .rwr, .fpt, .pru] s (warmAsserted s) := by
  intro part other
  cases part with
  | phase => simp at other
  | spt => simp at other
  | msu => simp at other
  | btr => simp at other
  | rfg => simp at other
  | mod => simp at other
  | lkc => simp at other
  | pvw => simp at other
  | shc => simp at other
  | syn => simp at other
  | hoc => simp at other
  | emt => simp at other
  | rwr => simp at other
  | fpt => simp at other
  | pru => simp at other
  | _ => simp [Part.same, warmAsserted]

theorem warmAsserted_permit (s : State) : (warmAsserted s).syn.permit = !s.ccAux := by
  simp [warmAsserted, setPermit, permitRule, Syn.initial]

/-! ### The end, in whatever state (R167, R179) -/

theorem exec_warmResetEnd_of_low (low : s.phase = .restartLow) : exec .warmResetEnd s = .next (warmEnded s) := by
  have dispatched : exec .warmResetEnd s = execWarmResetEnd s := rfl
  rw [dispatched, execWarmResetEnd, if_pos low]

/-- RESTARTED held and its EVENT submitted. -/
def restartLogged (s : State) : State := submitEvent 6 [BitVec.ofNat 8 s.ssc.station.code] (hold .restarted s)

theorem warmRestarted_pru (s : State) : (warmRestarted s).pru = (hold .restarted s).pru := rfl

theorem warmRestarted_mem (s : State) : { (warmRestarted s).mem with cont := s.mem.cont } = s.mem := by
  show { (requestExit (restartLogged s)).mem with cont := s.mem.cont } = s.mem
  simp only [requestExit, exitMade]
  split <;> rfl

theorem warmRestarted_exit (free : s.fpt.port = none) :
    (warmRestarted s).mem.cont = false ∧ (warmRestarted s).fpt.contRead = false := by
  have made : requestExit (restartLogged s) = exitMade (restartLogged s) := requestExit_free free
  refine ⟨?_, ?_⟩
  · show (requestExit (restartLogged s)).mem.cont = false
    rw [made]
    rfl
  · show (requestExit (restartLogged s)).fpt.contRead = false
    rw [made]
    rfl

/-- RWR as the reset left it, records at its end, its status wait begun. -/
theorem warmRestarted_rwr (s : State) :
    RwrGrows { s.rwr with settling := true, startTimer := some s.now } (warmRestarted s).rwr := by
  obtain ⟨n, behind, grown⟩ := submitRecord_appends (eventRecord 6 [BitVec.ofNat 8 s.ssc.station.code]) (sessionId (hold .restarted s))
    (hold .restarted s)
  refine ⟨n, behind, ?_⟩
  show { (restartLogged s).rwr with settling := true, startTimer := some s.now } = _
  rw [restartLogged, submitEvent, grown]
  rfl

theorem warmRestarted_event (room : s.rwr.queue.length < 16) :
    ((warmRestarted s).rwr.queue[s.rwr.queue.length]?).map (fun r => (r.record, r.session)) =
      some (eventRecord 6 [BitVec.ofNat 8 s.ssc.station.code], sessionId s) := by
  have queue : (warmRestarted s).rwr.queue = (restartLogged s).rwr.queue := rfl
  rw [queue, restartLogged, submitEvent, submitRecord_queue_of_room (s := hold .restarted s) _ _ room]
  simp only [hold_rwr, List.getElem?_concat_length, Option.map_some]
  rfl

theorem warmRestarted_tripHeld (s : State) : tripHeld (warmRestarted s) = tripHeld s := by
  have alarm : tripClass s.params .restarted = false := rfl
  have params : (warmRestarted s).params = s.params := rfl
  simp only [tripHeld, warmRestarted_pru, params, hold, Pru.hold]
  split
  · rfl
  · simp [List.any_append, alarm]

/-! ### What the outcome of a warm reset keeps -/

/-- What the state after the end keeps of the one at the end: the phase, the parameters, what is held, the link enabled, the
memory, the exit made, RWR but for records at its end, an OPEN session. A CLOSED one is cleared. -/
structure RestartKeeps (s t : State) : Prop where
  phase : t.phase = s.phase
  params : t.params = s.params
  held : ∀ x ∈ s.pru.held, x ∈ t.pru.held
  enabled : t.lkc.enabled = s.lkc.enabled
  mem : { t.mem with cont := s.mem.cont } = s.mem
  exit : s.mem.cont = false ∧ s.fpt.contRead = false → t.mem.cont = false ∧ t.fpt.contRead = false
  rwr : RwrGrows s.rwr t.rwr
  opened : sessionOpen s = true → t.ssc.session = s.ssc.session
  closed : ∀ c, s.ssc.session = some c → c.opened = false → t.ssc.session = none ∧ t.emt = none

theorem submit_keeps_held {x : Condition} (f : Frame) (held : x ∈ s.pru.held) : x ∈ (submit f s).pru.held := by
  rcases submit_pru_cases f s with same | grown
  · rw [same]; exact held
  · rw [grown]; exact (held_hold _ _ _).mpr (.inr held)

theorem clearClosed_of_closed {c : Session} (session : s.ssc.session = some c) (closed : c.opened = false) :
    (clearClosed s).ssc.session = none ∧ (clearClosed s).emt = none := by
  simp [clearClosed, session, closed]

theorem warmToStandby_keeps (s : State) : RestartKeeps s (warmToStandby s) where
  phase := rfl
  params := rfl
  held _ held := by
    show _ ∈ (submit _ { clearClosed s with ssc := { (clearClosed s).ssc with station := .standby } }).pru.held
    exact submit_keeps_held _ held
  enabled := by
    show (submit _ { clearClosed s with ssc := { (clearClosed s).ssc with station := .standby } }).lkc.enabled = s.lkc.enabled
    rw [submit_enabled]
    rfl
  mem := rfl
  exit made := made
  rwr := RwrGrows.refl _
  opened opened := (clearClosed_of_open opened).1
  closed _ session closed := clearClosed_of_closed session closed

theorem warmToTripped_keeps (s : State) : RestartKeeps s (warmToTripped s) where
  phase := rfl
  params := rfl
  held _ held := submit_keeps_held (s := setPermit { clearClosed s with
    ssc := { (clearClosed s).ssc with station := .tripped }, pvw := { s.pvw with shipStale := true } }) _ held
  enabled := submit_enabled _ _
  mem := rfl
  exit made := made
  rwr := RwrGrows.refl _
  opened opened := (clearClosed_of_open opened).1
  closed _ session closed := clearClosed_of_closed session closed

theorem readoutCut_cont (s : State) : (s.mem.cont = false → (readoutCut s).mem.cont = false) ∧
    (s.fpt.contRead = false → (readoutCut s).fpt.contRead = false) := by
  simp only [readoutCut, requestExit, exitMade]
  repeat' split
  all_goals simp_all

theorem readoutCut_mem (s : State) : { (readoutCut s).mem with cont := s.mem.cont } = s.mem := by
  simp only [readoutCut, requestExit, exitMade]
  repeat' split
  all_goals rfl

theorem submitRecord_emt_of_none (r : LogRecord) (id : Option SessionId) (absent : s.emt = none) : (submitRecord r id s).emt = none := by
  simp only [submitRecord, countDropped, absent]
  repeat' split
  all_goals rfl

theorem tripWith_keeps (r : FirstCause) (s : State) : RestartKeeps s (tripWith r s) where
  phase := tripWith_phase r s
  params := tripWith_params r s
  held _ held := tripWith_held r held
  enabled := by
    rw [tripWith_eq, submitRecord_lkc, submit_enabled, standsTripped_eq, announce_enabled, enterTripped_enabled]
  mem := by
    rw [(tripWith_store r s).2]
    exact readoutCut_mem s
  exit made := by
    obtain ⟨fpt, mem⟩ := tripWith_store r s
    rw [fpt, mem]
    exact ⟨(readoutCut_cont s).1 made.1, (readoutCut_cont s).2 made.2⟩
  rwr := tripWith_rwr r s
  opened opened := tripWith_session r opened
  closed _ session closed := by
    have cleared := clearClosed_of_closed (s := moveTo .tripped (commandContactor false (gatesOff
      { s with pru := { s.pru with first := some r } }))) session closed
    have none : (standsTripped r s).emt = none := by
      rw [standsTripped_eq, announce_emt, enterTripped, settled_emt, cleared.2]
      rfl
    refine ⟨?_, ?_⟩
    · rw [tripWith_eq, submitRecord_ssc, submit_ssc, standsTripped_eq, announce_ssc, enterTripped_session]
      exact (clearClosed_of_closed (s := s) session closed).1
    · rw [tripWith_eq]
      exact submitRecord_emt_of_none _ _ none

/-! ### The three outcomes (R87, R179) -/

theorem warmOutcome_of_standing (standing : tripHeld s = false) : warmOutcome s = warmToStandby s := by
  simp only [warmOutcome, standing, Bool.false_eq_true, if_false]

theorem warmOutcome_of_resumed {r : FirstCause} (trips : tripHeld s = true) (first : s.pru.first = some r) :
    warmOutcome s = warmToTripped s := by
  simp only [warmOutcome, trips, if_true, first]

theorem warmOutcome_of_decided {r : FirstCause} (trips : tripHeld s = true) (first : s.pru.first = none)
    (cause : waitingCause s.ssc.station s = some r) :
    warmOutcome s = tripWith r { s with pvw := { s.pvw with shipStale := true } } := by
  simp only [warmOutcome, trips, if_true, first, cause]

theorem warmOutcome_cases (s : State) :
    (tripHeld s = false ∧ warmOutcome s = warmToStandby s) ∨
      (∃ r, tripHeld s = true ∧ s.pru.first = some r ∧ warmOutcome s = warmToTripped s) ∨
      ∃ r, tripHeld s = true ∧ s.pru.first = none ∧
        warmOutcome s = tripWith r { s with pvw := { s.pvw with shipStale := true } } := by
  cases trips : tripHeld s with
  | false => exact .inl ⟨rfl, warmOutcome_of_standing trips⟩
  | true =>
    cases first : s.pru.first with
    | some r => exact .inr (.inl ⟨r, rfl, rfl, warmOutcome_of_resumed trips first⟩)
    | none =>
      obtain ⟨r, cause⟩ := Option.isSome_iff_exists.mp ((waitingCause_some_iff (s := s) s.ssc.station).mpr (.inl trips))
      exact .inr (.inr ⟨r, rfl, rfl, warmOutcome_of_decided trips first cause⟩)

theorem warmOutcome_keeps (s : State) : RestartKeeps s (warmOutcome s) := by
  rcases warmOutcome_cases s with ⟨-, outcome⟩ | ⟨r, -, -, outcome⟩ | ⟨r, -, -, outcome⟩ <;> rw [outcome]
  · exact warmToStandby_keeps s
  · exact warmToTripped_keeps s
  · have keeps := tripWith_keeps r { s with pvw := { s.pvw with shipStale := true } }
    exact ⟨keeps.phase, keeps.params, keeps.held, keeps.enabled, keeps.mem, keeps.exit, keeps.rwr, keeps.opened, keeps.closed⟩

/-! ### The STATUS announcing the state entered (R62) -/

theorem StatusSays.of_same {p : List Byte} (told : StatusSays s p) (aux : t.ccAux = s.ccAux) (syn : t.syn.permit = s.syn.permit)
    (claim : t.syn.claim = s.syn.claim) (hoc : t.hoc = s.hoc) (ssc : t.ssc = s.ssc) (rating : t.rating = s.rating)
    (msu : t.msu = s.msu) (btr : t.btr = s.btr) (seq : t.pvw.seq = s.pvw.seq) (params : t.params = s.params)
    (held : t.pru.held = s.pru.held) : StatusSays t p := by
  simpa only [StatusSays, aux, syn, claim, hoc, ssc, rating, msu, btr, seq, params, held] using told

/-- A STATUS submitted to an empty queue out of listening mode. -/
theorem enqueue_status_of_empty {l : Lkc} {f : Frame} (kind : f.kind = .status) (enabled : l.enabled = true) (empty : l.queue = []) :
    l.enqueue false f = (l.push f, .accepted) := by
  simp [Lkc.enqueue, Lkc.push, enabled, kind, empty]

/-- The entry of a frame just submitted. -/
def freshEntry (f : Frame) : TxEntry := { frame := f, retry := 0, inAttempt := false }

theorem submit_status_of_empty {f : Frame} (kind : f.kind = .status) (sends : s.ssc.station.listening = false)
    (enabled : s.lkc.enabled = true) (empty : s.lkc.queue = []) :
    (submit f s).lkc.queue = [freshEntry f] ∧ (submit f s).lkc.enabled = true ∧ (submit f s).pru = s.pru := by
  have taken := enqueue_status_of_empty kind enabled empty
  refine ⟨?_, ?_, ?_⟩
  · simp [submit, sends, taken, Lkc.push, empty, freshEntry]
  · rw [submit_enabled, enabled]
  · simp [submit, submitted, sends, taken]

/-- The station at its STANDBY state, as the STATUS that announces it is built. -/
def standsRestarted (s : State) : State := { clearClosed s with ssc := { (clearClosed s).ssc with station := .standby } }

theorem warmToStandby_announces (enabled : s.lkc.enabled = true) (empty : s.lkc.queue = []) :
    ∃ p, StatusSays { warmToStandby s with syn := { (warmToStandby s).syn with permit := s.syn.permit } } p ∧
      (warmToStandby s).lkc.queue = [{ frame := { kind := .status, payload := p }, retry := 0, inAttempt := false }] := by
  have told := statusSays_statusFrame (standsRestarted s)
  have taken : (standsRestarted s).lkc.enqueue true (statusFrame (standsRestarted s)) =
      ((standsRestarted s).lkc.push (statusFrame (standsRestarted s)), .accepted) :=
    enqueue_standbyStatus rfl rfl enabled (by show s.lkc.queue.length < 8; simp [empty]) (by show ∀ e ∈ s.lkc.queue, _; simp [empty])
  have pru : (submit (statusFrame (standsRestarted s)) (standsRestarted s)).pru = s.pru := by
    have accepted : submitted (statusFrame (standsRestarted s)) (standsRestarted s) = .accepted := congrArg Prod.snd taken
    simp only [submit, accepted]
    rfl
  refine ⟨(statusFrame (standsRestarted s)).payload, told.of_same rfl rfl rfl rfl rfl rfl rfl rfl rfl rfl ?_, ?_⟩
  · exact congrArg Pru.held pru
  · have lkc : (warmToStandby s).lkc = (standsRestarted s).lkc.push (statusFrame (standsRestarted s)) := congrArg Prod.fst taken
    rw [lkc]
    show s.lkc.queue ++ _ = _
    rw [empty]
    rfl

/-- The station back in TRIPPED, as the STATUS that announces it is built. -/
def tripResumed (s : State) : State :=
  setPermit { clearClosed s with
    ssc := { (clearClosed s).ssc with station := .tripped }, pvw := { s.pvw with shipStale := true } }

theorem warmToTripped_announces (enabled : s.lkc.enabled = true) (empty : s.lkc.queue = []) :
    ∃ p, StatusSays (warmToTripped s) p ∧
      { frame := { kind := .status, payload := p }, retry := 0, inAttempt := false } ∈ (warmToTripped s).lkc.queue := by
  have told := statusSays_statusFrame (tripResumed s)
  obtain ⟨queue, -, pru⟩ := submit_status_of_empty (s := tripResumed s) (f := statusFrame (tripResumed s)) rfl rfl enabled empty
  refine ⟨(statusFrame (tripResumed s)).payload, told.of_same rfl rfl rfl rfl rfl rfl rfl rfl rfl rfl (congrArg Pru.held pru), ?_⟩
  have lkc : (warmToTripped s).lkc = (submit (statusFrame (tripResumed s)) (tripResumed s)).lkc := rfl
  rw [lkc, queue]
  exact List.mem_singleton.mpr rfl

theorem tripWith_announces (r : FirstCause) (run : s.phase = .run) (away : s.ssc.station ≠ .tripped) (enabled : s.lkc.enabled = true)
    (empty : s.lkc.queue = []) :
    ∃ p, StatusSays (tripWith r s) p ∧
      { frame := { kind := .status, payload := p }, retry := 0, inAttempt := false } ∈ (tripWith r s).lkc.queue := by
  let named : State := { s with pru := { s.pru with first := some r } }
  have station : (enterTripped named).ssc.station = .tripped := enterTripped_station named
  have triggers : announces named (enterTripped named) = true := by
    have broadcasts : (enterTripped named).ssc.station.broadcasting = true := by rw [station]; rfl
    have differs : announced named ≠ announced (enterTripped named) := fun same =>
      away ((congrArg Prod.fst same).trans station)
    have up : (enterTripped named).phase = .run := (enterTripped_sameBut named .phase (by decide)).trans run
    rw [announces, up, broadcasts, Bool.and_eq_true, bne_iff_ne]
    exact ⟨rfl, differs⟩
  have emptied : (enterTripped named).lkc.queue = [] :=
    List.length_eq_zero_iff.mp (Nat.le_zero.mp ((enterTripped_queue_length named).trans (by
      show s.lkc.queue.length ≤ 0
      simp [empty])))
  obtain ⟨queue, on, pru⟩ := submit_status_of_empty (s := enterTripped named) (f := statusFrame (enterTripped named)) rfl
    (by rw [station]; rfl) ((enterTripped_enabled named).trans enabled) emptied
  have stands : standsTripped r s = triggerStatus (enterTripped named) := by
    rw [standsTripped_eq, announce_eq, if_pos triggers]
  have noticed := enqueue_plain (f := tripNoticeFrame r) (l := (standsTripped r s).lkc) rfl
    (fun log => FrameKind.noConfusion log) (by rw [stands]; exact on) (by
      rw [stands]
      show (submit (statusFrame (enterTripped named)) (enterTripped named)).lkc.queue.length < 8
      rw [queue]
      exact Nat.lt_of_sub_eq_succ rfl)
  have sends : (standsTripped r s).ssc.station.listening = false := by
    rw [stands]
    show (enterTripped named).ssc.station.listening = false
    rw [station]
    rfl
  have held : (tripWith r s).pru = (enterTripped named).pru := by
    rw [tripWith_eq, submitRecord_pru]
    simp only [submit, submitted, sends, noticed]
    rw [stands]
    exact pru
  have lkc : (tripWith r s).lkc = (standsTripped r s).lkc.push (tripNoticeFrame r) := by
    rw [tripWith_eq, submitRecord_lkc]
    simp only [submit, sends, noticed]
  have same : sameBut [.lkc, .pru, .pvw, .emt, .rwr] (enterTripped named) (tripWith r s) := by
    rw [tripWith_eq, standsTripped_eq]
    exact (((announce_sameBut _ _).widen (by decide)).then ((submit_sameBut _ _).widen (by decide))).then
      ((submitRecord_sameBut _ _ _).widen (by decide))
  have seq : (tripWith r s).pvw.seq = (enterTripped named).pvw.seq := by
    rw [tripWith_eq, submitRecord_pvw, submit_pvw, stands]
    rfl
  obtain ⟨-, rating, -⟩ := same .straps (by decide)
  refine ⟨(statusFrame (enterTripped named)).payload, StatusSays.of_same (statusSays_statusFrame (enterTripped named))
    (same .ccAux (by decide)) (congrArg Syn.permit (same .syn (by decide))) (congrArg Syn.claim (same .syn (by decide)))
    (same .hoc (by decide)) (same .ssc (by decide)) rating (same .msu (by decide)) (same .btr (by decide)) seq
    (same .params (by decide)) (congrArg Pru.held held), ?_⟩
  rw [lkc, stands]
  refine List.mem_append_left _ ?_
  show freshEntry (statusFrame (enterTripped named)) ∈ (submit (statusFrame (enterTripped named)) (enterTripped named)).lkc.queue
  rw [queue]
  exact List.mem_singleton.mpr rfl

theorem hold_first {r : FirstCause} (c : Condition) (first : s.pru.first = some r) :
    ∃ following, (hold c s).pru.first = some { r with following := following } := by
  obtain ⟨following, same⟩ := FirstNames.hold (cause := r.cause) (state := r.state) (p := s.pru) ⟨r.following, first⟩
    (s.phase == .restartLow || s.ssc.station == .starting) (s.ssc.station == .tripped) c
  exact ⟨following, same⟩

theorem warmToTripped_pru (enabled : s.lkc.enabled = true) (empty : s.lkc.queue = []) : (warmToTripped s).pru = s.pru :=
  (submit_status_of_empty (s := tripResumed s) (f := statusFrame (tripResumed s)) rfl rfl enabled empty).2.2

theorem warmRestarted_emt_of_open (opened : sessionOpen s = true) (room : s.rwr.queue.length < 16) :
    (warmRestarted s).emt = s.emt.map (Meter.restarted s.now) := by
  have logged : (restartLogged s).emt = s.emt := by
    rw [restartLogged, submitEvent, submitRecord_of_room (s := hold .restarted s) _ _ room]
    rfl
  have held : sessionOpen (requestExit (restartLogged s)) = true := opened
  rw [← logged]
  exact if_pos held

theorem warmOutcome_tripped (trips : tripHeld s = true) : (warmOutcome s).ssc.station = .tripped := by
  rcases warmOutcome_cases s with ⟨standing, -⟩ | ⟨r, -, -, outcome⟩ | ⟨r, -, -, outcome⟩
  · rw [trips] at standing
    cases standing
  · rw [outcome]
    rfl
  · rw [outcome]
    exact tripWith_station r { s with pvw := { s.pvw with shipStale := true } }

theorem warmOutcome_announces (trips : tripHeld s = true) (run : s.phase = .run) (given : s.pru.first ≠ none ∨ s.ssc.station ≠ .tripped)
    (enabled : s.lkc.enabled = true) (empty : s.lkc.queue = []) :
    ∃ p, StatusSays (warmOutcome s) p ∧
      { frame := { kind := .status, payload := p }, retry := 0, inAttempt := false } ∈ (warmOutcome s).lkc.queue := by
  rcases warmOutcome_cases s with ⟨standing, -⟩ | ⟨r, -, -, outcome⟩ | ⟨r, -, absent, outcome⟩
  · rw [trips] at standing
    cases standing
  · rw [outcome]
    exact warmToTripped_announces enabled empty
  · rw [outcome]
    exact tripWith_announces (s := { s with pvw := { s.pvw with shipStale := true } }) r run
      (given.resolve_left fun present => present absent) enabled empty

theorem warmRestarted_first (present : s.pru.first ≠ none) : (warmRestarted s).pru.first ≠ none := by
  obtain ⟨c, first⟩ := Option.ne_none_iff_exists'.mp present
  obtain ⟨following, same⟩ := hold_first .restarted first
  rw [warmRestarted_pru, same]
  exact Option.some_ne_none _

theorem waitOver_says {p : List Byte} (told : StatusSays s p) : StatusSays (waitOver s) p :=
  told.of_same rfl rfl rfl rfl rfl rfl rfl rfl rfl rfl rfl

/-! ### The end, in and out of STARTING -/

theorem warmEnded_of_starting (starting : s.ssc.station = .starting) :
    warmEnded s = { warmRestarted s with rwr := (warmRestarted s).rwr.startAgain } := by
  simp only [warmEnded, starting, if_true]

theorem warmEnded_of_started (started : s.ssc.station ≠ .starting) : warmEnded s = waitOver (warmOutcome (warmRestarted s)) := by
  simp only [warmEnded, started, if_false]

theorem warmEnded_keeps_restart (s : State) :
    (warmEnded s).phase = .run ∧ (warmEnded s).params = s.params ∧ (∀ x, x = .restarted ∨ x ∈ s.pru.held → x ∈ (warmEnded s).pru.held) ∧
      (warmEnded s).lkc.enabled = true ∧ { (warmEnded s).mem with cont := s.mem.cont } = s.mem ∧
      (s.fpt.port = none → (warmEnded s).mem.cont = false ∧ (warmEnded s).fpt.contRead = false) ∧
      (warmEnded s).rwr.settling = true ∧ (warmEnded s).rwr.startTimer = some s.now ∧
      ∃ behind, (warmEnded s).rwr.queue = (warmRestarted s).rwr.queue ++ behind := by
  have held : ∀ x, x = .restarted ∨ x ∈ s.pru.held → x ∈ (warmRestarted s).pru.held := fun x was =>
    (held_hold .restarted x s).mpr was
  obtain ⟨n, more, rwr⟩ := warmRestarted_rwr s
  rcases ne_or_eq s.ssc.station .starting with started | starting
  · rw [warmEnded_of_started started]
    have keeps := warmOutcome_keeps (warmRestarted s)
    obtain ⟨m, behind, grown⟩ := keeps.rwr
    have on : (warmOutcome (warmRestarted s)).rwr.settling = true ∧ (warmOutcome (warmRestarted s)).rwr.startTimer = some s.now := by
      rw [grown, rwr]
      exact ⟨rfl, rfl⟩
    have mem : { (warmOutcome (warmRestarted s)).mem with cont := s.mem.cont } = s.mem := by
      rw [← warmRestarted_mem s]
      have same := keeps.mem
      generalize (warmRestarted s).mem = before at same
      rw [← same]
    exact ⟨keeps.phase, keeps.params, fun x was => keeps.held x (held x was), keeps.enabled, mem,
      fun free => keeps.exit (warmRestarted_exit free), on.1, on.2, behind, congrArg Rwr.queue grown⟩
  · rw [warmEnded_of_starting starting]
    exact ⟨rfl, rfl, held, rfl, warmRestarted_mem s, warmRestarted_exit, by rw [rwr]; rfl, by rw [rwr]; rfl, [], (List.append_nil _).symm⟩

end

/-- Settles O59: the assertion of RESTART_N and its end. -/
theorem warmReset : Obligations.WarmReset := by
  refine ⟨fun s run => ⟨fun invalid => exec_warmReset_of_invalid run invalid, fun station =>
      ⟨warmAsserted s, exec_warmReset_of_station run station, rfl, ⟨rfl, rfl⟩, rfl, rfl, rfl, rfl, warmAsserted_permit s, rfl, rfl,
        rfl, rfl, rfl, rfl, warmAsserted_sameBut s⟩⟩, fun s low => ?_⟩
  obtain ⟨up, params, held, enabled, mem, exit, settling, timer, behind, queue⟩ := warmEnded_keeps_restart s
  have on : (warmRestarted s).lkc.enabled = true := rfl
  have empty : (warmRestarted s).lkc.queue = [] := rfl
  have code := stationCode_eq s.ssc.station
  refine ⟨warmEnded s, exec_warmResetEnd_of_low low, up, held _ (.inl rfl), fun x was => held x (.inr was), enabled, params, mem, exit,
    fun room => ?event, fun started standing => ?toStandby, fun started trips given => ?toTripped, fun starting => ?again, settling,
    timer, fun started standing => ?standby, fun started trips => ?tripped, fun r started trips first => ?cause,
    fun c started session opened => ?kept, fun c started session closed => ?cleared,
    fun c m started standing room session opened meter => ?meter⟩
  case event =>
    obtain ⟨q, at_, is⟩ := Option.map_eq_some_iff.mp (warmRestarted_event room)
    obtain ⟨inside, -⟩ := List.getElem?_eq_some_iff.mp at_
    rw [queue, List.getElem?_append_left inside, at_, Option.map_some, is, code]
    rfl
  case toStandby =>
    have outcome := warmOutcome_of_standing ((warmRestarted_tripHeld s).trans standing)
    obtain ⟨p, told, entry⟩ := warmToStandby_announces on empty
    rw [warmEnded_of_started started, outcome]
    exact ⟨p, StatusSays.of_same told rfl rfl rfl rfl rfl rfl rfl rfl rfl rfl rfl, entry⟩
  case toTripped =>
    rw [warmEnded_of_started started]
    obtain ⟨p, told, entry⟩ := warmOutcome_announces ((warmRestarted_tripHeld s).trans trips) rfl
      (given.imp warmRestarted_first id) on empty
    exact ⟨p, waitOver_says told, entry⟩
  case again =>
    rw [warmEnded_of_starting starting]
    exact ⟨rfl, rfl⟩
  case standby =>
    rw [warmEnded_of_started started, warmOutcome_of_standing ((warmRestarted_tripHeld s).trans standing)]
    rfl
  case tripped =>
    rw [warmEnded_of_started started]
    exact warmOutcome_tripped ((warmRestarted_tripHeld s).trans trips)
  case cause =>
    obtain ⟨following, same⟩ := hold_first .restarted first
    rw [warmEnded_of_started started, warmOutcome_of_resumed ((warmRestarted_tripHeld s).trans trips) same]
    refine ⟨following, ?_⟩
    show (warmToTripped (warmRestarted s)).pru.first = _
    rw [warmToTripped_pru on empty]
    exact same
  case kept =>
    have held : sessionOpen (warmRestarted s) = true := by
      show sessionOpen s = true
      simp only [sessionOpen, session, opened]
    rw [warmEnded_of_started started]
    have same := (warmOutcome_keeps (warmRestarted s)).opened held
    exact same.trans session
  case cleared =>
    rw [warmEnded_of_started started]
    exact (warmOutcome_keeps (warmRestarted s)).closed c session closed
  case meter =>
    have held : sessionOpen s = true := by simp only [sessionOpen, session, opened]
    rw [warmEnded_of_started started, warmOutcome_of_standing ((warmRestarted_tripHeld s).trans standing)]
    show (clearClosed (warmRestarted s)).emt = _
    rw [(clearClosed_of_open (s := warmRestarted s) held).2, warmRestarted_emt_of_open held room, meter]
    rfl

end Sys2Proof.Machine
end

/-! PROOFS. The gates start at a period start in PREPARED, and the soft start ends in RUNNING and JOINING (R24, R28, R35, R92). -/
section
namespace Sys2Proof.Machine

section
variable {s : State} {workFirst : Bool}

/-! ### A carrier period's start (R19) -/

theorem exec_carrierPeriodStart (run : s.phase = .run) :
    exec (.carrierPeriodStart workFirst) s = .next (carrierStart workFirst { s with now := s.now + 1 }) := by
  have dispatched : exec (.carrierPeriodStart workFirst) s = execCarrierPeriodStart workFirst s := rfl
  rw [dispatched, execCarrierPeriodStart, taken_up (by rw [run]; decide)]

theorem unsettled_congr {t : State} (spt : t.spt = s.spt) : unsettled t = unsettled s := by
  rw [unsettled, unsettled, spt]

theorem settleLate_of_settled (settled : unsettled s = false) : settleLate s = s := if_neg (by simp [settled])

theorem settleLate_of_unsettled (late : unsettled s = true) : settleLate s = settlePeriod none s := if_pos late

/-- The soft start is complete, and its station goes on to JOINING (R28, R92). -/
def completes (s : State) : Prop := softStartDone s = true ∧ s.ssc.station = .prepared ∧ s.phase = .run

theorem carrierWork_of_going (going : ¬ completes s) : carrierWork s = periodWork s := if_neg going

theorem carrierWork_of_complete (done : completes s) : carrierWork s = announcing enterJoining (periodWork s) := if_pos done

theorem enterJoining_sameBut (s : State) : sameBut [.btr, .lkc, .pvw, .shc, .ssc, .syn, .hoc] s (enterJoining s) := by
  intro part other
  cases part with
  | btr => simp at other
  | lkc => simp at other
  | pvw => simp at other
  | shc => simp at other
  | ssc => simp at other
  | syn => simp at other
  | hoc => simp at other
  | _ => simp [Part.same, enterJoining, moveTo]

theorem carrierWork_moves (s : State) : sameBut [.btr, .lkc, .pvw, .shc, .ssc, .syn, .hoc, .pru] (periodWork s) (carrierWork s) := by
  by_cases done : completes s
  · rw [carrierWork_of_complete done]
    exact ((enterJoining_sameBut (periodWork s)).widen (by decide)).then ((announce_sameBut _ _).widen (by decide))
  · rw [carrierWork_of_going done]
    exact fun part _ => by cases part <;> simp [Part.same]

theorem periodWork_sameBut (s : State) : sameBut [.rfg, .mod] s (periodWork s) := by
  intro part other
  cases part with
  | rfg => simp at other
  | mod => simp at other
  | _ => simp [Part.same]

theorem carrierWork_sameBut (s : State) :
    sameBut [.btr, .rfg, .mod, .lkc, .pvw, .shc, .ssc, .syn, .hoc, .pru] s (carrierWork s) :=
  ((periodWork_sameBut s).widen (by decide)).then ((carrierWork_moves s).widen (by decide))

theorem strobe_sameBut (s : State) : sameBut [.spt] s (strobe s) := by
  intro part other
  cases part with
  | spt => simp at other
  | _ => simp [Part.same, strobe]

/-- With nothing to settle, a period starts with its work and the strobe, whatever the order. -/
theorem carrierStart_of_settled (settled : unsettled s = false) : carrierStart workFirst s = strobe (carrierWork s) := by
  cases workFirst with
  | false => rw [carrierStart, if_neg (by decide), settleLate_of_settled settled]
  | true =>
    have still : unsettled (carrierWork s) = false := (unsettled_congr (carrierWork_sameBut s .spt (by decide))).trans settled
    rw [carrierStart, if_pos rfl, settleLate_of_settled still]

/-- A period start with nothing to settle. -/
theorem exec_carrierPeriodStart_of_settled (run : s.phase = .run) (settled : unsettled s = false) :
    exec (.carrierPeriodStart workFirst) s = .next (strobe (carrierWork { s with now := s.now + 1 })) := by
  rw [exec_carrierPeriodStart run, carrierStart_of_settled (s := { s with now := s.now + 1 }) settled]

/-- What a started period leaves of the state before it. -/
theorem started_sameBut (s : State) :
    sameBut [.clock, .spt, .btr, .rfg, .mod, .lkc, .pvw, .shc, .ssc, .syn, .hoc, .pru] s
      (strobe (carrierWork { s with now := s.now + 1 })) := by
  have later : sameBut [.clock] s { s with now := s.now + 1 } := by
    intro part other
    cases part with
    | clock => simp at other
    | _ => simp [Part.same]
  exact ((later.widen (by decide)).then ((carrierWork_sameBut _).widen (by decide))).then ((strobe_sameBut _).widen (by decide))

theorem started_sameBut_of_going (going : ¬ completes { s with now := s.now + 1 }) :
    sameBut [.clock, .spt, .rfg, .mod] s (strobe (carrierWork { s with now := s.now + 1 })) := by
  have later : sameBut [.clock] s { s with now := s.now + 1 } := by
    intro part other
    cases part with
    | clock => simp at other
    | _ => simp [Part.same]
  rw [carrierWork_of_going going]
  exact ((later.widen (by decide)).then ((periodWork_sameBut _).widen (by decide))).then ((strobe_sameBut _).widen (by decide))

/-- The Reference Generator and the Modulator of a started period are those of its work. -/
theorem started_work (s : State) : (strobe (carrierWork s)).rfg = (periodWork s).rfg ∧ (strobe (carrierWork s)).mod = (periodWork s).mod :=
  ⟨carrierWork_moves s .rfg (by decide), carrierWork_moves s .mod (by decide)⟩

/-! ### The period work (R19, R35) -/

theorem periodWork_of_idle (off : s.mod.gate = .gatesOff) (still : gateStart s = false) : periodWork s = s := by
  simp [periodWork, still, off]

theorem periodWork_of_start (start : gateStart s = true) :
    (periodWork s).rfg = rfgWork true s ∧ (periodWork s).mod = modWork true s := by
  simp [periodWork, start]

theorem gateStart_of_on (on : s.mod.gate ≠ .gatesOff) : gateStart s = false := by simp [gateStart, on]

theorem periodWork_of_on (on : s.mod.gate ≠ .gatesOff) :
    (periodWork s).rfg = rfgWork false s ∧ (periodWork s).mod = modWork false s := by
  simp [periodWork, gateStart_of_on on, on]

theorem roundAway_zero {b : Int} (positive : 0 < b) : roundAway 0 b = 0 :=
  Int.ediv_eq_zero_of_lt (by omega) (by omega)

theorem indexQuotient_zero (vdc : Option Int) : indexQuotient 0 vdc = 0 := by
  unfold indexQuotient
  cases vdc with
  | none => rfl
  | some v =>
    by_cases positive : 0 < v
    · simp only [positive, if_true]
      exact roundAway_zero positive
    · simp only [positive, if_false]

/-- At index 0 every compare value is 625 (R32). -/
theorem compareValue_zero (sine : Int) : compareValue 0 sine = 625 := by
  simp [compareValue, roundAway, clamp]

/-- RFG and MOD in the gate-start period (R24, R28, R32). -/
theorem gateStarts (s : State) :
    (rfgWork true s).k = 1 ∧ (rfgWork true s).fRef = fBase s ∧ (rfgWork true s).rateLimited = false ∧
      (rfgWork true s).theta = BitVec.ofInt 32 (phaseIncrement (fBase s)) ∧ (rfgWork true s).m = 0 ∧
      (modWork true s).gate = .softStart ∧ (modWork true s).ca = 625 ∧ (modWork true s).cb = 625 ∧ (modWork true s).cc = 625 := by
  have still : (rfgWork true s).m = 0 := by
    have used : amplitudeUsed .softStart 0 (amplitudeRef s) = 0 := by simp [amplitudeUsed]
    simp only [rfgWork, if_true, used, indexQuotient_zero]
    rfl
  refine ⟨rfl, rfl, rfl, BitVec.zero_add _, still, rfl, ?_, ?_, ?_⟩ <;> simp only [modWork, still, compareValue_zero]

/-- RFG and MOD in a period of the soft start (R28). -/
theorem softStarts (gate : s.mod.gate = .softStart) :
    (s.rfg.k < 4000 → (rfgWork false s).k = s.rfg.k + 1 ∧ (modWork false s).gate = .softStart ∧
      ∀ v, s.msu.vdc = some v → 0 < v →
        (rfgWork false s).m = clamp 0 1000 (roundAway (((rfgWork false s).vRef * s.rfg.k).tdiv 4000 * 24000) v)) ∧
    (4000 ≤ s.rfg.k → (rfgWork false s).k = s.rfg.k ∧ (modWork false s).gate = .running) := by
  refine ⟨fun below => ⟨?_, ?_, fun v vdc positive => ?_⟩, fun done => ⟨?_, ?_⟩⟩
  · simp [rfgWork, gate, below]
  · simp [modWork, gate, below]
  · simp [rfgWork, gate, below, amplitudeUsed, indexQuotient, vdc, positive]
  · simp [rfgWork, gate, done]
  · simp [modWork, gate, done]

/-- JOINING entered at the end of the soft start (R92, R105, R112). -/
theorem enterJoining_of_prepared (prepared : s.ssc.station = .prepared) :
    (enterJoining s).syn.joinLimit = some s.now ∧
      (enterJoining s).syn.settle = if s.btr.berthState = .dead then some s.now else none := by
  have stays : s.syn.moved s.ssc.station .joining = s.syn := by rw [prepared]; rfl
  simp only [enterJoining, settled, setPermit, judgeBand, stays]
  exact ⟨rfl, rfl⟩

end

/-- Settles O18: the period works that start the gates and end the soft start. -/
theorem gatesStartAndSoftStartCompletes : Obligations.GatesStartAndSoftStartCompletes := by
  refine ⟨⟨fun s workFirst run prepared off untripped settled => ?_, fun s workFirst run away off settled => ?_⟩,
    fun s workFirst run prepared soft settled => ?_⟩
  · let u : State := { s with now := s.now + 1 }
    have start : gateStart u = true := (gateStart_iff u).mpr ⟨run, prepared, off, untripped⟩
    have going : ¬ completes u := fun done => by
      have soft := done.1
      simp [softStartDone, u, off] at soft
    obtain ⟨rfg, mod⟩ := started_work u
    obtain ⟨rfgIs, modIs⟩ := periodWork_of_start start
    obtain ⟨k, fRef, limited, theta, m, gate, ca, cb, cc⟩ := gateStarts u
    refine ⟨strobe (carrierWork u), exec_carrierPeriodStart_of_settled run settled, ?_⟩
    rw [rfg, mod, rfgIs, modIs]
    exact ⟨gate, k, fRef, limited, theta, m, ca, cb, cc, started_sameBut_of_going going⟩
  · let u : State := { s with now := s.now + 1 }
    have still : gateStart u = false := by simp [gateStart, u, away]
    have going : ¬ completes u := fun done => away done.2.1
    refine ⟨strobe (carrierWork u), exec_carrierPeriodStart_of_settled run settled, ?_⟩
    rw [carrierWork_of_going going, periodWork_of_idle (s := u) off still]
    have later : sameBut [.clock] s u := by
      intro part other
      cases part with
      | clock => simp at other
      | _ => simp [Part.same, u]
    exact (later.widen (by decide)).then ((strobe_sameBut u).widen (by decide))
  · let u : State := { s with now := s.now + 1 }
    have on : u.mod.gate ≠ .gatesOff := by simp [u, soft]
    obtain ⟨rfg, mod⟩ := started_work u
    obtain ⟨rfgIs, modIs⟩ := periodWork_of_on on
    obtain ⟨below, complete⟩ := softStarts (s := u) soft
    refine ⟨strobe (carrierWork u), exec_carrierPeriodStart_of_settled run settled, fun early => ?_, fun full => ?_⟩
    · have going : ¬ completes u := fun done => by
        have reached := done.1
        simp [softStartDone, u] at reached
        omega
      obtain ⟨k, gate, m⟩ := below early
      have kept := started_sameBut_of_going going
      rw [rfg, mod, rfgIs, modIs]
      exact ⟨k, gate, (congrArg Ssc.station (kept .ssc (by decide))).trans prepared, m, kept⟩
    · have done : completes u := ⟨by simp [softStartDone, u, soft, full], prepared, run⟩
      obtain ⟨k, gate⟩ := complete (Nat.le_of_eq full.symm)
      obtain ⟨limit, settle⟩ := enterJoining_of_prepared (s := periodWork u) prepared
      have syn : (strobe (carrierWork u)).syn = (enterJoining (periodWork u)).syn := by
        rw [carrierWork_of_complete done]
        exact announce_syn (periodWork u) _
      have ssc : (strobe (carrierWork u)).ssc = (enterJoining (periodWork u)).ssc := by
        rw [carrierWork_of_complete done]
        exact announce_ssc (periodWork u) _
      rw [rfg, mod, rfgIs, modIs, syn, ssc, enterJoining_station]
      exact ⟨k.trans full, gate, rfl, limit, settle, started_sameBut s⟩

end Sys2Proof.Machine
end

/-! PROOFS. The sine and compare values stay in range, and the gate lines keep their dead time (R30 to R34). -/
section
namespace Sys2Proof.Machine

/-! ### The sine value (R30, R31) -/

theorem row_small {row : List Nat} (all : row.all (Nat.ble · 32767) = true) : ∀ x ∈ row, x ≤ 32767 :=
  fun x member => Nat.le_of_ble_eq_true (List.all_eq_true.mp all x member)

theorem sineQuarter_small : ∀ x ∈ sineQuarter, x ≤ 32767 := by
  intro x member
  simp only [sineQuarter, List.mem_append] at member
  rcases member with (((((((m | m) | m) | m) | m) | m) | m) | m) | m
  exacts [row_small rfl x m, row_small rfl x m, row_small rfl x m, row_small rfl x m, row_small rfl x m, row_small rfl x m,
    row_small rfl x m, row_small rfl x m, row_small rfl x m]

theorem sineEntry_small (i : Nat) : -32767 ≤ sineEntry i ∧ sineEntry i ≤ 32767 := by
  have entry (j : Nat) : sineQuarter.getD j 0 ≤ 32767 := by
    rw [List.getD_eq_getElem?_getD]
    cases at_ : sineQuarter[j]? with
    | none => exact Nat.zero_le _
    | some x => exact sineQuarter_small x (List.mem_of_getElem? at_)
  have inside := entry (if i % 4096 % 2048 ≤ 1024 then i % 4096 % 2048 else 2048 - i % 4096 % 2048)
  simp only [sineEntry]
  split <;> omega

/-- A step of a segment, in 256 parts rounded down, stays between nothing and the whole. -/
theorem segmentStep_bounds {d : Int} {f : Nat} (part : f ≤ 256) :
    (0 ≤ d → 0 ≤ d * f / 256 ∧ d * f / 256 ≤ d) ∧ (d ≤ 0 → d ≤ d * f / 256 ∧ d * f / 256 ≤ 0) := by
  have positive : (0 : Int) ≤ f := Int.natCast_nonneg f
  have whole : (f : Int) ≤ 256 := by exact_mod_cast part
  refine ⟨fun up => ?_, fun down => ?_⟩
  · have low : 0 ≤ d * f := Int.mul_nonneg up positive
    have high : d * f ≤ d * 256 := Int.mul_le_mul_of_nonneg_left whole up
    omega
  · have low : d * 256 ≤ d * f := Int.mul_le_mul_of_nonpos_left down whole
    have high : d * f ≤ 0 := Int.mul_nonpos_of_nonpos_of_nonneg down positive
    omega

theorem sineValue_on_segment (angle : BitVec 32) :
    min (sineEntry (angle.toNat / 1048576)) (sineEntry (angle.toNat / 1048576 + 1)) ≤ sineValue angle ∧
      sineValue angle ≤ max (sineEntry (angle.toNat / 1048576)) (sineEntry (angle.toNat / 1048576 + 1)) := by
  have part : angle.toNat % 1048576 / 4096 ≤ 256 := by omega
  obtain ⟨up, down⟩ := segmentStep_bounds
    (d := sineEntry (angle.toNat / 1048576 + 1) - sineEntry (angle.toNat / 1048576)) part
  simp only [sineValue]
  rcases le_total (sineEntry (angle.toNat / 1048576)) (sineEntry (angle.toNat / 1048576 + 1)) with rises | falls
  · obtain ⟨low, high⟩ := up (Int.sub_nonneg_of_le rises)
    rw [min_eq_left rises, max_eq_right rises]
    omega
  · obtain ⟨low, high⟩ := down (Int.sub_nonpos_of_le falls)
    rw [min_eq_right falls, max_eq_left falls]
    omega

theorem sineValue_small (angle : BitVec 32) : -32767 ≤ sineValue angle ∧ sineValue angle ≤ 32767 := by
  obtain ⟨low, high⟩ := sineValue_on_segment angle
  obtain ⟨lowHere, highHere⟩ := sineEntry_small (angle.toNat / 1048576)
  obtain ⟨lowNext, highNext⟩ := sineEntry_small (angle.toNat / 1048576 + 1)
  exact ⟨(le_min lowHere lowNext).trans low, high.trans (max_le highHere highNext)⟩

/-! ### The compare value (R32) -/

/-- A quotient rounded half away from zero lies within a whole bound of its exact value. -/
theorem roundAway_bounds {a b n : Int} (positive : 0 < b) (low : -(n * b) ≤ a) (high : a ≤ n * b) :
    -n ≤ roundAway a b ∧ roundAway a b ≤ n := by
  have upper {x : Int} (above : x ≤ n * b) : (2 * x + b) / (2 * b) ≤ n := by
    refine Int.lt_add_one_iff.mp (Int.ediv_lt_of_lt_mul (by omega) ?_)
    have : (n + 1) * (2 * b) = 2 * (n * b) + 2 * b := by ring
    omega
  have lower {x : Int} (nonneg : 0 ≤ x) : 0 ≤ (2 * x + b) / (2 * b) := Int.ediv_nonneg (by omega) (by omega)
  unfold roundAway
  split
  next nonneg =>
    have := upper high
    have := lower nonneg
    omega
  next negative =>
    have := upper (x := -a) (by omega)
    have := lower (x := -a) (by omega)
    omega

theorem comparePlace_bounds {m sine : Int} (low : 0 ≤ m) (high : m ≤ 1000) (sineLow : -32767 ≤ sine) (sineHigh : sine ≤ 32767) :
    0 ≤ 625 + roundAway (625 * m * sine) 32767000 ∧ 625 + roundAway (625 * m * sine) 32767000 ≤ 1250 := by
  have below : 625 * m * sine ≤ 625 * 32767000 := by nlinarith
  have above : -(625 * 32767000) ≤ 625 * m * sine := by nlinarith
  have bounds := roundAway_bounds (n := 625) (by decide) above below
  omega

/-! ### The gate lines (R33, R34) -/

theorem switches_apart (prev c : Int) (t : Nat) : ¬ (highOn c t = true ∧ lowOn prev c t = true) := by
  simp only [highOn, lowOn, decide_eq_true_eq]
  omega

theorem highOn_iff {prev c : Int} {t : Nat} (inside : t < 2500) (prevs : 20 ≤ prev ∧ prev ≤ 1230) (cs : 20 ≤ c ∧ c ≤ 1230) :
    highOn c t = true ↔ ∀ u : Int, t - 40 ≤ u → u ≤ t → IdealHigh prev c u := by
  simp only [highOn, decide_eq_true_eq, IdealHigh]
  refine ⟨fun on u after before => ?_, fun ideal => ?_⟩
  · rw [if_neg (by omega)]
    omega
  · have now := ideal t (by omega) (by omega)
    have first := ideal (t - 40) (by omega) (by omega)
    rw [if_neg (by omega)] at now
    by_cases early : (t : Int) - 40 < 0
    · have boundary := ideal (-1) (by omega) (by omega)
      rw [if_pos (by decide)] at boundary
      omega
    · rw [if_neg early] at first
      omega

theorem lowOn_iff {prev c : Int} {t : Nat} (inside : t < 2500) (prevs : 20 ≤ prev ∧ prev ≤ 1230) (cs : 20 ≤ c ∧ c ≤ 1230) :
    lowOn prev c t = true ↔ ∀ u : Int, t - 40 ≤ u → u ≤ t → ¬ IdealHigh prev c u := by
  simp only [lowOn, decide_eq_true_eq, IdealHigh]
  refine ⟨fun on u after before => ?_, fun idle => ?_⟩
  · split <;> omega
  · have now := idle t (by omega) (by omega)
    rw [if_neg (by omega)] at now
    by_contra off
    by_cases late : 1250 + c ≤ t
    · have last := idle (1249 + c) (by omega) (by omega)
      rw [if_neg (by omega)] at last
      omega
    · have first := idle (t - 40) (by omega) (by omega)
      rw [if_pos (by omega)] at first
      omega

theorem drivesPhase {prev c : Int} {t : Nat} (inside : t < 2500) (prevs : 20 ≤ prev ∧ prev ≤ 1230) (cs : 20 ≤ c ∧ c ≤ 1230) :
    DrivesPhase prev c t (highOn c t) (lowOn prev c t) := by
  have high := highOn_iff inside prevs cs
  have low := lowOn_iff inside prevs cs
  refine ⟨high, low, fun u change before after => ⟨?_, ?_⟩⟩
  · rw [← Bool.not_eq_true, high]
    exact fun ideal => change (iff_of_true (ideal (u - 1) (by omega) (by omega)) (ideal u (by omega) before))
  · rw [← Bool.not_eq_true, low]
    exact fun idle => change (iff_of_false (idle (u - 1) (by omega) (by omega)) (idle u (by omega) before))

theorem gateLines_off {x : Mod} (off : x.gate = .gatesOff) (t : Nat) :
    gateLines x t = ⟨false, false, false, false, false, false, false⟩ := if_pos off

theorem gateLines_on {x : Mod} (on : x.gate ≠ .gatesOff) (t : Nat) :
    gateLines x t = ⟨true, highOn x.ca t, lowOn x.pa x.ca t, highOn x.cb t, lowOn x.pb x.cb t, highOn x.cc t, lowOn x.pc x.cc t⟩ :=
  if_neg on

/-- Settles O19: the sine on its segment, the compare value in its range, each phase's switches with their dead time. -/
theorem outputStaysInRangeWithDeadTime : Obligations.OutputStaysInRangeWithDeadTime := by
  refine ⟨⟨fun angle => ⟨sineValue_on_segment angle, sineValue_small angle⟩, fun m sine low high sineLow sineHigh => ?_⟩,
    fun x t => ?_⟩
  · obtain ⟨above, below⟩ := comparePlace_bounds low high sineLow sineHigh
    exact ⟨above, below, rfl, compareValue_zero sine⟩
  · by_cases off : x.gate = .gatesOff
    · rw [gateLines_off off]
      exact ⟨by simp, by simp, by simp, fun _ => rfl, fun on => absurd off on⟩
    · rw [gateLines_on off]
      refine ⟨switches_apart _ _ t, switches_apart _ _ t, switches_apart _ _ t, fun gone => absurd gone off, fun _ inside range => ?_⟩
      exact ⟨rfl, drivesPhase inside (range _ (by simp)) (range _ (by simp)),
        drivesPhase inside (range _ (by simp)) (range _ (by simp)), drivesPhase inside (range _ (by simp)) (range _ (by simp))⟩

end Sys2Proof.Machine
end

/-! PROOFS. The published voltage is the whole number nearest the exact value (R11). -/
section
namespace Sys2Proof.Machine

/-- The root found from its bits below 2^fuel, where the root lies within 2^fuel of `r`. -/
theorem isqrtFrom_bounds (n fuel : Nat) :
    ∀ r, r * r ≤ n → n < (r + 2 ^ fuel) * (r + 2 ^ fuel) →
      isqrtFrom n fuel r * isqrtFrom n fuel r ≤ n ∧ n < (isqrtFrom n fuel r + 1) * (isqrtFrom n fuel r + 1) := by
  induction fuel with
  | zero => exact fun r low high => ⟨low, high⟩
  | succ bit ih =>
    intro r low high
    have double : r + 2 ^ (bit + 1) = r + 2 ^ bit + 2 ^ bit := by rw [pow_succ]; omega
    rw [double] at high
    rw [isqrtFrom]
    split
    next set => exact ih _ set high
    next clear => exact ih _ low (Nat.lt_of_not_le clear)

theorem isqrt_bounds {n : Nat} (small : n < 2 ^ 64) : isqrt n * isqrt n ≤ n ∧ n < (isqrt n + 1) * (isqrt n + 1) :=
  isqrtFrom_bounds n 32 0 (Nat.zero_le n) (by simpa using small)

/-- The square of twice the published voltage, by whole numbers (R11). -/
def voltageSquare (c : CycleSum) : Nat := 4 * c.v2 * 1000000000000 / (c.n * 14142136 ^ 2)

theorem voltageOf_eq (c : CycleSum) : voltageOf c = ((isqrt (voltageSquare c) + 1) / 2 : Nat) := rfl

/-- The square lies within one unit below its exact value. -/
theorem voltageSquare_bounds (c : CycleSum) (some : 0 < c.n) :
    voltageSquare c * (c.n * 14142136 ^ 2) ≤ 4000000000000 * c.v2 ∧
      4000000000000 * c.v2 < (voltageSquare c + 1) * (c.n * 14142136 ^ 2) := by
  have positive : 0 < c.n * 14142136 ^ 2 := by positivity
  have scaled : 4 * c.v2 * 1000000000000 = 4000000000000 * c.v2 := by ring
  rw [voltageSquare, scaled]
  refine ⟨Nat.div_mul_le_self _ _, ?_⟩
  rw [← Nat.div_lt_iff_lt_mul positive]
  exact Nat.lt_succ_self _

/-- A cycle of samples of 16 bits has a square below 4,635². -/
theorem voltageSquare_small {c : CycleSum} (some : 0 < c.n) (range : c.v2 ≤ c.n * 1073741824) : voltageSquare c < 4635 * 4635 := by
  obtain ⟨low, -⟩ := voltageSquare_bounds c some
  refine Nat.lt_of_mul_lt_mul_right (a := c.n * 14142136 ^ 2) (Nat.lt_of_le_of_lt low ?_)
  omega

/-- Half a root rounded: twice it lies within 1 of the exact value, `a ÷ b` the exact square. -/
theorem halfRoot_nearest {a b x r : Nat} (low : x * b ≤ a) (high : a < (x + 1) * b) (rootLow : r * r ≤ x)
    (rootHigh : x < (r + 1) * (r + 1)) :
    (a : Int) < (2 * ((r + 1) / 2 : Nat) + 1) ^ 2 * b ∧
      ((0 : Int) < ((r + 1) / 2 : Nat) → (2 * ((r + 1) / 2 : Nat) - 1) ^ 2 * b ≤ (a : Int)) := by
  have above : r + 1 ≤ 2 * ((r + 1) / 2) + 1 := by omega
  have below : 2 * ((r + 1) / 2) - 1 ≤ r := by omega
  generalize (r + 1) / 2 = v at above below
  refine ⟨?_, fun some => ?_⟩
  · have square : x + 1 ≤ (2 * v + 1) ^ 2 := (Nat.succ_le_of_lt rootHigh).trans (by
      rw [pow_two]
      exact Nat.mul_le_mul above above)
    exact_mod_cast high.trans_le (Nat.mul_le_mul_right b square)
  · have square : (2 * v - 1) ^ 2 ≤ x := le_trans (by
      rw [pow_two]
      exact Nat.mul_le_mul below below) rootLow
    have whole : (2 * (v : Int) - 1) = ((2 * v - 1 : Nat) : Int) := by omega
    rw [whole]
    exact_mod_cast (Nat.mul_le_mul_right b square).trans low

/-- Settles O15: half the root, rounded, is the nearest whole number. -/
theorem voltageIsTheNearestWhole : Obligations.VoltageIsTheNearestWhole := by
  intro c some range _
  obtain ⟨low, high⟩ := voltageSquare_bounds c some
  have small := voltageSquare_small some range
  obtain ⟨rootLow, rootHigh⟩ := isqrt_bounds (n := voltageSquare c) (Nat.lt_trans small (by decide))
  have root : isqrt (voltageSquare c) < 4635 :=
    lt_of_mul_self_lt_mul_self₀ (Nat.zero_le _) (Nat.lt_of_le_of_lt rootLow small)
  obtain ⟨below, above⟩ := halfRoot_nearest low high rootLow rootHigh
  rw [voltageOf_eq]
  refine ⟨Int.natCast_nonneg _, ?_, ?_, fun published => ?_⟩
  · have := Nat.div_le_div_right (c := 2) (show isqrt (voltageSquare c) + 1 ≤ 4635 by omega)
    omega
  · exact_mod_cast below
  · exact_mod_cast above published

end Sys2Proof.Machine
end

/-! PROOFS. The receive states follow the pair, bytes are read from their levels, and LKC's timers act (R38, R40, R41, R43, R45,
R51). -/
section
namespace Sys2Proof.Machine

section
variable {s : State}

/-! ### The receiver's line events (R40, R41) -/

theorem exec_linkIdle_outside (run : s.phase = .run) (enabled : s.lkc.enabled = true) (outside : s.lkc.rx ≠ .frame) :
    exec .linkIdle s = .next (withRx .idle s) := by
  have dispatched : exec .linkIdle s = execLinkIdle s := rfl
  rw [dispatched, execLinkIdle, running_run run, onLink, if_pos enabled, if_neg outside]

theorem exec_breakDetected_outside (run : s.phase = .run) (enabled : s.lkc.enabled = true) (outside : s.lkc.rx ≠ .frame) :
    exec .breakDetected s = .next (withRx .brk s) := by
  have dispatched : exec .breakDetected s = execBreakDetected s := rfl
  rw [dispatched, execBreakDetected, running_run run, onLink, if_pos enabled, if_neg outside]

theorem exec_partialFrame_of_ownAbort (run : s.phase = .run) (enabled : s.lkc.enabled = true) (own : s.lkc.ownAbort = true) :
    exec (.partialFrameDiscarded true) s = .next (withRx .brk s) := by
  have dispatched : exec (.partialFrameDiscarded true) s = execPartialFrameDiscarded true s := rfl
  rw [dispatched, execPartialFrameDiscarded, running_run run, onLink, if_pos enabled, if_pos (.inr own), discardPartial, if_pos own]
  rfl

/-! ### One part clock outside an attempt (R41) -/

/-- What a part clock makes of LKC with no attempt in progress: the receiver hears it. -/
theorem hears_alone {d : Bool} {rest : List Bool} {n : Nat} (hears : HearsNext n d rest s) (idle : s.lkc.attempt = none) :
    ∃ t, step s = .next t ∧ t.pair = rest ∧ sameBut [.pending, .pair, .lkc] s t ∧ t.lkc = (s.lkc.listen n d).1 ∧
      t.pending = (s.lkc.listen n d).2.toList := by
  obtain ⟨enabled, empty, pair, clocks⟩ := hears
  have nominal : bitClocks s.linkRate = n := by rw [clocks]; rfl
  have talks : s.lkc.talk n d = (s.lkc, none) := by simp only [Lkc.talk, idle]
  have clocked : s.lkc.clocked n d = ((s.lkc.listen n d).1, (s.lkc.listen n d).2.toList) := by
    rw [Lkc.clocked, talks]
    rfl
  have steps : step s = .next (hear d { s with pair := rest }) := by simp only [step, empty, pair]
  refine ⟨_, steps, rfl, fun part other => ?_, ?_, ?_⟩
  · cases part with
    | pending => simp at other
    | pair => simp at other
    | lkc => simp at other
    | _ => simp [Part.same, hear]
  · simp only [hear, enabled, if_true, nominal, clocked]
  · simp only [hear, enabled, if_true, nominal, clocked, empty, List.append_nil]

section
variable {l : Lkc} {n : Nat}

theorem listen_dominant (waits : l.rx = .idle ∨ l.rx = .hunt) :
    l.listen n true = l.moves .dominantRun (l.ear.count true) := by
  rcases waits with rx | rx <;> simp only [Lkc.listen, rx, if_true]

theorem listen_runEnds (rx : l.rx = .dominantRun) : l.listen n false = l.moves .hunt (l.ear.count false) := by
  simp only [Lkc.listen, rx, Bool.false_eq_true, if_false]

theorem listen_runs (rx : l.rx = .dominantRun) (dominant : l.ear.dominant = true) :
    l.listen n true =
      if 11 * n ≤ l.ear.lasted + 1 then l.reports .breakDetected (l.ear.count true) else l.goesOn (l.ear.count true) := by
  simp only [Lkc.listen, rx, if_true, Ear.count, dominant]

theorem listen_breakEnds (rx : l.rx = .brk) : l.listen n false = l.moves .delimit (l.ear.count false) := by
  simp only [Lkc.listen, rx, Bool.false_eq_true, if_false]

theorem listen_syncBegins (rx : l.rx = .delimit) : l.listen n true = l.moves .sync (l.ear.count true).byteBegins := by
  simp only [Lkc.listen, rx, if_true]

theorem listen_quiet (waits : l.rx = .hunt ∨ l.rx = .delimit) :
    l.listen n false =
      if 11 * n ≤ l.ear.quiet + 1 then l.reports .linkIdle (l.ear.count false) else l.goesOn (l.ear.count false) := by
  rcases waits with rx | rx <;> simp only [Lkc.listen, rx, Bool.false_eq_true, if_false, Ear.count]

theorem listen_frame (d : Bool) (rx : l.rx = .frame) :
    l.listen n d = l.hearFrame n d (d && !l.ear.dominant) (l.ear.count d) := by
  simp only [Lkc.listen, rx]

/-- A report of the receiver where its count is reached, and none before. -/
theorem reported {c : Instr} {e : Ear} (reached : Prop) [Decidable reached] :
    (if reached then l.reports c e else l.goesOn e).1.rx = l.rx ∧
      (if reached then l.reports c e else l.goesOn e).2.toList = if reached then [c] else [] := by
  split <;> exact ⟨rfl, rfl⟩

/-! ### A byte read from its levels (R38, R43) -/

/-- The bits of a byte sampled in its first `k` part clocks, each at its centre. -/
def sampled (n k : Nat) : Nat := (k - 1 + n / 2) / n

/-- The receiver in a frame after the first `k` part clocks of a byte. -/
structure ReadTo (n : Nat) (b : Byte) (l : Lkc) (k : Nat) (m : Lkc) : Prop where
  rx : m.rx = .frame
  run : m.rxRun = 5 * n
  queue : m.queue = l.queue
  count : m.badCount = l.badCount
  clock : m.ear.clock = some (k - 1)
  lasted : m.ear.lasted ≤ k
  bits : m.ear.bits = (byteLevels b).take (sampled n k)
  bytes : m.ear.bytes = if sampled n k = 10 then l.ear.bytes ++ [b] else l.ear.bytes

theorem byteLevels_length (b : Byte) : (byteLevels b).length = 10 := rfl

/-- The eight data bits of the levels of a byte, the most significant first, are that byte's. -/
theorem byteOf_levels : ∀ b : Byte, byteOf ((byteLevels b).take 9) = b := by decide

theorem readTo_begins {b : Byte} (clocks : n = 40 ∨ n = 80) (rx : l.rx = .frame) (run : l.rxRun = 5 * n)
    (recessive : l.ear.dominant = false) (between : l.ear.clock = none) : ReadTo n b l 1 (l.listen n true).1 := by
  have short : ¬ 11 * n ≤ 1 := by omega
  have none : sampled n 1 = 0 := by rcases clocks with rfl | rfl <;> rfl
  have heard : l.listen n true = l.goesOn (l.ear.count true).byteBegins := by
    rw [listen_frame true rx]
    simp only [Lkc.hearFrame, Ear.count, recessive, between, Bool.true_eq_false, if_false, short, and_false, Bool.not_false,
      Bool.and_self, if_true]
  rw [heard]
  refine ⟨rx, run, rfl, rfl, rfl, ?_, ?_, ?_⟩
  · simp [Lkc.goesOn, Ear.byteBegins, Ear.count, recessive]
  · simp [Lkc.goesOn, Ear.byteBegins, none]
  · simp [Lkc.goesOn, Ear.byteBegins, Ear.count, none]

/-- The clock at which bit `j` is sampled, the bits being as long as they are sent. -/
theorem sampleClock_nominal (clocks : n = 40 ∨ n = 80) (j : Nat) : sampleClock (5 * n) j = j * n + n / 2 := by
  rcases clocks with rfl | rfl <;> unfold sampleClock <;> omega

/-- Bit `j` is sampled at its clock; between two of them none is. -/
theorem sampled_succ (clocks : n = 40 ∨ n = 80) {k : Nat} (begun : 1 ≤ k) :
    (k = sampled n k * n + n / 2 → sampled n (k + 1) = sampled n k + 1 ∧ k / n = sampled n k) ∧
      (k ≠ sampled n k * n + n / 2 → sampled n (k + 1) = sampled n k) := by
  rcases clocks with rfl | rfl <;> unfold sampled <;> omega

theorem sampled_le (clocks : n = 40 ∨ n = 80) {k : Nat} (inside : k ≤ 10 * n) : sampled n k ≤ 10 := by
  rcases clocks with rfl | rfl <;> unfold sampled <;> omega

/-- In the stop bit, whose level is recessive, all ten bits are sampled from its centre on. -/
theorem sampled_all (clocks : n = 40 ∨ n = 80) {k : Nat} (inside : k < 10 * n) (all : sampled n k = 10) : k / n = 9 := by
  rcases clocks with rfl | rfl <;> unfold sampled at all <;> omega

theorem lasted_count {e : Ear} {k : Nat} (d : Bool) (lasted : e.lasted ≤ k) : (e.count d).lasted ≤ k + 1 := by
  simp only [Ear.count]
  split <;> omega

/-- A bit sampled in a byte (R43). -/
theorem sampleBit_reads {b : Byte} {j : Nat} {m : Lkc} {e : Ear} (inside : j < 10) (bits : e.bits = (byteLevels b).take j) :
    m.sampleBit ((byteLevels b).getD j false) e = m.goesOn { e with
      bits := (byteLevels b).take (j + 1), bytes := if j = 9 then e.bytes ++ [b] else e.bytes } := by
  have length : e.bits.length = j := by rw [bits, List.length_take, byteLevels_length]; omega
  have level : (byteLevels b)[j]? = some ((byteLevels b).getD j false) := by
    rw [List.getD_eq_getElem _ _ (by rw [byteLevels_length]; omega), List.getElem?_eq_getElem]
  have next : (byteLevels b).take (j + 1) = e.bits ++ [(byteLevels b).getD j false] := by
    rw [List.take_add_one, level, bits]
    rfl
  have start : ¬ (e.bits = [] ∧ (byteLevels b).getD j false = false) := by
    rintro ⟨empty, low⟩
    rw [empty] at length
    subst length
    cases low
  rw [Lkc.sampleBit, if_neg start, length, next]
  by_cases last : j = 9
  · subst last
    have stop : (byteLevels b).getD 9 false = false := rfl
    rw [if_neg (by decide), stop, if_neg (by decide), if_pos rfl, bits, byteOf_levels]
  · rw [if_pos (by omega), if_neg last]

/-! The receiver within a byte: past its samples, at one, and between two. -/

section
variable {d falling : Bool} {e : Ear} {t : Nat} (noBreak : ¬ (d = true ∧ 11 * n ≤ e.lasted)) (clock : e.clock = some t)
include noBreak clock

theorem hearFrame_rests (all : e.bits.length = 10) (early : ¬ (2 * l.rxRun ≤ t + 1 ∨ falling = true)) :
    l.hearFrame n d falling e = l.goesOn { e with clock := some (t + 1) } := by
  rw [Lkc.hearFrame, if_neg noBreak]
  simp only [clock, all, if_true, early, if_false]

theorem hearFrame_samples (more : e.bits.length ≠ 10) (centre : t + 1 = sampleClock l.rxRun e.bits.length) :
    l.hearFrame n d falling e = l.sampleBit d { e with clock := some (t + 1) } := by
  rw [Lkc.hearFrame, if_neg noBreak]
  simp only [clock, more, if_false]
  rw [if_pos centre]

theorem hearFrame_waits (more : e.bits.length ≠ 10) (between : t + 1 ≠ sampleClock l.rxRun e.bits.length) :
    l.hearFrame n d falling e = l.goesOn { e with clock := some (t + 1) } := by
  rw [Lkc.hearFrame, if_neg noBreak]
  simp only [clock, more, if_false, between]

end

/-- One more part clock of the byte. -/
theorem readTo_goesOn {b : Byte} {k : Nat} {m : Lkc} (clocks : n = 40 ∨ n = 80) (begun : 1 ≤ k) (inside : k < 10 * n)
    (read : ReadTo n b l k m) : ReadTo n b l (k + 1) (m.listen n ((byteLevels b).getD (k / n) false)).1 := by
  obtain ⟨rx, run, queue, count, clock, lasted, bits, bytes⟩ := read
  obtain ⟨atCentre, between⟩ := sampled_succ clocks begun
  have most := sampled_le clocks (Nat.le_of_lt inside)
  have length : m.ear.bits.length = sampled n k := by rw [bits, List.length_take, byteLevels_length]; omega
  have counted (d : Bool) : (m.ear.count d).lasted ≤ k + 1 := lasted_count d lasted
  have noBreak (d : Bool) : ¬ (d = true ∧ 11 * n ≤ (m.ear.count d).lasted) := by
    have := counted d
    omega
  have next : k - 1 + 1 = k := by omega
  have going (again : sampled n (k + 1) = sampled n k) (d : Bool) :
      ReadTo n b l (k + 1) (m.goesOn { m.ear.count d with clock := some (k - 1 + 1) }).1 :=
    ⟨rx, run, queue, count, congrArg some next, counted d, by rw [again]; exact bits, by rw [again]; exact bytes⟩
  rw [listen_frame _ rx]
  by_cases all : sampled n k = 10
  · have stop : (byteLevels b).getD (k / n) false = false := by rw [sampled_all clocks inside all]; rfl
    have later : k ≠ sampled n k * n + n / 2 := by rw [all]; omega
    have early : ¬ (2 * m.rxRun ≤ k - 1 + 1 ∨ (false && !m.ear.dominant) = true) := by simp [run]; omega
    rw [stop, hearFrame_rests (e := m.ear.count false) (noBreak false) clock (length.trans all) early]
    exact going (between later) false
  · have more : (m.ear.count ((byteLevels b).getD (k / n) false)).bits.length ≠ 10 := fun ten => all (length.symm.trans ten)
    have place : sampleClock m.rxRun (m.ear.count ((byteLevels b).getD (k / n) false)).bits.length = sampled n k * n + n / 2 := by
      rw [run, sampleClock_nominal clocks]
      exact congrArg (fun j => j * n + n / 2) length
    by_cases centre : k = sampled n k * n + n / 2
    · obtain ⟨succ, bit⟩ := atCentre centre
      rw [hearFrame_samples (noBreak _) clock more (by rw [place, next]; exact centre), bit,
        sampleBit_reads (e := { m.ear.count ((byteLevels b).getD (sampled n k) false) with clock := some (k - 1 + 1) }) (by omega) bits]
      refine ⟨rx, run, queue, count, congrArg some next, counted _, by rw [succ]; rfl, ?_⟩
      rw [if_neg all] at bytes
      rw [succ]
      simp only [Lkc.goesOn, Ear.count, bytes, Nat.reduceEqDiff]
    · rw [hearFrame_waits (noBreak _) clock more (by rw [place, next]; exact centre)]
      exact going (between centre) _

/-- The levels of a byte, each for one bit time, are read as that byte (R43). -/
theorem reads_byte {b : Byte} (clocks : n = 40 ∨ n = 80) (rx : l.rx = .frame) (run : l.rxRun = 5 * n)
    (recessive : l.ear.dominant = false) (between : l.ear.clock = none) {k : Nat} (begun : 1 ≤ k) (inside : k ≤ 10 * n) :
    ReadTo n b l k (((lineOf n (byteLevels b)).take k).foldl (fun m d => (m.listen n d).1) l) := by
  have positive : 0 < n := by omega
  have length : (lineOf n (byteLevels b)).length = 10 * n := by rw [lineOf_length, byteLevels_length, Nat.mul_comm]
  have level {i : Nat} (inside : i < 10 * n) :
      (lineOf n (byteLevels b))[i]? = some ((byteLevels b).getD (i / n) false) := by
    rw [← lineOf_getD positive, List.getD_eq_getElem _ _ (by omega), List.getElem?_eq_getElem]
  induction k, begun using Nat.le_induction with
  | base =>
    have first : (lineOf n (byteLevels b)).take 1 = [true] := by
      rw [List.take_add_one, level (by omega), Nat.zero_div]
      rfl
    rw [first]
    exact readTo_begins clocks rx run recessive between
  | succ k begun ih =>
    rw [List.take_add_one, level (by omega), List.foldl_append]
    exact readTo_goesOn clocks begun (by omega) (ih (by omega))

end

/-! ### LKC's timers (R45, R51) -/

theorem exec_badFrameWindow_of_window {start : Nat} (run : s.phase = .run) (window : s.lkc.window = some start) :
    exec .badFrameWindow s = .next { s with
      now := max s.now (start + 8000), lkc := { s.lkc with badCount := 0, window := some (start + 8000) } } := by
  have dispatched : exec .badFrameWindow s = execBadFrameWindow s := rfl
  rw [dispatched, execBadFrameWindow, running_run run, onExpiry_some window, catchUp]
  simp only [window]
  rfl

theorem exec_duplicateAddressTimer_of_dup {start : Nat} (run : s.phase = .run) (dup : s.lkc.dup = some start) :
    exec .duplicateAddressTimer s = .next { s with now := max s.now (start + 8000), lkc := { s.lkc with dup := none } } := by
  have dispatched : exec .duplicateAddressTimer s = execDuplicateAddressTimer s := rfl
  rw [dispatched, execDuplicateAddressTimer, running_run run, onExpiry_some dup]
  rfl

end

/-- Settles O22: the receiver's line events, R41's table at a part clock, a byte read from its levels, the two timers. -/
theorem receiverAndLinkTimersFollowThePair : Obligations.ReceiverAndLinkTimersFollowThePair := by
  refine ⟨fun s run enabled => ⟨fun outside => ⟨exec_linkIdle_outside run enabled outside, exec_breakDetected_outside run enabled outside⟩,
      fun own => exec_partialFrame_of_ownAbort run enabled own, fun unheard => ?_, fun heard => if_pos heard⟩,
    fun s d rest n hears idle => ?_, fun l n b clocks rx run recessive between => ?_,
    fun s start run => ⟨exec_badFrameWindow_of_window run, exec_duplicateAddressTimer_of_dup run⟩⟩
  · rw [Ear.taken, if_neg (by simp [unheard])]
    rfl
  · obtain ⟨t, steps, pair, kept, lkc, pending⟩ := hears_alone hears idle
    obtain ⟨rx, linkIdle, run, ear, listens, -⟩ := listen_cases n d s.lkc
    refine ⟨t, steps, pair, kept, by rw [lkc, listens], by rw [lkc, listens]; exact idle, by rw [lkc, listens], ?_, ?_, ?_, ?_, ?_, ?_⟩
    · rintro rfl waits
      rw [lkc, pending, listen_dominant waits]
      exact ⟨rfl, rfl, rfl⟩
    · rintro rfl runs
      rw [lkc, pending, listen_runEnds runs]
      exact ⟨rfl, rfl⟩
    · rintro rfl runs dominant
      rw [lkc, pending, listen_runs runs dominant, ← runs]
      exact reported _
    · rintro rfl breaks
      rw [lkc, pending, listen_breakEnds breaks]
      exact ⟨rfl, rfl⟩
    · rintro rfl delimits
      rw [lkc, pending, listen_syncBegins delimits]
      exact ⟨rfl, rfl⟩
    · rintro rfl waits
      rw [lkc, pending, listen_quiet waits]
      exact reported _
  · have length : (lineOf n (byteLevels b)).length = 10 * n := by rw [lineOf_length, byteLevels_length, Nat.mul_comm]
    have read := reads_byte (b := b) clocks rx run recessive between (k := 10 * n) (by omega) (Nat.le_refl _)
    rw [← length, List.take_length] at read
    have all : sampled n (10 * n) = 10 := by rcases clocks with rfl | rfl <;> rfl
    refine ⟨read.rx, read.bytes.trans (if_pos ?_), read.queue, read.count⟩
    rw [length, all]

end Sys2Proof.Machine
end

/-! PROOFS. What a settled carrier period and a sample handed on make of each block (R2 to R17, R104 to R122, R138). -/
section
namespace Sys2Proof.Machine

section
variable {s t : State}

theorem sameBut.refl (s : State) : sameBut [] s s := fun part _ => by cases part <;> simp [Part.same]

theorem sameBut_ite {parts : List Part} {c : Prop} [Decidable c] {f : State → State} (moves : sameBut parts s (f s)) :
    sameBut parts s (if c then f s else s) := by
  split
  · exact moves
  · exact fun part _ => sameBut.refl s part (by simp)

/-! ### The trackers, whatever the out-of-band timer -/

/-- Two states of BTR agree on all but the out-of-band timer. -/
def SameTrackers (b c : Btr) : Prop := ∃ (oob : Timer) (done : Bool), c = { b with oob := oob, oobDone := done }

theorem SameTrackers.refl (b : Btr) : SameTrackers b b := ⟨b.oob, b.oobDone, rfl⟩

theorem SameTrackers.of_eq {b c : Btr} (same : c = b) : SameTrackers b c := same ▸ .refl b

theorem SameTrackers.trans {b c d : Btr} (first : SameTrackers b c) (second : SameTrackers c d) : SameTrackers b d := by
  obtain ⟨oob, done, rfl⟩ := first
  obtain ⟨oob', done', rfl⟩ := second
  exact ⟨oob', done', rfl⟩

theorem SameTrackers.take {b c : Btr} (same : SameTrackers b c) (r : Sample) (k : Nat) (e : SampleEvents) (m : Msu) :
    SameTrackers (b.take r k e m) (c.take r k e m) := by
  obtain ⟨oob, done, rfl⟩ := same
  exact ⟨oob, done, rfl⟩

theorem SameTrackers.events {b c : Btr} (same : SameTrackers b c) (r : Sample) (k : Nat) (m : Msu) :
    sampleEvents r k c m = sampleEvents r k b m := by
  obtain ⟨oob, done, rfl⟩ := same
  rfl

theorem SameTrackers.berthState {b c : Btr} (same : SameTrackers b c) : c.berthState = b.berthState := by
  obtain ⟨oob, done, rfl⟩ := same
  rfl

theorem judgeBand_trackers (s : State) : SameTrackers s.btr (judgeBand s).btr := ⟨_, _, rfl⟩

theorem settled_trackers (s : State) : SameTrackers s.btr (settled s).btr := judgeBand_trackers s

/-! ### A condition raised -/

theorem raise_sameBut (c : Condition) (s : State) :
    sameBut [.btr, .rfg, .mod, .lkc, .pvw, .shc, .ssc, .syn, .hoc, .emt, .rwr, .fpt, .mem, .pru] s (raise c s) := by
  rcases raise_cases c s with same | ⟨-, -, -, same⟩ <;> rw [same]
  · exact (hold_sameBut c s).widen (by decide)
  · exact ((hold_sameBut c s).widen (by decide)).then (tripWith_sameBut _ _)

theorem raise_trackers (c : Condition) (s : State) : SameTrackers s.btr (raise c s).btr := by
  rcases raise_cases c s with same | ⟨-, -, -, same⟩ <;> rw [same]
  · exact .refl _
  · obtain ⟨-, -, -, btr⟩ := tripWith_blocks { cause := c, state := s.ssc.station, following := [] } (hold c s)
    rw [btr]
    exact ⟨none, false, rfl⟩

theorem raiseIf_sameBut (met : Bool) (c : Condition) (s : State) :
    sameBut [.btr, .rfg, .mod, .lkc, .pvw, .shc, .ssc, .syn, .hoc, .emt, .rwr, .fpt, .mem, .pru] s (raiseIf met c s) :=
  sameBut_ite (f := raise c) (raise_sameBut c s)

theorem raiseIf_trackers (met : Bool) (c : Condition) (s : State) : SameTrackers s.btr (raiseIf met c s).btr := by
  cases met
  · exact .refl _
  · exact raise_trackers c s

theorem checked_sameBut (r : Sample) (isNew : Bool) (s : State) :
    sameBut [.btr, .rfg, .mod, .lkc, .pvw, .shc, .ssc, .syn, .hoc, .emt, .rwr, .fpt, .mem, .pru] s (checked r isNew s) :=
  (raiseIf_sameBut _ _ s).then (raiseIf_sameBut _ _ _)

theorem checked_trackers (r : Sample) (isNew : Bool) (s : State) : SameTrackers s.btr (checked r isNew s).btr :=
  (raiseIf_trackers _ _ s).trans (raiseIf_trackers _ _ _)

/-- Neither check of a sample is run and met. -/
def ChecksPass (r : Sample) (isNew : Bool) : Prop := isNew = false ∨ overcurrentMet r = false ∧ dcFaultMet r = false

theorem checked_of_pass {r : Sample} {isNew : Bool} (pass : ChecksPass r isNew) (s : State) : checked r isNew s = s := by
  rcases pass with old | ⟨current, link⟩
  · simp [checked, raiseIf, old]
  · simp [checked, raiseIf, current, link]

/-! ### A sample's sums, events and trackers (R8 to R16) -/

/-- MSU with the sample added, the checks run and the energy integrated. -/
def metered (r : Sample) (isNew : Bool) (s : State) : State :=
  integrate (activeProduct r) (checked r isNew { s with msu := s.msu.take r isNew })

/-- The events of a sample. -/
def eventsOf (r : Sample) (isNew : Bool) (k : Nat) (s : State) : SampleEvents := sampleEvents r k s.btr (s.msu.take r isNew)

/-- MSU after a sample and its closes. -/
def closedMsu (r : Sample) (isNew : Bool) (k : Nat) (s : State) : Msu := (s.msu.take r isNew).close (eventsOf r isNew k s)

/-- BTR after a sample and its closes. -/
def takenBtr (r : Sample) (isNew : Bool) (k : Nat) (s : State) : Btr :=
  s.btr.take r k (eventsOf r isNew k s) (closedMsu r isNew k s)

/-- The state in which the blocks judge the events of a sample. -/
def trackedOf (r : Sample) (isNew : Bool) (k : Nat) (s : State) : State := tracked r k (eventsOf r isNew k s) (metered r isNew s)

theorem integrate_sameBut (p : Int) (s : State) : sameBut [.emt] s (integrate p s) := by
  intro part other
  cases part with
  | emt => simp at other
  | _ => simp [Part.same]

theorem summed_sameBut (m : Msu) (s : State) : sameBut [.msu] s { s with msu := m } := by
  intro part other
  cases part with
  | msu => simp at other
  | _ => simp [Part.same]

theorem metered_sameBut (r : Sample) (isNew : Bool) (s : State) :
    sameBut [.msu, .btr, .rfg, .mod, .lkc, .pvw, .shc, .ssc, .syn, .hoc, .emt, .rwr, .fpt, .mem, .pru] s (metered r isNew s) :=
  (((summed_sameBut (s.msu.take r isNew) s).widen (by decide)).then ((checked_sameBut r isNew _).widen (by decide))).then
    ((integrate_sameBut _ _).widen (by decide))

theorem metered_of_pass {r : Sample} {isNew : Bool} (pass : ChecksPass r isNew) (s : State) :
    metered r isNew s = integrate (activeProduct r) { s with msu := s.msu.take r isNew } := by
  rw [metered, checked_of_pass pass]

theorem metered_sameBut_of_pass {r : Sample} {isNew : Bool} (pass : ChecksPass r isNew) (s : State) :
    sameBut [.msu, .emt] s (metered r isNew s) := by
  rw [metered_of_pass pass]
  exact ((summed_sameBut (s.msu.take r isNew) s).widen (by decide)).then ((integrate_sameBut _ _).widen (by decide))

theorem metered_msu (r : Sample) (isNew : Bool) (s : State) : (metered r isNew s).msu = s.msu.take r isNew :=
  checked_sameBut r isNew { s with msu := s.msu.take r isNew } .msu (by decide)

theorem metered_trackers (r : Sample) (isNew : Bool) (s : State) : SameTrackers s.btr (metered r isNew s).btr :=
  checked_trackers r isNew { s with msu := s.msu.take r isNew }

theorem metered_events (r : Sample) (isNew : Bool) (k : Nat) (s : State) :
    sampleEvents r k (metered r isNew s).btr (metered r isNew s).msu = eventsOf r isNew k s := by
  rw [metered_msu, (metered_trackers r isNew s).events]
  rfl

theorem takeSample_eq (r : Sample) (isNew : Bool) (k : Nat) (s : State) :
    takeSample r isNew k s = announce (metered r isNew s)
      (steered s.btr.berthState (eventsOf r isNew k s) (trackedOf r isNew k s)) := by
  have unfolded : takeSample r isNew k s = announce (metered r isNew s)
      (steered (metered r isNew s).btr.berthState (sampleEvents r k (metered r isNew s).btr (metered r isNew s).msu)
        (tracked r k (sampleEvents r k (metered r isNew s).btr (metered r isNew s).msu) (metered r isNew s))) := rfl
  rw [unfolded, metered_events, (metered_trackers r isNew s).berthState]
  rfl

theorem trackedOf_sameBut (r : Sample) (isNew : Bool) (k : Nat) (s : State) :
    sameBut [.msu, .btr] (metered r isNew s) (trackedOf r isNew k s) := by
  intro part other
  cases part with
  | msu => simp at other
  | btr => simp at other
  | _ => simp [Part.same, trackedOf]

theorem trackedOf_msu (r : Sample) (isNew : Bool) (k : Nat) (s : State) : (trackedOf r isNew k s).msu = closedMsu r isNew k s := by
  rw [closedMsu, ← metered_msu]
  rfl

theorem trackedOf_btr (r : Sample) (isNew : Bool) (k : Nat) (s : State) :
    (trackedOf r isNew k s).btr = (metered r isNew s).btr.take r k (eventsOf r isNew k s) (closedMsu r isNew k s) := by
  rw [closedMsu, ← metered_msu]
  rfl

theorem trackedOf_trackers (r : Sample) (isNew : Bool) (k : Nat) (s : State) :
    SameTrackers (takenBtr r isNew k s) (trackedOf r isNew k s).btr := by
  rw [trackedOf_btr]
  exact (metered_trackers r isNew s).take _ _ _ _

/-! ### What judges the events (R104 to R122, R138) -/

/-- SYN after the events of a sample, the report of a confirmed close not yet made. -/
def synJudged (old : BusState) (e : SampleEvents) (s : State) : State :=
  let claims := berthChanged old s
  let joined := if e.berthClose || e.moduleClose then joinJudged claims else claims
  if e.berthClose || e.shipClose then shipJudged joined else joined

/-- The part timer judged at a module close. -/
def partSeen (e : SampleEvents) (s : State) : State := if e.moduleClose then partJudged s else s

theorem steered_eq (old : BusState) (e : SampleEvents) (s : State) :
    steered old e s = judgeBand (partSeen e (reportClosed (synJudged old e s))) := rfl

theorem berthChanged_sameBut (old : BusState) (s : State) : sameBut [.lkc, .syn] s (berthChanged old s) := by
  intro part other
  cases part with
  | lkc => simp at other
  | syn => simp at other
  | _ => simp [Part.same]

theorem joinJudged_sameBut (s : State) : sameBut [.syn] s (joinJudged s) := by
  intro part other
  cases part with
  | syn => simp at other
  | _ => simp [Part.same]

theorem shipJudged_sameBut (s : State) : sameBut [.syn] s (shipJudged s) :=
  sameBut_ite (f := fun s => setPermit { s with syn := Syn.judgedShip s }) fun part other => by
    cases part with
    | syn => simp at other
    | _ => simp [Part.same]

theorem synJudged_sameBut (old : BusState) (e : SampleEvents) (s : State) : sameBut [.lkc, .syn] s (synJudged old e s) :=
  ((berthChanged_sameBut old s).then (sameBut_ite ((joinJudged_sameBut _).widen (by decide)))).then
    (sameBut_ite ((shipJudged_sameBut _).widen (by decide)))

theorem partJudged_sameBut (s : State) : sameBut [.hoc] s (partJudged s) := by
  intro part other
  cases part with
  | hoc => simp at other
  | _ => simp [Part.same]

theorem partSeen_sameBut (e : SampleEvents) (s : State) : sameBut [.hoc] s (partSeen e s) := sameBut_ite (partJudged_sameBut s)

theorem judgeBand_sameBut (s : State) : sameBut [.btr] s (judgeBand s) := by
  intro part other
  cases part with
  | btr => simp at other
  | _ => simp [Part.same]

theorem moveOnline_settled_sameBut (s : State) :
    sameBut [.btr, .lkc, .pvw, .shc, .ssc, .syn, .hoc] s (settled (moveTo .online s)) := by
  intro part other
  cases part with
  | btr => simp at other
  | lkc => simp at other
  | pvw => simp at other
  | shc => simp at other
  | ssc => simp at other
  | syn => simp at other
  | hoc => simp at other
  | _ => simp [Part.same, moveTo]

theorem enterOnline_sameBut (s : State) : sameBut [.btr, .lkc, .pvw, .shc, .ssc, .syn, .hoc, .emt, .rwr] s (enterOnline s) := by
  unfold enterOnline
  split
  · exact ((moveOnline_settled_sameBut s).widen (by decide)).then ((enterHandoverIn_sameBut _).widen (by decide))
  · exact (moveOnline_settled_sameBut s).widen (by decide)

theorem reportClosed_sameBut (s : State) : sameBut [.btr, .lkc, .pvw, .shc, .ssc, .syn, .hoc, .emt, .rwr] s (reportClosed s) :=
  sameBut_ite (f := enterOnline) (enterOnline_sameBut s)

theorem enterOnline_trackers (s : State) : SameTrackers s.btr (enterOnline s).btr := by
  have online : SameTrackers s.btr (settled (moveTo .online s)).btr := settled_trackers (moveTo .online s)
  unfold enterOnline
  split
  · refine online.trans ?_
    rw [enterHandoverIn, submitEvent_btr]
    exact settled_trackers _
  · exact online

theorem reportClosed_trackers (s : State) : SameTrackers s.btr (reportClosed s).btr := by
  unfold reportClosed
  split
  · exact enterOnline_trackers s
  · exact .refl _

theorem steered_sameBut (old : BusState) (e : SampleEvents) (s : State) :
    sameBut [.btr, .lkc, .pvw, .shc, .ssc, .syn, .hoc, .emt, .rwr] s (steered old e s) := by
  rw [steered_eq]
  exact ((((synJudged_sameBut old e s).widen (by decide)).then ((reportClosed_sameBut _).widen (by decide))).then
    ((partSeen_sameBut e _).widen (by decide))).then ((judgeBand_sameBut _).widen (by decide))

theorem steered_trackers (old : BusState) (e : SampleEvents) (s : State) : SameTrackers s.btr (steered old e s).btr := by
  have judged := SameTrackers.of_eq (synJudged_sameBut old e s .btr (by decide))
  have reported := reportClosed_trackers (synJudged old e s)
  have parted := SameTrackers.of_eq (partSeen_sameBut e (reportClosed (synJudged old e s)) .btr (by decide))
  exact ((judged.trans reported).trans parted).trans (judgeBand_trackers _)

/-- A confirmed close on a LIVE bus is reported at this sample (R109). -/
def reports (s : State) : Prop :=
  s.phase = .run ∧ s.ssc.station = .joining ∧ s.syn.cmdClosed = true ∧ s.syn.confirmed = true ∧ s.btr.berthState = .live

theorem reportClosed_of_not (quiet : ¬ reports s) : reportClosed s = s := if_neg quiet

theorem reportClosed_of (met : reports s) : reportClosed s = enterOnline s := if_pos met

theorem steered_sameBut_of_quiet {old : BusState} {e : SampleEvents} (quiet : ¬ reports (synJudged old e s)) :
    sameBut [.btr, .lkc, .syn, .hoc] s (steered old e s) := by
  rw [steered_eq, reportClosed_of_not quiet]
  exact (((synJudged_sameBut old e s).widen (by decide)).then ((partSeen_sameBut e _).widen (by decide))).then
    ((judgeBand_sameBut _).widen (by decide))

/-! ### A sample handed on -/

section
variable (r : Sample) (isNew : Bool) (k : Nat) (s : State)

theorem takeSample_sameBut :
    sameBut [.msu, .btr, .rfg, .mod, .lkc, .pvw, .shc, .ssc, .syn, .hoc, .emt, .rwr, .fpt, .mem, .pru] s
      (takeSample r isNew k s) := by
  rw [takeSample_eq]
  exact (((metered_sameBut r isNew s).then ((trackedOf_sameBut r isNew k s).widen (by decide))).then
    ((steered_sameBut _ _ _).widen (by decide))).then ((announce_sameBut _ _).widen (by decide))

theorem takeSample_msu : (takeSample r isNew k s).msu = closedMsu r isNew k s := by
  rw [takeSample_eq, announce_msu, steered_sameBut _ _ _ .msu (by decide), trackedOf_msu]

theorem takeSample_trackers : SameTrackers (takenBtr r isNew k s) (takeSample r isNew k s).btr := by
  rw [takeSample_eq, announce_btr]
  exact (trackedOf_trackers r isNew k s).trans (steered_trackers _ _ _)

end

/-- Where the checks pass and no close is reported, a sample moves MSU, BTR, LKC, SYN, HOC and EMT alone, and the STATUS that it
triggers PVW and PRU. -/
theorem takeSample_sameBut_of_pass {r : Sample} {isNew : Bool} {k : Nat} (pass : ChecksPass r isNew)
    (quiet : ¬ reports (synJudged s.btr.berthState (eventsOf r isNew k s) (trackedOf r isNew k s))) :
    sameBut [.msu, .btr, .lkc, .pvw, .syn, .hoc, .emt, .pru] s (takeSample r isNew k s) := by
  rw [takeSample_eq]
  exact ((((metered_sameBut_of_pass pass s).widen (by decide)).then ((trackedOf_sameBut r isNew k s).widen (by decide))).then
    ((steered_sameBut_of_quiet quiet).widen (by decide))).then ((announce_sameBut _ _).widen (by decide))

/-- The station under which the events of a sample are judged. -/
theorem synJudged_ssc (r : Sample) (isNew : Bool) (k : Nat) (s : State) (old : BusState) (e : SampleEvents) :
    (synJudged old e (trackedOf r isNew k s)).ssc = (metered r isNew s).ssc :=
  (synJudged_sameBut old e _ .ssc (by decide)).trans (trackedOf_sameBut r isNew k s .ssc (by decide))

theorem takeSample_sameBut_of_apart {r : Sample} {isNew : Bool} {k : Nat} (pass : ChecksPass r isNew)
    (quiet : ¬ reports (synJudged s.btr.berthState (eventsOf r isNew k s) (trackedOf r isNew k s)))
    (parting : s.ssc.station ≠ .handoverOut) : sameBut [.msu, .btr, .lkc, .pvw, .syn, .emt, .pru] s (takeSample r isNew k s) := by
  have ssc := (synJudged_ssc r isNew k s s.btr.berthState (eventsOf r isNew k s)).trans
    (metered_sameBut_of_pass pass s .ssc (by decide))
  have hoc : (takeSample r isNew k s).hoc = s.hoc := by
    rw [takeSample_eq, announce_hoc, steered_eq, reportClosed_of_not quiet, judgeBand_hoc]
    have stays : (partSeen (eventsOf r isNew k s) (synJudged s.btr.berthState (eventsOf r isNew k s) (trackedOf r isNew k s))).hoc =
        (synJudged s.btr.berthState (eventsOf r isNew k s) (trackedOf r isNew k s)).hoc := by
      unfold partSeen
      split
      · exact if_neg (by rw [ssc]; exact parting)
      · rfl
    rw [stays, synJudged_sameBut _ _ _ .hoc (by decide), trackedOf_sameBut r isNew k s .hoc (by decide)]
    exact metered_sameBut_of_pass pass s .hoc (by decide)
  intro part other
  by_cases at_ : part = .hoc
  · subst at_; exact hoc
  · exact takeSample_sameBut_of_pass pass quiet part (by
      simp only [List.mem_cons, List.not_mem_nil, or_false, not_or] at other ⊢
      tauto)

/-- Out of JOINING a sample whose checks pass reports no close. -/
theorem not_reports_of_away {r : Sample} {isNew : Bool} {k : Nat} (pass : ChecksPass r isNew) (joining : s.ssc.station ≠ .joining) :
    ¬ reports (synJudged s.btr.berthState (eventsOf r isNew k s) (trackedOf r isNew k s)) := by
  rintro ⟨-, at_, -⟩
  rw [synJudged_ssc, metered_sameBut_of_pass pass s .ssc (by decide)] at at_
  exact joining at_

theorem takeSample_emt {r : Sample} {isNew : Bool} {k : Nat} (pass : ChecksPass r isNew) (joining : s.ssc.station ≠ .joining) :
    (takeSample r isNew k s).emt = if energyGate s then s.emt.map (Meter.add (wattsOf (activeProduct r) s.rating)) else s.emt := by
  have quiet := not_reports_of_away (k := k) pass joining
  rw [takeSample_eq, announce_emt, steered_sameBut_of_quiet quiet .emt (by decide), trackedOf_sameBut r isNew k s .emt (by decide),
    metered_of_pass pass]
  rfl

/-! ### A period settled (R2 to R6) -/

/-- The period missing, MEASUREMENT_LOST raised at 3 (R5). -/
def missed (record : Option (List Byte)) (s : State) : State :=
  raiseIf ((s.spt.settle record).runCount == 3) .measurementLost { s with spt := s.spt.settle record }

theorem settlePeriod_good {record : Option (List Byte)} {r : Sample} (good : s.spt.outcome record = some r) :
    settlePeriod record s = takeSample r true (s.spt.index.getD 0) { s with spt := s.spt.settle record } := by
  have last : (s.spt.settle record).lastGood = some r := by simp only [Spt.settle, good]
  simp only [settlePeriod, good, last, raiseIf, Option.isNone_some, Option.isSome_some, Bool.false_and, Bool.false_eq_true, if_false]

theorem settle_missing {record : Option (List Byte)} (missing : s.spt.outcome record = none) :
    s.spt.settle record = { s.spt with settled := true, expected := s.spt.nextExpected record
                                       runCount := min 255 (s.spt.runCount + 1) } := by
  simp only [Spt.settle, missing]

theorem settlePeriod_repeats {record : Option (List Byte)} {r : Sample} (missing : s.spt.outcome record = none)
    (last : s.spt.lastGood = some r) :
    settlePeriod record s = takeSample r false (s.spt.index.getD 0) (missed record s) := by
  have kept : (s.spt.settle record).lastGood = some r := by rw [settle_missing missing]; exact last
  simp only [settlePeriod, missing, kept, missed, Option.isNone_none, Option.isSome_none, Bool.true_and]

theorem settlePeriod_first {record : Option (List Byte)} (missing : s.spt.outcome record = none) (first : s.spt.lastGood = none) :
    settlePeriod record s = missed record s := by
  have kept : (s.spt.settle record).lastGood = none := by rw [settle_missing missing]; exact first
  simp only [settlePeriod, missing, kept, missed, Option.isNone_none, Bool.true_and]

theorem missed_sameBut (record : Option (List Byte)) (s : State) :
    sameBut [.spt, .btr, .rfg, .mod, .lkc, .pvw, .shc, .ssc, .syn, .hoc, .emt, .rwr, .fpt, .mem, .pru] s (missed record s) := by
  have settledOnly : sameBut [.spt] s { s with spt := s.spt.settle record } := by
    intro part other
    cases part with
    | spt => simp at other
    | _ => simp [Part.same]
  exact (settledOnly.widen (by decide)).then ((raiseIf_sameBut _ _ _).widen (by decide))

theorem missed_spt (record : Option (List Byte)) (s : State) : (missed record s).spt = s.spt.settle record :=
  raiseIf_sameBut _ _ { s with spt := s.spt.settle record } .spt (by decide)

theorem missed_run {record : Option (List Byte)} (missing : s.spt.outcome record = none) :
    (s.spt.settle record).runCount = min 255 (s.spt.runCount + 1) := by rw [settle_missing missing]

theorem missed_elsewhere {record : Option (List Byte)} (missing : s.spt.outcome record = none) (away : s.spt.runCount ≠ 2) :
    missed record s = { s with spt := s.spt.settle record } := by
  have count : ((s.spt.settle record).runCount == 3) = false := by
    rw [missed_run missing, beq_eq_false_iff_ne]
    omega
  rw [missed, count]
  rfl

theorem missed_third {record : Option (List Byte)} (missing : s.spt.outcome record = none) (third : s.spt.runCount = 2) :
    missed record s = raise .measurementLost { s with spt := s.spt.settle record } := by
  have count : ((s.spt.settle record).runCount == 3) = true := by
    rw [missed_run missing, third]
    rfl
  rw [missed, count]
  rfl

/-- A sample keeps what is held. -/
theorem takeSample_keeps_held {x : Condition} {r : Sample} {isNew : Bool} {k : Nat} (held : x ∈ s.pru.held) :
    x ∈ (takeSample r isNew k s).pru.held := by
  have raised {met : Bool} {c : Condition} {u : State} (was : x ∈ u.pru.held) : x ∈ (raiseIf met c u).pru.held :=
    raiseIf_keeps (P := fun u => x ∈ u.pru.held) (fun was => raise_keeps_held was) was
  have steeredHeld : x ∈ (steered s.btr.berthState (eventsOf r isNew k s) (trackedOf r isNew k s)).pru.held := by
    rw [steered_sameBut _ _ _ .pru (by decide), trackedOf_sameBut r isNew k s .pru (by decide)]
    exact raised (raised held)
  rw [takeSample_eq]
  rcases announce_pru_cases (metered r isNew s) (steered s.btr.berthState (eventsOf r isNew k s) (trackedOf r isNew k s))
    with same | more
  · rw [same]; exact steeredHeld
  · rw [more]; exact (held_hold _ _ _).mpr (.inr steeredHeld)

end
end Sys2Proof.Machine
end

/-! PROOFS. Records settle their periods, good or missing (R2 to R6, R12, R145). -/
section
namespace Sys2Proof.Machine

section
variable {s : State}

/-! ### The bytes of a period (R2) -/

theorem afterNotReady_record {r : List Byte} (n : Nat) (marker : r.head? = some 0xA6#8) :
    afterNotReady (List.replicate n 0xFF#8 ++ r) = r := by
  obtain ⟨rest, rfl⟩ : ∃ rest, r = 0xA6#8 :: rest := by
    cases r with
    | nil => cases marker
    | cons b rest => exact ⟨rest, by rw [Option.some.inj marker]⟩
  induction n with
  | zero => rfl
  | succ n ih => exact ih

theorem recordBytes_record {r : List Byte} (n : Nat) (length : r.length = 25) (marker : r.head? = some 0xA6#8) (s : State) :
    recordBytes (List.replicate n 0xFF#8 ++ r) s = settlePeriod (some r) s := by
  have record := afterNotReady_record n marker
  obtain ⟨rest, rfl⟩ : ∃ rest, r = 0xA6#8 :: rest := by
    cases r with
    | nil => cases marker
    | cons b rest => exact ⟨rest, by rw [Option.some.inj marker]⟩
  simp only [recordBytes, record]
  rw [if_neg (by simp), if_neg (by omega), List.take_of_length_le (Nat.le_of_eq length)]

/-- A complete record settles its period, whatever not-ready bytes came before it (R2). -/
theorem exec_recordComplete_of_record {r : List Byte} (n : Nat) (run : s.phase = .run) (open_ : unsettled s = true)
    (length : r.length = 25) (marker : r.head? = some 0xA6#8) :
    exec (.recordComplete (List.replicate n 0xFF#8 ++ r)) s = .next (settlePeriod (some r) s) := by
  have dispatched : exec (.recordComplete (List.replicate n 0xFF#8 ++ r)) s =
    execRecordComplete (List.replicate n 0xFF#8 ++ r) s := rfl
  rw [dispatched, execRecordComplete, running_run run, if_pos open_, recordBytes_record n length marker]

/-- A first byte that is neither not-ready nor the start marker settles the period missing (R2). -/
theorem exec_startMarkerWrong_of_wrong {b : Byte} (run : s.phase = .run) (open_ : unsettled s = true) (ready : b ≠ 0xFF#8)
    (wrong : b ≠ 0xA6#8) : exec (.startMarkerWrong b) s = .next (settlePeriod none s) := by
  have dispatched : exec (.startMarkerWrong b) s = execStartMarkerWrong b s := rfl
  rw [dispatched, execStartMarkerWrong, running_run run, if_pos ⟨open_, ready, wrong⟩]

/-! ### The outcome of a period (R3, R4, R6) -/

theorem outcome_good {r : List Byte} {p : Spt} (crc : crc8 (r.take 24) = r.getD 24 0)
    (sequence : p.expected = none ∨ p.expected = some (r.getD 1 0)) : p.outcome (some r) = some (sampleOf r) := by
  have passes : p.passes r = true := by
    rw [Spt.passes, sampleCrcGood, crc]
    rcases sequence with unset | next
    · simp [unset]
    · simp [next, sampleOf]
  simp only [Spt.outcome, passes, if_true]

theorem settle_good {r : List Byte} {p : Spt} (crc : crc8 (r.take 24) = r.getD 24 0)
    (sequence : p.expected = none ∨ p.expected = some (r.getD 1 0)) :
    p.settle (some r) = { p with settled := true, runCount := 0, lastGood := some (sampleOf r), expected := some (r.getD 1 0 + 1)
                                 saturated := (sampleOf r).flags != 0 } := by
  have good : sampleCrcGood r = true := by rw [sampleCrcGood, crc, beq_self_eq_true]
  simp only [Spt.settle, outcome_good crc sequence, Spt.nextExpected, good, if_true]
  rfl

theorem outcome_badCrc {r : List Byte} {p : Spt} (crc : crc8 (r.take 24) ≠ r.getD 24 0) : p.outcome (some r) = none := by
  have bad : sampleCrcGood r = false := beq_eq_false_iff_ne.mpr crc
  simp only [Spt.outcome, Spt.passes, bad, Bool.false_and, Bool.false_eq_true, if_false]

theorem nextExpected_badCrc {r : List Byte} {p : Spt} (crc : crc8 (r.take 24) ≠ r.getD 24 0) :
    p.nextExpected (some r) = p.expected.map (· + 1) := by
  have bad : sampleCrcGood r = false := beq_eq_false_iff_ne.mpr crc
  simp only [Spt.nextExpected, bad, Bool.false_eq_true, if_false]

theorem outcome_outOfSequence {r : List Byte} {e : Byte} {p : Spt} (expected : p.expected = some e) (differs : e ≠ r.getD 1 0) :
    p.outcome (some r) = none := by
  have fails : p.passes r = false := by
    rw [Spt.passes, expected]
    simpa [sampleOf] using fun _ => differs
  simp only [Spt.outcome, fails, Bool.false_eq_true, if_false]

theorem nextExpected_goodCrc {r : List Byte} {p : Spt} (crc : crc8 (r.take 24) = r.getD 24 0) :
    p.nextExpected (some r) = some (r.getD 1 0 + 1) := by
  have good : sampleCrcGood r = true := by rw [sampleCrcGood, crc, beq_self_eq_true]
  simp only [Spt.nextExpected, good, if_true]
  rfl

/-! ### A missing period (R4, R5) -/

theorem settleMissing_sameBut {record : Option (List Byte)} {r : Sample} (missing : s.spt.outcome record = none)
    (last : s.spt.lastGood = some r) :
    sameBut [.msu, .btr, .rfg, .mod, .lkc, .pvw, .shc, .ssc, .syn, .hoc, .emt, .rwr, .fpt, .mem, .pru] (missed record s)
      (settlePeriod record s) := by
  rw [settlePeriod_repeats missing last]
  exact takeSample_sameBut r false _ (missed record s)

theorem settleMissing_spt {record : Option (List Byte)} (missing : s.spt.outcome record = none) :
    (settlePeriod record s).spt = { s.spt with settled := true, runCount := min 255 (s.spt.runCount + 1)
                                               expected := s.spt.nextExpected record } := by
  have spt : (missed record s).spt = (settlePeriod record s).spt := by
    cases last : s.spt.lastGood with
    | none => rw [settlePeriod_first missing last]
    | some r => exact (settleMissing_sameBut missing last .spt (by decide)).symm
  rw [← spt, missed_spt, settle_missing missing]

theorem settleMissing_lost {record : Option (List Byte)} (missing : s.spt.outcome record = none) (third : s.spt.runCount = 2) :
    .measurementLost ∈ (settlePeriod record s).pru.held := by
  have held : .measurementLost ∈ (missed record s).pru.held := by
    rw [missed_third missing third]
    exact mem_held_raise _ _
  cases last : s.spt.lastGood with
  | none => rw [settlePeriod_first missing last]; exact held
  | some r => rw [settlePeriod_repeats missing last]; exact takeSample_keeps_held held

/-- The last good record handed on again publishes its Vdc and runs no check (R4, R12). -/
theorem settleMissing_msu {record : Option (List Byte)} (missing : s.spt.outcome record = none) :
    (settlePeriod record s).msu.ocLive = s.msu.ocLive ∧ (settlePeriod record s).msu.dcLive = s.msu.dcLive ∧
      ∀ last, s.spt.lastGood = some last → (settlePeriod record s).msu.vdc = some last.vdc.toInt := by
  have before : (missed record s).msu = s.msu := missed_sameBut record s .msu (by decide)
  cases last : s.spt.lastGood with
  | none =>
    rw [settlePeriod_first missing last, before]
    exact ⟨rfl, rfl, nofun⟩
  | some r =>
    rw [settlePeriod_repeats missing last, takeSample_msu]
    refine ⟨?_, ?_, fun x same => ?_⟩
    · exact (show _ = (missed record s).msu.ocLive from rfl).trans (congrArg Msu.ocLive before)
    · exact (show _ = (missed record s).msu.dcLive from rfl).trans (congrArg Msu.dcLive before)
    · obtain rfl := Option.some.inj same
      rfl

theorem settleMissing_alone {record : Option (List Byte)} (missing : s.spt.outcome record = none) (first : s.spt.lastGood = none)
    (away : s.spt.runCount ≠ 2) : sameBut [.spt] s (settlePeriod record s) := by
  rw [settlePeriod_first missing first, missed_elsewhere missing away]
  intro part other
  cases part with
  | spt => simp at other
  | _ => simp [Part.same]

end

/-- Settles O13: a good record, and the three ways to a missing period. -/
theorem recordsSettleTheirPeriods : Obligations.RecordsSettleTheirPeriods := by
  refine ⟨fun s n r run open_ length marker crc sequence => ?_, fun s c run open_ cause => ?_,
    fun s r e run open_ length marker crc expected differs => ?_⟩
  · let u : State := { s with spt := s.spt.settle (some r) }
    have kept := takeSample_sameBut (sampleOf r) true (s.spt.index.getD 0) u
    have msu := takeSample_msu (sampleOf r) true (s.spt.index.getD 0) u
    have settledOnly : sameBut [.spt] s u := by
      intro part other
      cases part with
      | spt => simp at other
      | _ => simp [Part.same, u]
    refine ⟨_, exec_recordComplete_of_record n run open_ length marker, ?_⟩
    rw [settlePeriod_good (outcome_good crc sequence), msu]
    refine ⟨(kept .spt (by decide)).trans (settle_good crc sequence), rfl, rfl, rfl,
      (settledOnly.widen (by decide)).then (kept.widen (by decide)), fun current link joining => ?_,
      fun current link stands => ?_⟩
    · rw [takeSample_emt (s := u) (.inr ⟨current, link⟩) joining]
      simp only [energyGate, Bool.and_eq_true, and_assoc]
      rfl
    · have joining : u.ssc.station ≠ .joining := by rcases stands with at_ | at_ <;> simp [u, at_]
      have parting : u.ssc.station ≠ .handoverOut := by rcases stands with at_ | at_ <;> simp [u, at_]
      exact (settledOnly.widen (by decide)).then
        ((takeSample_sameBut_of_apart (s := u) (.inr ⟨current, link⟩) (not_reports_of_away (.inr ⟨current, link⟩) joining) parting).widen
          (by decide))
  · obtain ⟨record, missing, expected, runs⟩ : ∃ record, s.spt.outcome record = none ∧
        s.spt.nextExpected record = s.spt.expected.map (· + 1) ∧ exec c s = .next (settlePeriod record s) := by
      rcases cause with ⟨b, ready, wrong, rfl⟩ | ⟨r, length, marker, crc, rfl⟩
      · exact ⟨none, rfl, rfl, exec_startMarkerWrong_of_wrong run open_ ready wrong⟩
      · exact ⟨some r, outcome_badCrc crc, nextExpected_badCrc crc, exec_recordComplete_of_record 0 run open_ length marker⟩
    obtain ⟨current, link, vdc⟩ := settleMissing_msu missing
    refine ⟨_, runs, ?_, settleMissing_lost missing, current, link, vdc, settleMissing_alone missing⟩
    rw [settleMissing_spt missing, expected]
  · have missing := outcome_outOfSequence expected differs
    obtain ⟨current, link, vdc⟩ := settleMissing_msu missing
    refine ⟨_, exec_recordComplete_of_record 0 run open_ length marker, ?_, settleMissing_lost missing, current, link, vdc,
      settleMissing_alone missing⟩
    rw [settleMissing_spt missing, nextExpected_goodCrc crc]

end Sys2Proof.Machine
end

/-! PROOFS. OVERCURRENT, DC_FAULT, TRIP_IN and BUS_FREQUENCY are held and trip a station that can trip (R12, R17, R172 to R176). -/
section
namespace Sys2Proof.Machine

section
variable {s : State}

/-! ### What a report makes held, and nothing else but LINK_OVERRUN (R172) -/

theorem submit_held_iff {x : Condition} (f : Frame) (other : x ≠ .linkOverrun) :
    x ∈ (submit f s).pru.held ↔ x ∈ s.pru.held := by
  rcases submit_pru_cases f s with same | more
  · rw [same]
  · rw [more, held_hold]
    simp [other]

theorem tripWith_held_iff {x : Condition} (r : FirstCause) (other : x ≠ .linkOverrun) :
    x ∈ (tripWith r s).pru.held ↔ x ∈ s.pru.held := by
  rw [tripWith_eq, submitRecord_pru, submit_held_iff _ other, standsTripped_eq, announce_held_iff other, enterTripped_pru]

theorem raise_held_iff {x : Condition} (c : Condition) (other : x ≠ .linkOverrun) :
    x ∈ (raise c s).pru.held ↔ x = c ∨ x ∈ s.pru.held := by
  rcases raise_cases c s with same | ⟨-, -, -, same⟩ <;> rw [same]
  · exact held_hold c x s
  · rw [tripWith_held_iff _ other, held_hold]

theorem raiseIf_held_iff {x : Condition} (met : Bool) (c : Condition) (other : x ≠ .linkOverrun) :
    x ∈ (raiseIf met c s).pru.held ↔ met = true ∧ x = c ∨ x ∈ s.pru.held := by
  cases met with
  | false => simp [raiseIf]
  | true => simpa [raiseIf] using raise_held_iff c other

theorem takeSample_held_iff {x : Condition} (r : Sample) (k : Nat) (other : x ≠ .linkOverrun) :
    x ∈ (takeSample r true k s).pru.held ↔
      dcFaultMet r = true ∧ x = .dcFault ∨ overcurrentMet r = true ∧ x = .overcurrent ∨ x ∈ s.pru.held := by
  have steeredPru : (steered s.btr.berthState (eventsOf r true k s) (trackedOf r true k s)).pru = (metered r true s).pru :=
    (steered_sameBut _ _ _ .pru (by decide)).trans (trackedOf_sameBut r true k s .pru (by decide))
  rw [takeSample_eq, announce_held_iff other, steeredPru]
  show x ∈ (checked r true _).pru.held ↔ _
  simp only [checked, raiseIf_held_iff _ _ other, Bool.true_and]

/-! ### A sample in TRIPPED -/

theorem synJudged_cmdClosed (old : BusState) (e : SampleEvents) (s : State) :
    (synJudged old e s).syn.cmdClosed = s.syn.cmdClosed := by
  have joined (u : State) : (joinJudged u).syn.cmdClosed = u.syn.cmdClosed := by
    simp only [joinJudged]
    repeat' split
    all_goals rfl
  have shipped (u : State) : (shipJudged u).syn.cmdClosed = u.syn.cmdClosed := by
    unfold shipJudged
    split <;> rfl
  simp only [synJudged]
  repeat' split
  all_goals simp only [shipped, joined, berthChanged]

/-- A sample whose checks have tripped the station leaves it so. -/
theorem takeSample_of_tripped {r : Sample} {isNew : Bool} {k : Nat} (tripped : (metered r isNew s).ssc.station = .tripped) :
    (takeSample r isNew k s).ssc = (metered r isNew s).ssc ∧ (takeSample r isNew k s).mod = (metered r isNew s).mod ∧
      (takeSample r isNew k s).syn.cmdClosed = (metered r isNew s).syn.cmdClosed := by
  have quiet : ¬ reports (synJudged s.btr.berthState (eventsOf r isNew k s) (trackedOf r isNew k s)) := by
    rintro ⟨-, at_, -⟩
    rw [synJudged_ssc, tripped] at at_
    cases at_
  rw [takeSample_eq, announce_ssc, announce_mod, announce_syn]
  refine ⟨?_, ?_, ?_⟩
  · rw [steered_sameBut_of_quiet quiet .ssc (by decide), trackedOf_sameBut r isNew k s .ssc (by decide)]
  · rw [steered_sameBut_of_quiet quiet .mod (by decide), trackedOf_sameBut r isNew k s .mod (by decide)]
  · rw [steered_eq, judgeBand_syn, partSeen_sameBut _ _ .syn (by decide), reportClosed_of_not quiet, synJudged_cmdClosed]
    exact congrArg Syn.cmdClosed (trackedOf_sameBut r isNew k s .syn (by decide))

/-- What a trip of the checks makes of the station stands after the sample. -/
theorem takeSample_tripped {c : Condition} {r : Sample} {k : Nat}
    (trips : (metered r true s).ssc.station = .tripped ∧ (metered r true s).mod.gate = .gatesOff ∧
      (metered r true s).syn.cmdClosed = false ∧ FirstNames c s.ssc.station (metered r true s).pru) :
    (takeSample r true k s).ssc.station = .tripped ∧ (takeSample r true k s).mod.gate = .gatesOff ∧
      (takeSample r true k s).syn.cmdClosed = false ∧ FirstNames c s.ssc.station (takeSample r true k s).pru := by
  obtain ⟨station, gate, contactor, names⟩ := trips
  obtain ⟨ssc, mod, cmdClosed⟩ := takeSample_of_tripped (k := k) station
  refine ⟨(congrArg Ssc.station ssc).trans station, (congrArg Mod.gate mod).trans gate, cmdClosed.trans contactor, ?_⟩
  have steeredPru : (steered s.btr.berthState (eventsOf r true k s) (trackedOf r true k s)).pru = (metered r true s).pru :=
    (steered_sameBut _ _ _ .pru (by decide)).trans (trackedOf_sameBut r true k s .pru (by decide))
  rw [takeSample_eq]
  rcases announce_pru_cases (metered r true s) (steered s.btr.berthState (eventsOf r true k s) (trackedOf r true k s))
    with same | more
  · rw [same, steeredPru]; exact names
  · rw [more]
    refine FirstNames.hold ?_ _ _ _
    rw [steeredPru]
    exact names

/-! ### The checks of a new sample (R12) -/

theorem canTrip_congr {t : State} (phase : t.phase = s.phase) (station : t.ssc.station = s.ssc.station) :
    canTrip t = canTrip s := by rw [canTrip, canTrip, phase, station]

theorem run_of_canTrip (can : canTrip s = true) : s.phase = .run := by
  simp only [canTrip, Bool.and_eq_true, beq_iff_eq] at can
  obtain ⟨⟨⟨run, -⟩, -⟩, -⟩ := can
  exact run

theorem overcurrent_trips {r : Sample} {k : Nat} (met : overcurrentMet r = true) (can : canTrip s = true)
    (fresh : .overcurrent ∉ s.pru.held) :
    (takeSample r true k s).ssc.station = .tripped ∧ (takeSample r true k s).mod.gate = .gatesOff ∧
      (takeSample r true k s).syn.cmdClosed = false ∧ FirstNames .overcurrent s.ssc.station (takeSample r true k s).pru := by
  let u : State := { s with msu := s.msu.take r true }
  obtain ⟨station, gate, contactor, names⟩ := raise_trips (s := u) (c := .overcurrent) fresh rfl can
  have stays : canTrip (raise .overcurrent u) = false := by simp [canTrip, station]
  have checks : checked r true u = if dcFaultMet r then hold .dcFault (raise .overcurrent u) else raise .overcurrent u := by
    simp only [checked, met, raiseIf, Bool.true_and, if_true]
    split
    · exact raise_quiet (.inr (.inr stays))
    · rfl
  refine takeSample_tripped ?_
  show (checked r true u).ssc.station = _ ∧ (checked r true u).mod.gate = _ ∧ (checked r true u).syn.cmdClosed = _ ∧
    FirstNames _ _ (checked r true u).pru
  rw [checks]
  split
  · exact ⟨station, gate, contactor, FirstNames.hold names _ _ _⟩
  · exact ⟨station, gate, contactor, names⟩

theorem dcFault_trips {r : Sample} {k : Nat} (met : dcFaultMet r = true) (alone : overcurrentMet r = false) (can : canTrip s = true)
    (fresh : .dcFault ∉ s.pru.held) :
    (takeSample r true k s).ssc.station = .tripped ∧ (takeSample r true k s).mod.gate = .gatesOff ∧
      (takeSample r true k s).syn.cmdClosed = false ∧ FirstNames .dcFault s.ssc.station (takeSample r true k s).pru := by
  let u : State := { s with msu := s.msu.take r true }
  have checks : checked r true u = raise .dcFault u := by simp [checked, raiseIf, met, alone]
  refine takeSample_tripped ?_
  show (checked r true u).ssc.station = _ ∧ (checked r true u).mod.gate = _ ∧ (checked r true u).syn.cmdClosed = _ ∧
    FirstNames _ _ (checked r true u).pru
  rw [checks]
  exact raise_trips (s := u) fresh rfl can

/-! ### TRIP_IN (R173) -/

theorem exec_tripInAsserted_again (up : s.phase ≠ .rstLow) (asserted : s.tripIn = true) : exec .tripInAsserted s = .next s := by
  have dispatched : exec .tripInAsserted s = execTripInAsserted s := rfl
  rw [dispatched, execTripInAsserted, taken_up up, if_pos asserted]

theorem exec_tripInAsserted_of_released (up : s.phase ≠ .rstLow) (released : s.tripIn = false) :
    exec .tripInAsserted s = .next (raise .tripInput { s with tripIn := true }) := by
  have dispatched : exec .tripInAsserted s = execTripInAsserted s := rfl
  rw [dispatched, execTripInAsserted, taken_up up, if_neg (by simp [released])]

theorem exec_tripInReleased (up : s.phase ≠ .rstLow) : exec .tripInReleased s = .next { s with tripIn := false } := by
  have dispatched : exec .tripInReleased s = execTripInReleased s := rfl
  rw [dispatched, execTripInReleased, taken_up up]

theorem tripIn_sameBut (s : State) : sameBut [.tripIn] s { s with tripIn := true } := by
  intro part other
  cases part with
  | tripIn => simp at other
  | _ => simp [Part.same]

/-! ### BUS_FREQUENCY (R17) -/

theorem exec_busFrequencyTimer_of_running {start : Nat} (run : s.phase = .run) (oob : s.btr.oob = some start) :
    exec .busFrequencyTimer s = .next (bandExpired (catchUp start 4000 s)) := by
  have dispatched : exec .busFrequencyTimer s = execBusFrequencyTimer s := rfl
  rw [dispatched, execBusFrequencyTimer, running_run run, onExpiry_some oob]

/-- The out-of-band timer stopped after its 500 ms. -/
def bandTimed (s : State) : State := { s with btr := { s.btr with oob := none, oobDone := true } }

theorem bandExpired_eq (s : State) : bandExpired s = raise .busFrequency (bandTimed s) := rfl

theorem bandTimed_sameBut (s : State) : sameBut [.btr] s (bandTimed s) := by
  intro part other
  cases part with
  | btr => simp at other
  | _ => simp [Part.same, bandTimed]

theorem bandExpired_oob (s : State) : (bandExpired s).btr.oob = none := by
  rw [bandExpired_eq]
  rcases raise_cases .busFrequency (bandTimed s) with same | ⟨-, -, -, same⟩ <;> rw [same]
  · rfl
  · obtain ⟨-, -, -, btr⟩ := tripWith_blocks
      { cause := .busFrequency, state := (bandTimed s).ssc.station, following := [] } (hold .busFrequency (bandTimed s))
    rw [btr]

end

/-- Settles O14: the checks of a new sample, TRIP_IN, and the out-of-band timer's end. -/
theorem tripCausesTrip : Obligations.TripCausesTrip := by
  refine ⟨fun s r can fresh open_ length marker crc sequence current => ?_,
    fun s r run open_ length marker crc sequence => ?_, fun s up => ⟨exec_tripInReleased up, exec_tripInAsserted_again up,
      fun released quiet => ?_, fun released fresh can => ?_⟩, fun s start run oob => ?_⟩
  · have run : s.phase = .run := run_of_canTrip can
    let u : State := { s with spt := s.spt.settle (some r) }
    obtain ⟨station, gate, contactor, following⟩ := overcurrent_trips (s := u) (r := sampleOf r) (k := s.spt.index.getD 0)
      (decide_eq_true current) can fresh
    refine ⟨_, exec_recordComplete_of_record 0 run open_ length marker, ?_⟩
    rw [settlePeriod_good (outcome_good crc sequence)]
    refine ⟨station, gate, contactor, ?_, following⟩
    rw [takeSample_held_iff _ _ (by decide)]
    exact .inr (.inl ⟨decide_eq_true current, rfl⟩)
  · let u : State := { s with spt := s.spt.settle (some r) }
    refine ⟨_, exec_recordComplete_of_record 0 run open_ length marker, ?_⟩
    rw [settlePeriod_good (outcome_good crc sequence), takeSample_msu, takeSample_held_iff _ _ (by decide),
      takeSample_held_iff _ _ (by decide)]
    refine ⟨decide_eq_true_iff, decide_eq_true_iff, ?_, ?_, fun link calm can fresh => ?_⟩
    · simp [overcurrentMet]
    · simp [dcFaultMet]
    · exact dcFault_trips (s := u) (decide_eq_true link) (decide_eq_false calm) can fresh
  · have held := raise_quiet (s := { s with tripIn := true }) (c := .tripInput) (quiet.imp_right .inr)
    refine ⟨_, exec_tripInAsserted_of_released up released, mem_held_raise _ _, ?_, ?_⟩
    · rw [held]; rfl
    · rw [held]
      exact ((tripIn_sameBut s).widen (by decide)).then ((hold_sameBut _ _).widen (by decide))
  · let u : State := { s with tripIn := true }
    let r : FirstCause := { cause := .tripInput, state := s.ssc.station, following := [] }
    obtain ⟨station, gate, contactor, following⟩ := raise_trips (s := u) (c := .tripInput) fresh rfl can
    have trips : raise .tripInput u = tripWith r (hold .tripInput u) := raise_of_trip (s := u) fresh rfl can
    have kept := raise_sameBut .tripInput u
    obtain ⟨rfg, shc, hoc, -⟩ := tripWith_blocks r (hold .tripInput u)
    obtain ⟨fpt, -⟩ := tripWith_store r (hold .tripInput u)
    refine ⟨_, exec_tripInAsserted_of_released up released, mem_held_raise _ _, kept .tripIn (by decide), station, gate, contactor,
      fun ship => ?_, ?_, ?_, ?_, following, fun opened => ?_, fun m opened meter room => ?_, fun enabled room => ?_, fun room => ?_,
      ((tripIn_sameBut s).widen (by decide)).then (kept.widen (by decide))⟩
    · have leaves : (s.ssc.station.shipConnected && !StationState.tripped.shipConnected) = true := by rw [ship]; rfl
      show (raise .tripInput u).hoc = _ ∧ (raise .tripInput u).shc.fRest = _
      rw [trips, hoc, shc]
      exact ⟨if_pos leaves, if_pos leaves⟩
    · show (raise .tripInput u).fpt.readout = none
      rw [trips, fpt]
      exact readoutCut_readout _
    · show (raise .tripInput u).rfg.fRef = _
      rw [trips, rfg, gatesOff_fRef]
      rfl
    · show (raise .tripInput u).shc.fShare = _
      rw [trips, shc]
      rfl
    · show (raise .tripInput u).ssc.session = _
      rw [trips]
      exact tripWith_session (s := hold .tripInput u) r opened
    · show (raise .tripInput u).emt = _
      rw [trips, tripWith_emt (s := hold .tripInput u) r opened room]
      show s.emt.map _ = _
      rw [meter]
      rfl
    · show _ ∈ (raise .tripInput u).lkc.queue.map (·.frame)
      rw [trips]
      exact tripWith_notice (s := hold .tripInput u) r enabled room
    · obtain ⟨q, queue, is⟩ := tripWith_queue_of_room (s := hold .tripInput u) r room
      show ((raise .tripInput u).rwr.queue.drop _).map _ = _
      rw [trips, queue]
      show ((s.rwr.queue ++ [q]).drop s.rwr.queue.length).map _ = _
      rw [List.drop_left, List.map_singleton, is]
      rfl
  · let u : State := bandTimed (catchUp start 4000 s)
    refine ⟨_, exec_busFrequencyTimer_of_running run oob, ?_, mem_held_raise .busFrequency u, bandExpired_oob _, fun alarm => ?_,
      fun cls can fresh => ?_⟩
    · rw [bandExpired_eq, raise_now]
      rfl
    · have held : raise .busFrequency u = hold .busFrequency u := raise_quiet (.inr (.inl alarm))
      rw [bandExpired_eq, held]
      exact ⟨rfl, (((catchUp_near start 4000 s).widen (by decide)).then ((bandTimed_sameBut _).widen (by decide))).then
        ((hold_sameBut _ _).widen (by decide))⟩
    · obtain ⟨station, gate, contactor, -⟩ := raise_trips (s := u) (c := .busFrequency) fresh cls can
      exact ⟨station, gate, contactor⟩

end Sys2Proof.Machine
end

/-! PROOFS. The period work, and a period settled late (R2, R4, R5, R13, R19 to R32, R36). -/
section
namespace Sys2Proof.Machine

section
variable {s : State}

/-! ### The rules of the period work (R20 to R32) -/

theorem droopTerm_eq (d p : Int) : droopTerm d p = -d * clamp (-200) 1200 p := by
  have scaled : -(d * 1000) * clamp (-200) 1200 p = -d * clamp (-200) 1200 p * 1000 := by ring
  rw [droopTerm, scaled, Int.mul_tdiv_cancel _ (by decide)]

theorem clamp_moves {lo hi x : Int} : (x != clamp lo hi x) = decide (x < lo ∨ hi < x) := by
  rw [Bool.eq_iff_iff, bne_iff_ne, decide_eq_true_iff]
  unfold clamp
  split_ifs <;> omega

theorem rateStep_eq {rate prev target : Int} (forward : 0 ≤ rate) :
    rateStep rate prev target =
      if target - prev > rate then prev + rate else if prev - target > rate then prev - rate else target := by
  unfold rateStep
  split_ifs <;> omega

theorem rateLimits_eq (rate prev target : Int) :
    rateLimits rate prev target = decide (target - prev > rate ∨ prev - target > rate) := by
  rw [rateLimits, ← decide_not, decide_eq_decide]
  omega

/-- The amplitude that the index of a period is made of. -/
def usedOf (start : Bool) (s : State) : Int :=
  amplitudeUsed (if start then .softStart else s.mod.gate) (if start then 0 else s.rfg.k) (amplitudeRef s)

theorem rfgWork_m (start : Bool) (s : State) :
    (rfgWork start s).m = clamp 0 1000 (indexQuotient (usedOf start s) s.msu.vdc) ∧
      (rfgWork start s).overmod = decide (1000 < indexQuotient (usedOf start s) s.msu.vdc) := ⟨rfl, rfl⟩

theorem indexQuotient_of_link {v : Int} (used : Int) (link : s.msu.vdc = some v) (positive : 0 < v) :
    indexQuotient used s.msu.vdc = roundAway (used * 24000) v := by
  simp only [indexQuotient, link, positive, if_true]

theorem indexQuotient_of_none (used : Int) (dead : ∀ v, s.msu.vdc = some v → v ≤ 0) : indexQuotient used s.msu.vdc = 0 := by
  unfold indexQuotient
  cases link : s.msu.vdc with
  | none => rfl
  | some v => exact if_neg (by have := dead v link; omega)

section
variable {start : Bool} (begins : start = true ↔ s.mod.gate = .gatesOff)
include begins

theorem modWork_on : (modWork start s).gate ≠ .gatesOff := by
  cases start with
  | true => simp [modWork]
  | false =>
    have on : s.mod.gate ≠ .gatesOff := fun off => Bool.false_ne_true (begins.mpr off)
    simp only [modWork, Bool.false_eq_true, if_false]
    split
    · decide
    · exact on

theorem rfgWork_theta : (rfgWork start s).theta =
    (if s.mod.gate = .gatesOff then 0 else s.rfg.theta) +
      BitVec.ofInt 32 (((rfgWork start s).fRef * 2 ^ 32 + 4000000000) / 8000000000) := by
  by_cases off : s.mod.gate = .gatesOff
  · obtain rfl : start = true := begins.mpr off
    rw [if_pos off]
    rfl
  · obtain rfl : start = false := Bool.eq_false_iff.mpr (off ∘ begins.mp)
    rw [if_neg off]
    rfl

theorem usedOf_eq : usedOf start s =
    (let k := if s.mod.gate = .gatesOff then 0 else s.rfg.k
     if s.mod.gate ≠ .running ∧ k < 4000 then ((rfgWork start s).vRef * k).tdiv 4000 else (rfgWork start s).vRef) := by
  have vRef : (rfgWork start s).vRef = amplitudeRef s := rfl
  rw [vRef]
  by_cases off : s.mod.gate = .gatesOff
  · obtain rfl : start = true := begins.mpr off
    simp [usedOf, amplitudeUsed, off]
  · obtain rfl : start = false := Bool.eq_false_iff.mpr (off ∘ begins.mp)
    cases gate : s.mod.gate with
    | gatesOff => exact absurd gate off
    | softStart => simp [usedOf, amplitudeUsed, gate]
    | running => simp [usedOf, amplitudeUsed, gate]

end

/-- The work of a period: the gate start's, or with the gates not off. -/
theorem periodWork_of_works (works : s.mod.gate ≠ .gatesOff ∨ s.ssc.station = .prepared ∧ tripHeld s = false)
    (run : s.phase = .run) : ∃ start : Bool, (start = true ↔ s.mod.gate = .gatesOff) ∧ (periodWork s).rfg = rfgWork start s ∧
      (periodWork s).mod = modWork start s := by
  by_cases off : s.mod.gate = .gatesOff
  · obtain ⟨prepared, untripped⟩ := works.resolve_left (· off)
    exact ⟨true, iff_of_true rfl off, periodWork_of_start ((gateStart_iff s).mpr ⟨run, prepared, off, untripped⟩)⟩
  · exact ⟨false, iff_of_false (by decide) off, periodWork_of_on off⟩

/-! ### A late settlement (R2, R19) -/

theorem unsettled_parts (late : unsettled s = true) : s.spt.strobes = true ∧ ∃ k, s.spt.index = some k := by
  simp only [unsettled, Bool.and_eq_true] at late
  obtain ⟨⟨strobes, -⟩, index⟩ := late
  exact ⟨strobes, Option.isSome_iff_exists.mp index⟩

/-- SPT after a period that was missing and the strobe of the next. -/
theorem strobe_settled_spt {t : State} (late : unsettled s = true) (spt : t.spt = { s.spt with
      settled := true, runCount := min 255 (s.spt.runCount + 1), expected := s.spt.nextExpected none }) :
    (strobe t).spt = { s.spt with settled := false, runCount := min 255 (s.spt.runCount + 1)
                                  expected := s.spt.expected.map (· + 1), index := s.spt.index.map (· + 1) } := by
  obtain ⟨strobes, k, index⟩ := unsettled_parts late
  simp only [strobe, spt, strobes, if_true, index]
  rfl

theorem takeSample_keeps_work (r : Sample) (k : Nat) (s : State) :
    (takeSample r false k s).rfg = s.rfg ∧ (takeSample r false k s).mod = s.mod := by
  have before := metered_sameBut_of_pass (r := r) (isNew := false) (.inl rfl) s
  rw [takeSample_eq, announce_rfg, announce_mod]
  refine ⟨?_, ?_⟩
  · rw [steered_sameBut _ _ _ .rfg (by decide), trackedOf_sameBut r false k s .rfg (by decide)]
    exact before .rfg (by decide)
  · rw [steered_sameBut _ _ _ .mod (by decide), trackedOf_sameBut r false k s .mod (by decide)]
    exact before .mod (by decide)

/-- A missing period leaves RFG and MOD as its report of MEASUREMENT_LOST leaves them. -/
theorem settleMissing_work (s : State) :
    (settlePeriod none s).rfg = (missed none s).rfg ∧ (settlePeriod none s).mod = (missed none s).mod := by
  cases last : s.spt.lastGood with
  | none => rw [settlePeriod_first rfl last]; exact ⟨rfl, rfl⟩
  | some r => rw [settlePeriod_repeats rfl last]; exact takeSample_keeps_work r _ _

theorem settleMissing_work_of_quiet
    (quiet : s.spt.runCount ≠ 2 ∨ .measurementLost ∈ s.pru.held ∨ canTrip s = false) :
    (settlePeriod none s).rfg = s.rfg ∧ (settlePeriod none s).mod = s.mod := by
  obtain ⟨rfg, mod⟩ := settleMissing_work s
  rw [rfg, mod]
  by_cases third : s.spt.runCount = 2
  · have reported := quiet.resolve_left (· third)
    rw [missed_third rfl third, raise_quiet (s := { s with spt := s.spt.settle none }) (reported.imp_right .inr)]
    exact ⟨rfl, rfl⟩
  · rw [missed_elsewhere rfl third]
    exact ⟨rfl, rfl⟩

theorem settleMissing_work_of_trip (third : s.spt.runCount = 2) (fresh : .measurementLost ∉ s.pru.held) (can : canTrip s = true) :
    (settlePeriod none s).mod.gate = .gatesOff ∧ (settlePeriod none s).rfg.fRef = s.rfg.fRef ∧
      (settlePeriod none s).rfg.theta = s.rfg.theta := by
  let u : State := { s with spt := s.spt.settle none }
  obtain ⟨rfg, mod⟩ := settleMissing_work s
  obtain ⟨-, gate, -, -⟩ := raise_trips (s := u) (c := .measurementLost) fresh rfl can
  have trips := raise_of_trip (s := u) (c := .measurementLost) fresh rfl can
  obtain ⟨off, -⟩ := tripWith_blocks { cause := .measurementLost, state := u.ssc.station, following := [] } (hold .measurementLost u)
  rw [rfg, mod, missed_third rfl third]
  refine ⟨gate, ?_, ?_⟩
  · show (raise .measurementLost u).rfg.fRef = _
    rw [trips, off]
    simp only [gatesOff]
    split <;> rfl
  · show (raise .measurementLost u).rfg.theta = _
    rw [trips, off]
    simp only [gatesOff]
    split <;> rfl

theorem carrierWork_held_iff {x : Condition} (other : x ≠ .linkOverrun) : x ∈ (carrierWork s).pru.held ↔ x ∈ s.pru.held := by
  by_cases done : completes s
  · rw [carrierWork_of_complete done]
    have pru : (enterJoining (periodWork s)).pru = s.pru := enterJoining_sameBut (periodWork s) .pru (by decide)
    rw [announcing, announce_held_iff other, pru]
  · rw [carrierWork_of_going done]
    exact Iff.rfl

theorem carrierWork_canTrip (s : State) : canTrip (carrierWork s) = canTrip s := by
  by_cases done : completes s
  · have station : (carrierWork s).ssc.station = .joining := by
      rw [carrierWork_of_complete done, announcing, announce_ssc]
      rfl
    obtain ⟨-, prepared, run⟩ := done
    rw [canTrip, canTrip, station, prepared, carrierWork_sameBut s .phase (by decide), run]
    rfl
  · rw [carrierWork_of_going done]
    exact canTrip_congr rfl rfl

theorem carrierWork_of_running (running : s.mod.gate = .running) : sameBut [.rfg, .mod] s (carrierWork s) := by
  have going : ¬ completes s := fun done => by
    have soft := done.1
    simp [softStartDone, running] at soft
  rw [carrierWork_of_going going]
  exact periodWork_sameBut s

/-! ### The start of a period whose predecessor is settled late -/

theorem later_sameBut (s : State) : sameBut [.clock] s { s with now := s.now + 1 } := by
  intro part other
  cases part with
  | clock => simp at other
  | _ => simp [Part.same]

theorem carrierStart_late {workFirst : Bool} (late : unsettled s = true) :
    carrierStart workFirst s =
      if workFirst then strobe (settlePeriod none (carrierWork s)) else strobe (carrierWork (settlePeriod none s)) := by
  have still : unsettled (carrierWork s) = true := (unsettled_congr (carrierWork_sameBut s .spt (by decide))).trans late
  rw [carrierStart, settleLate_of_unsettled late, settleLate_of_unsettled still]

/-- What a missing period leaves alone. -/
theorem settleMissing_moves (s : State) :
    sameBut [.spt, .msu, .btr, .rfg, .mod, .lkc, .pvw, .shc, .ssc, .syn, .hoc, .emt, .rwr, .fpt, .mem, .pru] s
      (settlePeriod none s) := by
  have before := missed_sameBut none s
  cases last : s.spt.lastGood with
  | none => rw [settlePeriod_first rfl last]; exact before.widen (by decide)
  | some r =>
    rw [settlePeriod_repeats rfl last]
    exact (before.widen (by decide)).then ((takeSample_sameBut _ _ _ _).widen (by decide))

/-- What a late settlement makes of the measurement path, whichever work is first. -/
theorem carrierStart_late_measures (workFirst : Bool) (late : unsettled s = true) :
    (carrierStart workFirst s).now = s.now ∧
      (carrierStart workFirst s).spt = { s.spt with
        settled := false, runCount := min 255 (s.spt.runCount + 1)
        expected := s.spt.expected.map (· + 1), index := s.spt.index.map (· + 1) } ∧
      (s.spt.runCount = 2 → .measurementLost ∈ (carrierStart workFirst s).pru.held) ∧
      (carrierStart workFirst s).msu.ocLive = s.msu.ocLive ∧ (carrierStart workFirst s).msu.dcLive = s.msu.dcLive ∧
      (∀ last, s.spt.lastGood = some last → (carrierStart workFirst s).msu.vdc = some last.vdc.toInt) ∧
      (s.spt.lastGood = none → s.spt.runCount ≠ 2 → s.mod.gate = .running →
        sameBut [.spt, .rfg, .mod] s (carrierStart workFirst s)) := by
  rw [carrierStart_late late]
  cases workFirst with
  | true =>
    let w : State := carrierWork s
    have work := carrierWork_sameBut s
    have spt : w.spt = s.spt := work .spt (by decide)
    have msu : w.msu = s.msu := work .msu (by decide)
    have missing : w.spt.outcome none = none := rfl
    obtain ⟨current, link, vdc⟩ := settleMissing_msu missing
    rw [msu] at current link
    rw [spt] at vdc
    refine ⟨(settleMissing_moves w .clock (by decide)).trans (work .clock (by decide)), strobe_settled_spt late ?_, fun third => settleMissing_lost missing (by rw [spt]; exact third),
      current, link, vdc, fun first away running => ?_⟩
    · rw [← spt]; exact settleMissing_spt missing
    · exact (((carrierWork_of_running running).widen (by decide)).then
        ((settleMissing_alone missing (by rw [spt]; exact first) (by rw [spt]; exact away)).widen (by decide))).then
          ((strobe_sameBut _).widen (by decide))
  | false =>
    let p : State := settlePeriod none s
    have work := carrierWork_sameBut p
    have missing : s.spt.outcome none = none := rfl
    have msu : (strobe (carrierWork p)).msu = p.msu := work .msu (by decide)
    obtain ⟨current, link, vdc⟩ := settleMissing_msu missing
    refine ⟨(work .clock (by decide)).trans (settleMissing_moves s .clock (by decide)), strobe_settled_spt late ?_, fun third => ?_, ?_, ?_, fun last is => ?_,
      fun first away running => ?_⟩
    · exact (work .spt (by decide)).trans (settleMissing_spt missing)
    · exact (carrierWork_held_iff (by decide)).mpr (settleMissing_lost missing third)
    · exact (congrArg Msu.ocLive msu).trans current
    · exact (congrArg Msu.dcLive msu).trans link
    · exact (congrArg Msu.vdc msu).trans (vdc last is)
    · have alone := settleMissing_alone missing first away
      have on : p.mod.gate = .running := (congrArg Mod.gate (alone .mod (by decide))).trans running
      exact ((alone.widen (by decide)).then ((carrierWork_of_running on).widen (by decide))).then
        ((strobe_sameBut _).widen (by decide))

/-- The work of a period start is the same whatever SPT holds. -/
theorem carrierWork_spt_apart (p : Spt) (s : State) :
    (carrierWork { s with spt := p }).rfg = (carrierWork s).rfg ∧ (carrierWork { s with spt := p }).mod = (carrierWork s).mod := by
  rw [carrierWork_moves s .rfg (by decide), carrierWork_moves s .mod (by decide),
    carrierWork_moves { s with spt := p } .rfg (by decide), carrierWork_moves { s with spt := p } .mod (by decide)]
  exact ⟨rfl, rfl⟩

end

/-- Settles O17: the late settlement in both orders, and the rules of the period work. -/
theorem periodWorkFollowsItsRules : Obligations.PeriodWorkFollowsItsRules := by
  refine ⟨fun s workFirst run late => ?_, fun s workFirst run settled works => ?_⟩
  · let u : State := { s with now := s.now + 1 }
    obtain ⟨now, spt, lost, current, link, vdc, alone⟩ := carrierStart_late_measures (s := u) workFirst late
    have starts : exec (.carrierPeriodStart workFirst) s = .next (carrierStart workFirst u) := exec_carrierPeriodStart run
    refine ⟨carrierStart workFirst u, starts, now, spt, lost, current, link, vdc, fun first away running =>
      ((later_sameBut s).widen (by decide)).then ((alone first away running).widen (by decide)), ?_, ?_⟩
    · rintro rfl
      let p : State := settlePeriod none u
      have settled : unsettled p = false := by
        rw [unsettled, settleMissing_spt (s := u) (record := none) rfl]
        simp
      have moves := settleMissing_moves u
      have back : { { p with now := s.now } with now := s.now + 1 } = p := by
        rw [← show p.now = s.now + 1 from moves .clock (by decide)]
      refine ⟨p, exec_startMarkerWrong_of_wrong (s := u) run late (by decide) (by decide), settled, ?_⟩
      rw [exec_carrierPeriodStart_of_settled (s := { p with now := s.now })
        ((moves .phase (by decide)).trans run) settled, carrierStart_late (s := u) late, if_neg (by decide)]
      exact congrArg (fun x => Host.Outcome.next (strobe (carrierWork x))) back
    · rintro rfl
      let x : State := { s with spt := { s.spt with settled := true } }
      let w : State := carrierWork u
      obtain ⟨rfg, mod⟩ := carrierWork_spt_apart { s.spt with settled := true } u
      have spt : w.spt = s.spt := carrierWork_sameBut u .spt (by decide)
      have held : .measurementLost ∈ w.pru.held ↔ .measurementLost ∈ s.pru.held := carrierWork_held_iff (s := u) (by decide)
      have can : canTrip w = canTrip s := carrierWork_canTrip u
      refine ⟨strobe (carrierWork { x with now := s.now + 1 }),
        exec_carrierPeriodStart_of_settled (s := x) run (by simp [unsettled, x]), ?_⟩
      rw [carrierStart_late (s := u) late, if_pos rfl]
      refine ⟨fun quiet => ?_, fun third fresh trips => ?_⟩
      · obtain ⟨keptRfg, keptMod⟩ := settleMissing_work_of_quiet (s := w) (by rw [spt, held, can]; exact quiet)
        exact ⟨keptRfg.trans rfg.symm, keptMod.trans mod.symm⟩
      · obtain ⟨gate, fRef, theta⟩ := settleMissing_work_of_trip (s := w) (by rw [spt]; exact third)
          (by rw [held]; exact fresh) (by rw [can]; exact trips)
        exact ⟨gate, fRef.trans (congrArg Rfg.fRef rfg).symm, theta.trans (congrArg Rfg.theta rfg).symm⟩
  · let u : State := { s with now := s.now + 1 }
    obtain ⟨start, begins, rfgIs, modIs⟩ := periodWork_of_works (s := u) works run
    obtain ⟨rfg, mod⟩ := started_work u
    refine ⟨strobe (carrierWork u), exec_carrierPeriodStart_of_settled run settled, ?_⟩
    rw [rfg, mod, rfgIs, modIs]
    refine ⟨modWork_on begins, droopTerm_eq _ _, ⟨clamp_moves, fun off => ?_, fun on forward => ?_⟩, rfgWork_theta begins, rfl,
      ⟨fun v link positive => ?_, fun dead => ?_⟩, rfl, rfl, rfl, fun running => ⟨?_, ?_⟩⟩
    · obtain rfl : start = true := begins.mpr off
      exact ⟨rfl, rfl⟩
    · obtain rfl : start = false := Bool.eq_false_iff.mpr (on ∘ begins.mp)
      exact ⟨rateStep_eq forward, rateLimits_eq _ _ _⟩
    · obtain ⟨m, overmod⟩ := rfgWork_m start u
      rw [m, overmod, indexQuotient_of_link (s := u) _ link positive, usedOf_eq begins]
      exact ⟨rfl, rfl⟩
    · obtain ⟨m, overmod⟩ := rfgWork_m start u
      rw [m, overmod, indexQuotient_of_none (s := u) _ dead]
      exact ⟨rfl, rfl⟩
    · obtain rfl : start = false := Bool.eq_false_iff.mpr fun yes => by
        have off := begins.mp yes
        rw [running] at off
        cases off
      simp [modWork, u, running]
    · exact ((later_sameBut s).widen (by decide)).then
        (((carrierWork_of_running (s := u) running).widen (by decide)).then ((strobe_sameBut _).widen (by decide)))

end Sys2Proof.Machine
end

/-! PROOFS. A sample sets the terms and judges the windows and dwells of JOINING and SHIP_SYNC (R110, R111, R117 to R122). -/
section
namespace Sys2Proof.Machine

section
variable {s : State}

/-! ### The sample that a command hands on (R4) -/

/-- A good record hands on its sample as a new one. -/
theorem exec_newSample {r : List Byte} {k : Nat} (run : s.phase = .run) (open_ : unsettled s = true) (index : s.spt.index = some k)
    (length : r.length = 25) (marker : r.head? = some 0xA6#8) (crc : crc8 (r.take 24) = r.getD 24 0)
    (sequence : s.spt.expected = none ∨ s.spt.expected = some (r.getD 1 0)) :
    exec (.recordComplete r) s = .next (takeSample (sampleOf r) true k { s with spt := s.spt.settle (some r) }) := by
  have runs := exec_recordComplete_of_record 0 run open_ length marker
  rw [settlePeriod_good (outcome_good crc sequence), index] at runs
  exact runs

/-- Away from the third missing period, a wrong first byte hands on the last good sample again. -/
theorem exec_repeatedSample {b : Byte} {x : Sample} {k : Nat} (run : s.phase = .run) (open_ : unsettled s = true)
    (index : s.spt.index = some k) (ready : b ≠ 0xFF#8) (wrong : b ≠ 0xA6#8) (last : s.spt.lastGood = some x)
    (away : s.spt.runCount ≠ 2) :
    exec (.startMarkerWrong b) s = .next (takeSample x false k { s with spt := s.spt.settle none }) := by
  rw [exec_startMarkerWrong_of_wrong run open_ ready wrong, settlePeriod_repeats rfl last, missed_elsewhere rfl away, index]
  rfl

theorem sptSettled_sameBut (p : Spt) (s : State) : sameBut [.spt] s { s with spt := p } := by
  intro part other
  cases part with
  | spt => simp at other
  | _ => simp [Part.same]

/-! ### The state in which SYN judges -/

/-- The state of a sample whose checks pass as SYN finds it: MSU and BTR after the closes, all else as before but EMT. -/
structure Found (r : Sample) (isNew : Bool) (k : Nat) (s : State) (a : State) : Prop where
  same : sameBut [.msu, .btr, .emt] s a
  msu : a.msu = (takeSample r isNew k s).msu
  trackers : SameTrackers a.btr (takeSample r isNew k s).btr

theorem trackedOf_found {r : Sample} {isNew : Bool} {k : Nat} (pass : ChecksPass r isNew) :
    Found r isNew k s (trackedOf r isNew k s) where
  same := ((metered_sameBut_of_pass pass s).widen (by decide)).then ((trackedOf_sameBut r isNew k s).widen (by decide))
  msu := by rw [takeSample_msu, trackedOf_msu]
  trackers := by
    rw [takeSample_eq, announce_btr]
    exact steered_trackers _ _ _

theorem takeSample_syn {r : Sample} {isNew : Bool} {k : Nat}
    (quiet : ¬ reports (synJudged s.btr.berthState (eventsOf r isNew k s) (trackedOf r isNew k s))) :
    (takeSample r isNew k s).syn = (synJudged s.btr.berthState (eventsOf r isNew k s) (trackedOf r isNew k s)).syn := by
  rw [takeSample_eq, announce_syn, steered_eq, judgeBand_syn, partSeen_sameBut _ _ .syn (by decide), reportClosed_of_not quiet]

/-- The closes of the three cycles at a sample (R9). -/
theorem eventsOf_closes (r : Sample) (isNew : Bool) (k : Nat) (s : State) :
    ((eventsOf r isNew k s).berthClose = true ↔ (s.btr.berth.crossing r.vbAb.toInt k).isSome = true ∨ 319 ≤ s.msu.sumB.n) ∧
      ((eventsOf r isNew k s).shipClose = true ↔ (s.btr.ship.crossing r.vsAb.toInt k).isSome = true ∨ 319 ≤ s.msu.sumS.n) ∧
      ((eventsOf r isNew k s).moduleClose = true ↔
        (s.btr.module.crossing r.vmAb.toInt k).isSome = true ∨ 319 ≤ s.msu.sumM.n) := by
  simp [eventsOf, sampleEvents, Msu.take, CycleSum.add]

/-- Without a close of the berth cycle the berth state holds. -/
theorem takenBtr_berthState {r : Sample} {isNew : Bool} {k : Nat} (quiet : (eventsOf r isNew k s).berthClose = false) :
    (takenBtr r isNew k s).berthState = s.btr.berthState := by
  rw [takenBtr, Btr.take]
  simp only [quiet, Bool.false_eq_true, if_false]

/-- The berth state as it was: SYN's claims stand, and a LIVE bus ends the energise timer (R104, R108). -/
theorem berthChanged_of_same {old : BusState} {a : State} (same : a.btr.berthState = old) :
    (berthChanged old a).syn = { a.syn with energise := if old = .live then none else a.syn.energise } := by
  simp [berthChanged, same]

/-- What a change of the berth state leaves of SYN. -/
theorem berthChanged_keeps (old : BusState) (a : State) :
    (berthChanged old a).syn.cmdClosed = a.syn.cmdClosed ∧ (berthChanged old a).syn.confirmed = a.syn.confirmed ∧
      (berthChanged old a).syn.joinDwell = a.syn.joinDwell ∧ (berthChanged old a).syn.shipDwell = a.syn.shipDwell ∧
      (berthChanged old a).syn.ready = a.syn.ready := ⟨rfl, rfl, rfl, rfl, rfl⟩

/-! ### SHIP_SYNC (R117 to R122) -/

theorem joinJudged_elsewhere (away : s.ssc.station ≠ .joining) : joinJudged s = s := by
  simp [joinJudged, away]

theorem synJudged_in_shipSync {old : BusState} {e : SampleEvents} (seeking : s.ssc.station = .shipSync) :
    synJudged old e s = if e.berthClose || e.shipClose then shipJudged (berthChanged old s) else berthChanged old s := by
  have away : (berthChanged old s).ssc.station ≠ .joining := by
    rw [show (berthChanged old s).ssc = s.ssc from rfl, seeking]
    decide
  simp only [synJudged, joinJudged_elsewhere away, ite_self]

theorem shipJudged_syn (seeking : s.ssc.station = .shipSync) :
    (shipJudged s).syn = { Syn.judgedShip s with permit := permitRule { s with syn := Syn.judgedShip s } } := by
  rw [shipJudged, if_pos seeking]
  rfl

theorem wrapPhase_bounds (x : Int) : -32768 ≤ wrapPhase x ∧ wrapPhase x ≤ 32767 ∧ (wrapPhase x - x) % 65536 = 0 := by
  unfold wrapPhase
  omega

theorem within_iff {window a b : Int} : within window a b = true ↔ a - b ≤ window ∧ b - a ≤ window := decide_eq_true_iff

theorem busMet_iff (a : State) : busMet a = true ↔ a.btr.shipState = .live ∧ a.btr.berthState = .live := by
  simp [busMet]

theorem slipMet_iff (a : State) : slipMet a = true ↔ ∃ d, a.btr.slip = some d ∧ d - a.params.slipTarget ≤ a.params.shipSlip ∧
    a.params.slipTarget - d ≤ a.params.shipSlip := by
  unfold slipMet
  cases a.btr.slip with
  | none => simp
  | some d => simp [within]

theorem phaseMet_iff (a : State) : phaseMet a = true ↔ ∃ d, predictedOf a = some d ∧ d ≤ a.params.shipPhase ∧ -d ≤ a.params.shipPhase := by
  unfold phaseMet
  cases predictedOf a with
  | none => simp
  | some d => simp [within]

theorem voltMet_iff (a : State) : voltMet a = true ↔
    a.msu.vB - a.msu.vS ≤ a.params.shipVolt ∧ a.msu.vS - a.msu.vB ≤ a.params.shipVolt := within_iff

theorem predictedOf_valid {a : State} {d e : Int} (slip : a.btr.slip = some d) (phase : a.btr.dphiShip = some e) :
    advanceOf a = some (roundAway (d * a.params.closeTime * 65536) 1000000) ∧
      predictedOf a = some (wrapPhase (e + roundAway (d * a.params.closeTime * 65536) 1000000)) := by
  simp [predictedOf, advanceOf, slip, phase]

theorem predictedOf_invalid {a : State} (invalid : a.btr.slip = none ∨ a.btr.dphiShip = none) :
    advanceOf a = none ∧ predictedOf a = none := by
  have advance : advanceOf a = none := by
    rcases invalid with slip | phase
    · simp only [advanceOf, slip]
    · unfold advanceOf
      cases a.btr.slip <;> simp only [phase]
  refine ⟨advance, ?_⟩
  unfold predictedOf
  cases a.btr.dphiShip <;> simp only [advance]

theorem fBase_session {a : State} {n : Session} (session : a.ssc.session = some n) :
    fBase a / 1000 = if n.is60 then 60000 else 50000 := by
  unfold fBase
  simp only [session]
  cases n.is60 <;> rfl

theorem vBase_session {a : State} {n : Session} (session : a.ssc.session = some n) : vBase a = n.voltage := by
  simp only [vBase, session]

/-! ### JOINING (R109 to R111) -/

theorem synJudged_in_joining {old : BusState} {e : SampleEvents} (joining : s.ssc.station = .joining) :
    synJudged old e s = if e.berthClose || e.moduleClose then joinJudged (berthChanged old s) else berthChanged old s := by
  have elsewhere (a : State) (station : a.ssc.station = .joining) : shipJudged a = a := if_neg (by rw [station]; decide)
  have joined : shipJudged (joinJudged (berthChanged old s)) = joinJudged (berthChanged old s) := elsewhere _ joining
  have claims : shipJudged (berthChanged old s) = berthChanged old s := elsewhere _ joining
  by_cases closes : (e.berthClose || e.moduleClose) = true
  · simp only [synJudged, if_pos closes, joined, ite_self]
  · simp only [synJudged, if_neg closes, claims, ite_self]

theorem joinJudged_live (joining : s.ssc.station = .joining) (live : s.btr.berthState = .live) :
    (joinJudged s).syn = { s.syn with
      fSync := joinFrequency s, vSync := joinVoltage s
      joinFreqOk := if s.syn.cmdClosed then s.syn.joinFreqOk else joinFreqMet s
      joinPhaseOk := if s.syn.cmdClosed then s.syn.joinPhaseOk else joinPhaseMet s
      joinVoltOk := if s.syn.cmdClosed then s.syn.joinVoltOk else joinVoltMet s
      joinDwell := if s.syn.cmdClosed then none
        else if joinMet s then (if s.syn.joinDwell.isSome then s.syn.joinDwell else some s.now) else none } := by
  simp [joinJudged, joining, live]

theorem joinJudged_dead (joining : s.ssc.station = .joining) (dead : s.btr.berthState ≠ .live) :
    (joinJudged s).syn = { s.syn with
      fSync := 0, vSync := 0, joinFreqOk := false, joinPhaseOk := false, joinVoltOk := false, joinDwell := none } := by
  simp [joinJudged, joining, dead]

theorem joinFreqMet_iff (a : State) : joinFreqMet a = true ↔ ∃ f g, a.btr.module.freq = some f ∧ a.btr.berth.freq = some g ∧
    f - g ≤ a.params.joinFreq ∧ g - f ≤ a.params.joinFreq := by
  unfold joinFreqMet
  cases a.btr.module.freq with
  | none => simp
  | some f =>
    cases a.btr.berth.freq with
    | none => simp
    | some g => simp [within]

theorem joinPhaseMet_iff (a : State) : joinPhaseMet a = true ↔ ∃ d, a.btr.dphiJoin = some d ∧ d ≤ a.params.joinPhase ∧
    -d ≤ a.params.joinPhase := by
  unfold joinPhaseMet
  cases a.btr.dphiJoin with
  | none => simp
  | some d => simp [within]

theorem joinVoltMet_iff (a : State) : joinVoltMet a = true ↔
    a.msu.vM - a.msu.vB ≤ a.params.joinVolt ∧ a.msu.vB - a.msu.vM ≤ a.params.joinVolt := within_iff

theorem enterOnline_terms (joining : s.ssc.station = .joining) : (enterOnline s).syn.vSync = 0 := by
  cases breaker : s.sbAux with
  | false =>
    have moves : enterOnline s = settled (moveTo .online s) := if_neg (by simp [breaker])
    rw [moves]
    simp [moveTo, joining, Syn.moved, Syn.leaveJoining, settled, setPermit, judgeBand]
  | true =>
    have moves : enterOnline s = enterHandoverIn (settled (moveTo .online s)) := if_pos ⟨joining, breaker⟩
    rw [moves]
    simp [enterHandoverIn, moveTo, joining, Syn.moved, Syn.leaveJoining, settled, setPermit, judgeBand]

/-! ### What SYN judges is what the sample publishes (log 7) -/

/-- A state in which SYN judges, and the state after the sample: the same trackers, measured values, parameters and session. -/
structure Sees (a t : State) : Prop where
  trackers : SameTrackers a.btr t.btr
  msu : t.msu = a.msu
  params : t.params = a.params
  ssc : t.ssc = a.ssc

section
variable {a t : State} (sees : Sees a t)
include sees

theorem Sees.states : a.btr.berthState = t.btr.berthState ∧ a.btr.shipState = t.btr.shipState := by
  obtain ⟨oob, done, same⟩ := sees.trackers
  rw [same]
  exact ⟨rfl, rfl⟩

theorem Sees.phases : a.btr.slip = t.btr.slip ∧ a.btr.dphiShip = t.btr.dphiShip ∧ a.btr.dphiJoin = t.btr.dphiJoin := by
  obtain ⟨oob, done, same⟩ := sees.trackers
  rw [same]
  exact ⟨rfl, rfl, rfl⟩

theorem Sees.frequencies : a.btr.module.freq = t.btr.module.freq ∧ a.btr.berth.freq = t.btr.berth.freq ∧
    a.btr.ship.freq = t.btr.ship.freq := by
  obtain ⟨oob, done, same⟩ := sees.trackers
  rw [same]
  exact ⟨rfl, rfl, rfl⟩

theorem Sees.fBase_eq : fBase a = fBase t := by rw [fBase, fBase, sees.ssc]

theorem Sees.vBase_eq : vBase a = vBase t := by rw [vBase, vBase, sees.ssc]

theorem Sees.predicted_eq : advanceOf a = advanceOf t ∧ predictedOf a = predictedOf t := by
  obtain ⟨slip, ship, -⟩ := sees.phases
  have advance : advanceOf a = advanceOf t := by rw [advanceOf, advanceOf, slip, ship, sees.params]
  exact ⟨advance, by rw [predictedOf, predictedOf, advance, ship]⟩

theorem Sees.shipWindows : busMet a = busMet t ∧ slipMet a = slipMet t ∧ phaseMet a = phaseMet t ∧ voltMet a = voltMet t := by
  obtain ⟨berth, ship⟩ := sees.states
  obtain ⟨slip, -, -⟩ := sees.phases
  refine ⟨?_, ?_, ?_, ?_⟩
  · rw [busMet, busMet, berth, ship]
  · rw [slipMet, slipMet, slip, sees.params]
  · rw [phaseMet, phaseMet, sees.predicted_eq.2, sees.params]
  · rw [voltMet, voltMet, sees.msu, sees.params]

theorem Sees.shipTerms : shipFrequency a = shipFrequency t ∧ shipVoltage a = shipVoltage t := by
  obtain ⟨-, -, ship⟩ := sees.frequencies
  constructor
  · rw [shipFrequency, shipFrequency, ship, sees.params, sees.fBase_eq]
  · rw [shipVoltage, shipVoltage, sees.msu, sees.vBase_eq]

theorem Sees.joinWindows : joinFreqMet a = joinFreqMet t ∧ joinPhaseMet a = joinPhaseMet t ∧ joinVoltMet a = joinVoltMet t := by
  obtain ⟨module, berth, -⟩ := sees.frequencies
  obtain ⟨-, -, join⟩ := sees.phases
  refine ⟨?_, ?_, ?_⟩
  · rw [joinFreqMet, joinFreqMet, module, berth, sees.params]
  · rw [joinPhaseMet, joinPhaseMet, join, sees.params]
  · rw [joinVoltMet, joinVoltMet, sees.msu, sees.params]

theorem Sees.joinTerms : joinFrequency a = joinFrequency t ∧ joinVoltage a = joinVoltage t := by
  obtain ⟨-, berth, -⟩ := sees.frequencies
  obtain ⟨-, -, join⟩ := sees.phases
  constructor
  · rw [joinFrequency, joinFrequency, berth, join, sees.params, sees.fBase_eq]
  · rw [joinVoltage, joinVoltage, sees.msu, sees.vBase_eq]

end

theorem shipTerms_of {a : State} {n : Session} {f : Int} (session : a.ssc.session = some n) (freq : a.btr.ship.freq = some f) :
    shipFrequency a = clamp (-3000000) 3000000 ((f + a.params.slipTarget - (if n.is60 then 60000 else 50000)) * 1000) ∧
      shipVoltage a = clamp (-100) 100 (a.msu.vS - n.voltage) := by
  constructor
  · rw [shipFrequency, freq, fBase_session session, Option.getD_some]
  · rw [shipVoltage, vBase_session session]

theorem joinTerms_of {a : State} {n : Session} {f : Int} (session : a.ssc.session = some n) (freq : a.btr.berth.freq = some f) :
    joinFrequency a = clamp (-3000000) 3000000
        ((f - (if n.is60 then 60000 else 50000)) * 1000 + a.params.kphi * -(a.btr.dphiJoin.getD 0)) ∧
      joinVoltage a = clamp (-100) 100 (a.msu.vB - n.voltage) := by
  constructor
  · rw [joinFrequency, freq, fBase_session session, Option.getD_some]
  · rw [joinVoltage, vBase_session session]

section
variable {r : Sample} {isNew : Bool} {k : Nat} (pass : ChecksPass r isNew)

/-- The state in which SYN judges a sample: the events published, the claims renewed. -/
def seenOf (r : Sample) (isNew : Bool) (k : Nat) (s : State) : State := berthChanged s.btr.berthState (trackedOf r isNew k s)

include pass

theorem seenOf_sameBut : sameBut [.msu, .btr, .emt, .lkc, .syn] s (seenOf r isNew k s) :=
  ((trackedOf_found pass).same.widen (by decide)).then ((berthChanged_sameBut _ _).widen (by decide))

theorem seenOf_keeps : (seenOf r isNew k s).syn.cmdClosed = s.syn.cmdClosed ∧
    (seenOf r isNew k s).syn.confirmed = s.syn.confirmed ∧ (seenOf r isNew k s).syn.joinDwell = s.syn.joinDwell ∧
    (seenOf r isNew k s).syn.shipDwell = s.syn.shipDwell ∧ (seenOf r isNew k s).syn.ready = s.syn.ready := by
  have syn : (trackedOf r isNew k s).syn = s.syn := (trackedOf_found pass).same .syn (by decide)
  rw [← syn]
  exact berthChanged_keeps s.btr.berthState (trackedOf r isNew k s)

/-- Where the berth cycle does not close, SYN stands but for the energise timer. -/
theorem seenOf_syn (open_ : (eventsOf r isNew k s).berthClose = false) :
    (seenOf r isNew k s).syn = { s.syn with energise := if s.btr.berthState = .live then none else s.syn.energise } := by
  have same : (trackedOf r isNew k s).btr.berthState = s.btr.berthState := by
    rw [(trackedOf_trackers r isNew k s).berthState, takenBtr_berthState open_]
  rw [seenOf, berthChanged_of_same same, (trackedOf_found pass).same .syn (by decide)]

theorem seenOf_sees (quiet : ¬ reports (synJudged s.btr.berthState (eventsOf r isNew k s) (trackedOf r isNew k s))) :
    Sees (seenOf r isNew k s) (takeSample r isNew k s) := by
  have found := trackedOf_found (k := k) (s := s) pass
  have after := takeSample_sameBut_of_pass pass quiet
  have seen := seenOf_sameBut (s := s) (k := k) pass
  refine ⟨found.trackers, found.msu.symm, ?_, ?_⟩
  · rw [after .params (by decide), seen .params (by decide)]
  · rw [after .ssc (by decide), seen .ssc (by decide)]

end

/-! ### A sample in SHIP_SYNC -/

section
variable {r : Sample} {isNew : Bool} {k : Nat} (pass : ChecksPass r isNew) (seeking : s.ssc.station = .shipSync)
include pass seeking

theorem takeSample_quiet_of_shipSync :
    ¬ reports (synJudged s.btr.berthState (eventsOf r isNew k s) (trackedOf r isNew k s)) :=
  not_reports_of_away pass (by rw [seeking]; decide)

theorem takeSample_sameBut_of_shipSync : (takeSample r isNew k s).ssc = s.ssc ∧
    sameBut [.msu, .btr, .lkc, .pvw, .syn, .emt, .pru] s (takeSample r isNew k s) := by
  have same := takeSample_sameBut_of_apart (k := k) pass (takeSample_quiet_of_shipSync pass seeking) (by rw [seeking]; decide)
  exact ⟨same .ssc (by decide), same⟩

/-- SYN after a sample that closes the berth's or the ship's cycle. -/
theorem takeSample_syn_of_shipClose (closes : ((eventsOf r isNew k s).berthClose || (eventsOf r isNew k s).shipClose) = true) :
    (takeSample r isNew k s).syn = { Syn.judgedShip (seenOf r isNew k s) with
      permit := permitRule { seenOf r isNew k s with syn := Syn.judgedShip (seenOf r isNew k s) } } := by
  have station : (trackedOf r isNew k s).ssc.station = .shipSync := by
    rw [(trackedOf_found pass).same .ssc (by decide), seeking]
  rw [takeSample_syn (takeSample_quiet_of_shipSync pass seeking), synJudged_in_shipSync station, if_pos closes]
  exact shipJudged_syn station

theorem takeSample_syn_of_shipOpen (closes : ¬ ((eventsOf r isNew k s).berthClose || (eventsOf r isNew k s).shipClose) = true)
    (idle : s.syn.energise = none) : (takeSample r isNew k s).syn = s.syn := by
  have station : (trackedOf r isNew k s).ssc.station = .shipSync := by
    rw [(trackedOf_found pass).same .ssc (by decide), seeking]
  have open_ : (eventsOf r isNew k s).berthClose = false := by
    rw [Bool.or_eq_true, not_or, Bool.not_eq_true] at closes
    exact closes.1
  rw [takeSample_syn (takeSample_quiet_of_shipSync pass seeking), synJudged_in_shipSync station, if_neg closes]
  refine (seenOf_syn pass open_).trans ?_
  rw [idle, ite_self, ← idle]

end

/-- The closes that SYN judges at in SHIP_SYNC (R118). -/
theorem shipCloses_iff (r : Sample) (isNew : Bool) (k : Nat) (s : State) :
    ((eventsOf r isNew k s).berthClose || (eventsOf r isNew k s).shipClose) = true ↔
      ((s.btr.berth.crossing r.vbAb.toInt k).isSome = true ∨ 319 ≤ s.msu.sumB.n ∨
        (s.btr.ship.crossing r.vsAb.toInt k).isSome = true ∨ 319 ≤ s.msu.sumS.n) := by
  obtain ⟨berth, ship, -⟩ := eventsOf_closes r isNew k s
  rw [Bool.or_eq_true, berth, ship, or_assoc]

/-- The closes that SYN judges at in JOINING (R110). -/
theorem joinCloses_iff (r : Sample) (isNew : Bool) (k : Nat) (s : State) :
    ((eventsOf r isNew k s).berthClose || (eventsOf r isNew k s).moduleClose) = true ↔
      ((s.btr.berth.crossing r.vbAb.toInt k).isSome = true ∨ 319 ≤ s.msu.sumB.n ∨
        (s.btr.module.crossing r.vmAb.toInt k).isSome = true ∨ 319 ≤ s.msu.sumM.n) := by
  obtain ⟨berth, -, module⟩ := eventsOf_closes r isNew k s
  rw [Bool.or_eq_true, berth, module, or_assoc]

/-- The four ship windows of R120, met together, by what the sample publishes. -/
theorem shipMet_iff {a t : State} (sees : Sees a t) : shipMet a = true ↔
    busMet t = true ∧ slipMet t = true ∧ phaseMet t = true ∧ voltMet t = true := by
  obtain ⟨bus, slip, phase, volt⟩ := sees.shipWindows
  simp only [shipMet, bus, slip, phase, volt, Bool.and_eq_true, and_assoc]

theorem Syn.judgedShip_of_met {a : State} (met : shipMet a = true) :
    (Syn.judgedShip a).ready = a.syn.ready ∧ (Syn.judgedShip a).shipDwell = some (a.syn.shipDwell.getD a.now) := by
  constructor
  · simp [Syn.judgedShip, met]
  · cases dwell : a.syn.shipDwell <;> simp [Syn.judgedShip, met, dwell]

/-- A lost window clears ready, ends the dwell, and the permit follows (R121, R122). -/
theorem Syn.judgedShip_of_lost {a : State} (lost : shipMet a = false) :
    (Syn.judgedShip a).ready = false ∧ (Syn.judgedShip a).shipDwell = none ∧
      (a.syn.cmdClosed = true ∨ a.ccAux = true → permitRule { a with syn := Syn.judgedShip a } = false) := by
  refine ⟨by simp [Syn.judgedShip, lost], by simp [Syn.judgedShip, lost], fun closed => ?_⟩
  rcases closed with closed | closed <;> simp [permitRule, Syn.judgedShip, lost, closed]

/-! ### A sample in JOINING -/

section
variable {r : Sample} {isNew : Bool} {k : Nat} (pass : ChecksPass r isNew) (run : s.phase = .run)
  (joining : s.ssc.station = .joining)
include pass joining

theorem seenOf_joining : (trackedOf r isNew k s).ssc.station = .joining ∧ (seenOf r isNew k s).ssc.station = .joining := by
  constructor
  · rw [(trackedOf_found pass).same .ssc (by decide), joining]
  · rw [seenOf_sameBut pass .ssc (by decide), joining]

theorem synJudged_of_joining : synJudged s.btr.berthState (eventsOf r isNew k s) (trackedOf r isNew k s) =
    if (eventsOf r isNew k s).berthClose || (eventsOf r isNew k s).moduleClose then joinJudged (seenOf r isNew k s)
    else seenOf r isNew k s := synJudged_in_joining (seenOf_joining pass joining).1

theorem synJudged_keeps_close :
    (synJudged s.btr.berthState (eventsOf r isNew k s) (trackedOf r isNew k s)).syn.cmdClosed = s.syn.cmdClosed ∧
      (synJudged s.btr.berthState (eventsOf r isNew k s) (trackedOf r isNew k s)).syn.confirmed = s.syn.confirmed := by
  obtain ⟨cmd, confirmed, -⟩ := seenOf_keeps (s := s) (k := k) pass
  have station := (seenOf_joining (k := k) pass joining).2
  have judged : (joinJudged (seenOf r isNew k s)).syn.cmdClosed = s.syn.cmdClosed ∧
      (joinJudged (seenOf r isNew k s)).syn.confirmed = s.syn.confirmed := by
    by_cases live : (seenOf r isNew k s).btr.berthState = .live
    · rw [joinJudged_live station live]
      exact ⟨cmd, confirmed⟩
    · rw [joinJudged_dead station live]
      exact ⟨cmd, confirmed⟩
  rw [synJudged_of_joining pass joining]
  split
  · exact judged
  · exact ⟨cmd, confirmed⟩

include run

theorem reports_iff_confirmed : reports (synJudged s.btr.berthState (eventsOf r isNew k s) (trackedOf r isNew k s)) ↔
    s.syn.cmdClosed = true ∧ s.syn.confirmed = true ∧ (takeSample r isNew k s).btr.berthState = .live := by
  obtain ⟨cmd, confirmed⟩ := synJudged_keeps_close (s := s) (k := k) pass joining
  have ssc := (synJudged_sameBut s.btr.berthState (eventsOf r isNew k s) (trackedOf r isNew k s) .ssc (by decide)).trans
    ((trackedOf_found pass).same .ssc (by decide))
  have phase := (synJudged_sameBut s.btr.berthState (eventsOf r isNew k s) (trackedOf r isNew k s) .phase (by decide)).trans
    ((trackedOf_found pass).same .phase (by decide))
  have berth : (synJudged s.btr.berthState (eventsOf r isNew k s) (trackedOf r isNew k s)).btr.berthState =
      (takeSample r isNew k s).btr.berthState := by
    rw [synJudged_sameBut _ _ _ .btr (by decide), (trackedOf_trackers r isNew k s).berthState,
      (takeSample_trackers r isNew k s).berthState]
  rw [reports, cmd, confirmed, ssc, phase, berth]
  exact ⟨fun ⟨_, _, met⟩ => met, fun met => ⟨run, joining, met⟩⟩

/-- A station whose close is confirmed on a LIVE bus leaves JOINING with both terms 0 (R93, R109, R110). -/
theorem takeSample_of_confirmed (confirmed : s.syn.cmdClosed = true ∧ s.syn.confirmed = true ∧
      (takeSample r isNew k s).btr.berthState = .live) :
    (takeSample r isNew k s).ssc.station = (if s.sbAux then .handoverIn else .online) ∧ (takeSample r isNew k s).syn.fSync = 0 ∧
      (takeSample r isNew k s).syn.vSync = 0 := by
  have met := (reports_iff_confirmed pass run joining).mpr confirmed
  have station : (synJudged s.btr.berthState (eventsOf r isNew k s) (trackedOf r isNew k s)).ssc.station = .joining := met.2.1
  have breaker := (synJudged_sameBut s.btr.berthState (eventsOf r isNew k s) (trackedOf r isNew k s) .sbAux (by decide)).trans
    ((trackedOf_found pass).same .sbAux (by decide))
  obtain ⟨moved, frequency, -⟩ := enterOnline_of_joining station
  have voltage := enterOnline_terms station
  rw [takeSample_eq, announce_ssc, announce_syn, steered_eq, judgeBand_ssc, judgeBand_syn, reportClosed_of met,
    partSeen_sameBut _ _ .ssc (by decide), partSeen_sameBut _ _ .syn (by decide), moved, breaker]
  exact ⟨rfl, frequency, voltage⟩

theorem takeSample_sameBut_of_unconfirmed (unconfirmed : ¬ (s.syn.cmdClosed = true ∧ s.syn.confirmed = true ∧
      (takeSample r isNew k s).btr.berthState = .live)) :
    sameBut [.msu, .btr, .lkc, .pvw, .syn, .emt, .pru] s (takeSample r isNew k s) ∧
      Sees (seenOf r isNew k s) (takeSample r isNew k s) ∧
      (takeSample r isNew k s).syn =
        (if (eventsOf r isNew k s).berthClose || (eventsOf r isNew k s).moduleClose then joinJudged (seenOf r isNew k s)
          else seenOf r isNew k s).syn := by
  have quiet : ¬ reports (synJudged s.btr.berthState (eventsOf r isNew k s) (trackedOf r isNew k s)) :=
    fun met => unconfirmed ((reports_iff_confirmed pass run joining).mp met)
  refine ⟨takeSample_sameBut_of_apart pass quiet (by rw [joining]; decide), seenOf_sees pass quiet, ?_⟩
  rw [takeSample_syn quiet, synJudged_of_joining pass joining]

end

/-! ### SHIP_SYNC: what the sample publishes decides (R118 to R122) -/

/-- The four windows of R120 under the parameters of `s`, by the values published in `t`. -/
def ShipWindows (s t : State) : Prop :=
  (t.btr.shipState = .live ∧ t.btr.berthState = .live) ∧
    (∃ d, t.btr.slip = some d ∧ d - s.params.slipTarget ≤ s.params.shipSlip ∧ s.params.slipTarget - d ≤ s.params.shipSlip) ∧
    (∃ d, t.syn.predicted = some d ∧ d ≤ s.params.shipPhase ∧ -d ≤ s.params.shipPhase) ∧
    (t.msu.vB - t.msu.vS ≤ s.params.shipVolt ∧ t.msu.vS - t.msu.vB ≤ s.params.shipVolt)

section
variable {r : Sample} {isNew : Bool} {k : Nat} {t : State} (pass : ChecksPass r isNew) (seeking : s.ssc.station = .shipSync)
  (closes : ((eventsOf r isNew k s).berthClose || (eventsOf r isNew k s).shipClose) = true) (after : takeSample r isNew k s = t)
include pass seeking closes after

theorem shipClose_sees : Sees (seenOf r isNew k s) t ∧ t.params = s.params ∧
    t.syn = { Syn.judgedShip (seenOf r isNew k s) with
      permit := permitRule { seenOf r isNew k s with syn := Syn.judgedShip (seenOf r isNew k s) } } := by
  subst after
  exact ⟨seenOf_sees pass (takeSample_quiet_of_shipSync pass seeking),
    (takeSample_sameBut_of_shipSync pass seeking).2 .params (by decide), takeSample_syn_of_shipClose pass seeking closes⟩

theorem shipClose_predicted : t.syn.advance = advanceOf t ∧ t.syn.predicted = predictedOf t := by
  obtain ⟨sees, -, syn⟩ := shipClose_sees pass seeking closes after
  rw [← sees.predicted_eq.1, ← sees.predicted_eq.2, syn]
  exact ⟨rfl, rfl⟩

/-- Each window's flag, and the four together. -/
theorem shipClose_windows :
    ((t.syn.busOk = true ↔ t.btr.shipState = .live ∧ t.btr.berthState = .live) ∧
      (t.syn.slipOk = true ↔ ∃ d, t.btr.slip = some d ∧ d - s.params.slipTarget ≤ s.params.shipSlip ∧
        s.params.slipTarget - d ≤ s.params.shipSlip) ∧
      (t.syn.phaseOk = true ↔ ∃ d, t.syn.predicted = some d ∧ d ≤ s.params.shipPhase ∧ -d ≤ s.params.shipPhase) ∧
      (t.syn.voltOk = true ↔ t.msu.vB - t.msu.vS ≤ s.params.shipVolt ∧ t.msu.vS - t.msu.vB ≤ s.params.shipVolt)) ∧
    (shipMet (seenOf r isNew k s) = true ↔ ShipWindows s t) := by
  obtain ⟨sees, params, syn⟩ := shipClose_sees pass seeking closes after
  obtain ⟨-, predicted⟩ := shipClose_predicted pass seeking closes after
  obtain ⟨bus, slip, phase, volt⟩ := sees.shipWindows
  have busOk : t.syn.busOk = busMet t := by rw [← bus, syn]; rfl
  have slipOk : t.syn.slipOk = slipMet t := by rw [← slip, syn]; rfl
  have phaseOk : t.syn.phaseOk = phaseMet t := by rw [← phase, syn]; rfl
  have voltOk : t.syn.voltOk = voltMet t := by rw [← volt, syn]; rfl
  rw [shipMet_iff sees, ShipWindows, busOk, slipOk, phaseOk, voltOk, predicted, busMet_iff, slipMet_iff, phaseMet_iff, voltMet_iff,
    params]
  exact ⟨⟨.rfl, .rfl, .rfl, .rfl⟩, .rfl⟩

/-- The dwell, ready and the permit (R121, R122). -/
theorem shipClose_dwell :
    (ShipWindows s t → t.syn.ready = s.syn.ready ∧ t.syn.shipDwell = some (s.syn.shipDwell.getD s.now)) ∧
      (¬ ShipWindows s t → t.syn.ready = false ∧ t.syn.shipDwell = none ∧
        (s.syn.cmdClosed = true ∨ s.ccAux = true → t.syn.permit = false)) := by
  obtain ⟨-, -, syn⟩ := shipClose_sees pass seeking closes after
  obtain ⟨-, windows⟩ := shipClose_windows pass seeking closes after
  obtain ⟨cmd, -, -, dwell, ready⟩ := seenOf_keeps (s := s) (k := k) pass
  have now : (seenOf r isNew k s).now = s.now := seenOf_sameBut pass .clock (by decide)
  have aux : (seenOf r isNew k s).ccAux = s.ccAux := seenOf_sameBut pass .ccAux (by decide)
  rw [← windows, syn, Bool.not_eq_true]
  constructor
  · intro met
    obtain ⟨keeps, runs⟩ := Syn.judgedShip_of_met met
    exact ⟨keeps.trans ready, by rw [← dwell, ← now]; exact runs⟩
  · intro lost
    obtain ⟨clears, returns, withdrawn⟩ := Syn.judgedShip_of_lost lost
    exact ⟨clears, returns, fun closed => withdrawn (by rw [cmd, aux]; exact closed)⟩

/-- Advance and predicted phase (R119). -/
theorem shipClose_advance :
    (∀ d e, t.btr.slip = some d → t.btr.dphiShip = some e →
      t.syn.advance = some (roundAway (d * s.params.closeTime * 65536) 1000000) ∧
        ∃ y, t.syn.predicted = some y ∧ -32768 ≤ y ∧ y ≤ 32767 ∧
          (y - (e + roundAway (d * s.params.closeTime * 65536) 1000000)) % 65536 = 0) ∧
      (t.btr.slip = none ∨ t.btr.dphiShip = none → t.syn.advance = none ∧ t.syn.predicted = none) := by
  obtain ⟨-, params, -⟩ := shipClose_sees pass seeking closes after
  obtain ⟨advance, predicted⟩ := shipClose_predicted pass seeking closes after
  rw [advance, predicted, ← params]
  refine ⟨fun d e slip phase => ?_, predictedOf_invalid⟩
  obtain ⟨valid, wrapped⟩ := predictedOf_valid slip phase
  exact ⟨valid, _, wrapped, wrapPhase_bounds _⟩

/-- The terms of R118. -/
theorem shipClose_terms :
    (t.btr.shipState ≠ .live → t.syn.fSync = 0 ∧ t.syn.vSync = 0) ∧
      ∀ n f, t.btr.shipState = .live → s.ssc.session = some n → t.btr.ship.freq = some f →
        t.syn.fSync = clamp (-3000000) 3000000 ((f + s.params.slipTarget - (if n.is60 then 60000 else 50000)) * 1000) ∧
          t.syn.vSync = clamp (-100) 100 (t.msu.vS - n.voltage) := by
  obtain ⟨sees, params, syn⟩ := shipClose_sees pass seeking closes after
  have ssc : t.ssc = s.ssc := by rw [← after]; exact (takeSample_sameBut_of_shipSync pass seeking).1
  obtain ⟨-, ship⟩ := sees.states
  obtain ⟨frequency, voltage⟩ := sees.shipTerms
  have fSync : t.syn.fSync = if t.btr.shipState = .live then shipFrequency t else 0 := by rw [← ship, ← frequency, syn]; rfl
  have vSync : t.syn.vSync = if t.btr.shipState = .live then shipVoltage t else 0 := by rw [← ship, ← voltage, syn]; rfl
  refine ⟨fun dead => ⟨fSync.trans (if_neg dead), vSync.trans (if_neg dead)⟩, fun n f live session freq => ?_⟩
  rw [fSync, vSync, if_pos live, if_pos live, ← params]
  exact shipTerms_of (by rw [ssc]; exact session) freq

end

/-! ### JOINING: what the sample publishes decides (R110, R111) -/

/-- The three windows of R111 under the parameters of `s`, by the values published in `t`. -/
def JoinWindows (s t : State) : Prop :=
  (∃ f g, t.btr.module.freq = some f ∧ t.btr.berth.freq = some g ∧ f - g ≤ s.params.joinFreq ∧ g - f ≤ s.params.joinFreq) ∧
    (∃ d, t.btr.dphiJoin = some d ∧ d ≤ s.params.joinPhase ∧ -d ≤ s.params.joinPhase) ∧
    (t.msu.vM - t.msu.vB ≤ s.params.joinVolt ∧ t.msu.vB - t.msu.vM ≤ s.params.joinVolt)

section
variable {r : Sample} {isNew : Bool} {k : Nat} {t : State} (pass : ChecksPass r isNew) (run : s.phase = .run)
  (joining : s.ssc.station = .joining) (after : takeSample r isNew k s = t)
  (unconfirmed : ¬ (s.syn.cmdClosed = true ∧ s.syn.confirmed = true ∧ t.btr.berthState = .live))
include pass run joining after unconfirmed

theorem joinOpen_syn (open_ : ¬ ((eventsOf r isNew k s).berthClose || (eventsOf r isNew k s).moduleClose) = true) :
    t.syn = { s.syn with energise := t.syn.energise } ∧ (s.btr.berthState ≠ .live → t.syn.energise = s.syn.energise) := by
  subst after
  obtain ⟨-, -, syn⟩ := takeSample_sameBut_of_unconfirmed pass run joining unconfirmed
  have berthOpen : (eventsOf r isNew k s).berthClose = false := by
    rw [Bool.or_eq_true, not_or, Bool.not_eq_true] at open_
    exact open_.1
  rw [if_neg open_, seenOf_syn pass berthOpen] at syn
  rw [syn]
  exact ⟨rfl, fun dead => if_neg dead⟩

variable (closes : ((eventsOf r isNew k s).berthClose || (eventsOf r isNew k s).moduleClose) = true)
include closes

theorem joinClose_sees : Sees (seenOf r isNew k s) t ∧ t.params = s.params ∧ t.ssc = s.ssc ∧
    t.syn = (joinJudged (seenOf r isNew k s)).syn := by
  subst after
  obtain ⟨same, sees, syn⟩ := takeSample_sameBut_of_unconfirmed pass run joining unconfirmed
  exact ⟨sees, same .params (by decide), same .ssc (by decide), syn.trans (by rw [if_pos closes])⟩

theorem joinClose_dead (dead : t.btr.berthState ≠ .live) : t.syn.fSync = 0 ∧ t.syn.vSync = 0 ∧ t.syn.joinDwell = none := by
  obtain ⟨sees, -, -, syn⟩ := joinClose_sees pass run joining after unconfirmed closes
  rw [syn, joinJudged_dead (seenOf_joining pass joining).2 (by rw [sees.states.1]; exact dead)]
  exact ⟨rfl, rfl, rfl⟩

variable (live : t.btr.berthState = .live)
include live

/-- The terms of R110. -/
theorem joinClose_terms {n : Session} {f : Int} (session : s.ssc.session = some n) (freq : t.btr.berth.freq = some f) :
    t.syn.vSync = clamp (-100) 100 (t.msu.vB - n.voltage) ∧
      (t.btr.dphiJoin = none → t.syn.fSync = clamp (-3000000) 3000000 ((f - (if n.is60 then 60000 else 50000)) * 1000)) ∧
      ∀ d, t.btr.dphiJoin = some d → t.syn.fSync =
        clamp (-3000000) 3000000 ((f - (if n.is60 then 60000 else 50000)) * 1000 + s.params.kphi * -d) := by
  obtain ⟨sees, params, ssc, syn⟩ := joinClose_sees pass run joining after unconfirmed closes
  have judged := joinJudged_live (seenOf_joining (k := k) pass joining).2 (sees.states.1.trans live)
  obtain ⟨frequency, voltage⟩ := joinTerms_of (a := t) (by rw [ssc]; exact session) freq
  have fSync : t.syn.fSync = joinFrequency t := by rw [← sees.joinTerms.1, syn, judged]
  have vSync : t.syn.vSync = joinVoltage t := by rw [← sees.joinTerms.2, syn, judged]
  rw [fSync, vSync, frequency, voltage, params]
  refine ⟨rfl, fun invalid => ?_, fun d valid => ?_⟩
  · rw [invalid, Option.getD_none, neg_zero, mul_zero, add_zero]
  · rw [valid, Option.getD_some]

/-- The windows and the dwell of R111. -/
theorem joinClose_windows (commandedOpen : s.syn.cmdClosed = false) :
    ((t.syn.joinFreqOk = true ↔ ∃ f g, t.btr.module.freq = some f ∧ t.btr.berth.freq = some g ∧ f - g ≤ s.params.joinFreq ∧
        g - f ≤ s.params.joinFreq) ∧
      (t.syn.joinPhaseOk = true ↔ ∃ d, t.btr.dphiJoin = some d ∧ d ≤ s.params.joinPhase ∧ -d ≤ s.params.joinPhase) ∧
      (t.syn.joinVoltOk = true ↔ t.msu.vM - t.msu.vB ≤ s.params.joinVolt ∧ t.msu.vB - t.msu.vM ≤ s.params.joinVolt)) ∧
    (JoinWindows s t → t.syn.joinDwell = some (s.syn.joinDwell.getD s.now)) ∧
      (¬ JoinWindows s t → t.syn.joinDwell = none) := by
  obtain ⟨sees, params, -, syn⟩ := joinClose_sees pass run joining after unconfirmed closes
  obtain ⟨cmd, -, dwell, -⟩ := seenOf_keeps (s := s) (k := k) pass
  have now : (seenOf r isNew k s).now = s.now := seenOf_sameBut pass .clock (by decide)
  have judged := joinJudged_live (seenOf_joining (k := k) pass joining).2 (sees.states.1.trans live)
  obtain ⟨freqSame, phaseSame, voltSame⟩ := sees.joinWindows
  have met : joinMet (seenOf r isNew k s) = true ↔ JoinWindows s t := by
    rw [joinMet, Bool.and_eq_true, Bool.and_eq_true, freqSame, phaseSame, voltSame, joinFreqMet_iff, joinPhaseMet_iff,
      joinVoltMet_iff, params, and_assoc, JoinWindows]
  simp only [cmd, commandedOpen, Bool.false_eq_true, if_false, freqSame, phaseSame, voltSame, dwell, now] at judged
  rw [syn, judged, ← met]
  refine ⟨⟨?_, ?_, ?_⟩, fun together => ?_, fun lost => if_neg lost⟩
  · rw [← params]; exact joinFreqMet_iff t
  · rw [← params]; exact joinPhaseMet_iff t
  · rw [← params]; exact joinVoltMet_iff t
  · refine (if_pos together).trans ?_
    cases s.syn.joinDwell <;> rfl

end

end

/-- The two causes of a sample without a check that is met: a good record's, and the last good one repeated (R4). -/
theorem exec_handsOn {s : State} {c : Instr} {x : Sample} {k : Nat} (run : s.phase = .run) (open_ : unsettled s = true)
    (index : s.spt.index = some k)
    (cause : (∃ r : List Byte, r.length = 25 ∧ r.head? = some 0xA6#8 ∧ crc8 (r.take 24) = r.getD 24 0 ∧
        (s.spt.expected = none ∨ s.spt.expected = some (r.getD 1 0)) ∧ x = sampleOf r ∧ overcurrentMet x = false ∧
        dcFaultMet x = false ∧ c = .recordComplete r) ∨
      ∃ b : Byte, b ≠ 0xFF#8 ∧ b ≠ 0xA6#8 ∧ c = .startMarkerWrong b ∧ s.spt.lastGood = some x ∧ s.spt.runCount ≠ 2) :
    ∃ (p : Spt) (isNew : Bool), ChecksPass x isNew ∧ exec c s = .next (takeSample x isNew k { s with spt := p }) := by
  rcases cause with ⟨r, length, marker, crc, sequence, rfl, current, link, rfl⟩ | ⟨b, ready, wrong, rfl, last, away⟩
  · exact ⟨_, true, .inr ⟨current, link⟩, exec_newSample run open_ index length marker crc sequence⟩
  · exact ⟨_, false, .inl rfl, exec_repeatedSample run open_ index ready wrong last away⟩

/-- Settles O49: both causes hand one sample on, which is judged by what it publishes, in SHIP_SYNC and in JOINING. -/
theorem losingAWindowWithdrawsThePermit : Obligations.LosingAWindowWithdrawsThePermit := by
  unfold Obligations.LosingAWindowWithdrawsThePermit
  intro s c x k run open_ index cause
  obtain ⟨p, isNew, pass, runs⟩ := exec_handsOn run open_ index cause
  let u : State := { s with spt := p }
  have settledOnly : sameBut [.spt] s u := sptSettled_sameBut p s
  refine ⟨fun seeking => ⟨_, runs, ?_⟩, fun joining => ⟨_, runs, ?_⟩⟩
  · obtain ⟨ssc, same⟩ := takeSample_sameBut_of_shipSync (s := u) (k := k) pass seeking
    refine ⟨ssc, (settledOnly.widen (by decide)).then (same.widen (by decide)), fun at_ => ?_, fun at_ idle => ?_⟩
    · have closes := (shipCloses_iff x isNew k u).mpr at_
      obtain ⟨⟨bus, slip, phase, volt⟩, -⟩ := shipClose_windows (s := u) pass seeking closes rfl
      obtain ⟨met, lost⟩ := shipClose_dwell (s := u) pass seeking closes rfl
      obtain ⟨valid, invalid⟩ := shipClose_advance (s := u) pass seeking closes rfl
      obtain ⟨dead, live⟩ := shipClose_terms (s := u) pass seeking closes rfl
      exact ⟨bus, slip, phase, volt, met, lost, valid, invalid, dead, live⟩
    · exact takeSample_syn_of_shipOpen (s := u) pass seeking (fun closes => at_ ((shipCloses_iff x isNew k u).mp closes)) idle
  · refine ⟨takeSample_of_confirmed (s := u) pass run joining, fun unconfirmed => ?_⟩
    obtain ⟨same, -⟩ := takeSample_sameBut_of_unconfirmed (s := u) pass run joining unconfirmed
    refine ⟨same .ssc (by decide), (settledOnly.widen (by decide)).then (same.widen (by decide)), fun at_ dead => ?_,
      fun at_ live => ⟨fun n f session freq => ?_, fun commandedOpen => ?_⟩, fun at_ => ?_⟩
    · exact joinClose_dead (s := u) pass run joining rfl unconfirmed ((joinCloses_iff x isNew k u).mpr at_) dead
    · exact joinClose_terms (s := u) pass run joining rfl unconfirmed ((joinCloses_iff x isNew k u).mpr at_) live session freq
    · obtain ⟨⟨frequency, phase, volt⟩, met, lost⟩ := joinClose_windows (s := u) pass run joining rfl unconfirmed
        ((joinCloses_iff x isNew k u).mpr at_) live commandedOpen
      exact ⟨frequency, phase, volt, met, lost⟩
    · exact joinOpen_syn (s := u) pass run joining rfl unconfirmed
        (fun closes => at_ ((joinCloses_iff x isNew k u).mp closes))

end Sys2Proof.Machine
end

/-! PROOFS. The trackers, closes and bus states of a sample, and the timers that follow them (R9 to R17, R104 to R108, R138). -/
section
namespace Sys2Proof.Machine

/-! ### Rounding -/

/-- A quotient rounded half up lies within one half of the exact one. -/
theorem halfUp_bounds (a : Int) {b : Int} (positive : 0 < b) :
    2 * halfUp a b * b ≤ 2 * a + b ∧ 2 * a - b < 2 * halfUp a b * b := by
  have twice : 0 < 2 * b := by omega
  have below := Int.ediv_mul_le (2 * a + b) (Int.ne_of_gt twice)
  have above := Int.lt_ediv_add_one_mul_self (2 * a + b) twice
  have product : 2 * halfUp a b * b = (2 * a + b) / (2 * b) * (2 * b) := by rw [halfUp]; ring
  have next : ((2 * a + b) / (2 * b) + 1) * (2 * b) = (2 * a + b) / (2 * b) * (2 * b) + 2 * b := by ring
  rw [next] at above
  rw [product]
  omega

/-- A part of the whole, in 256ths, lies between none and all of them. -/
theorem halfUp_part {a b : Int} (positive : 0 < b) (low : 0 ≤ a) (high : a ≤ b) :
    0 ≤ halfUp (256 * a) b ∧ halfUp (256 * a) b ≤ 256 := by
  refine ⟨Int.ediv_nonneg (by omega) (by omega), ?_⟩
  have bound := (halfUp_bounds (256 * a) positive).1
  have scaled : 2 * halfUp (256 * a) b * b ≤ 513 * b := by omega
  have doubled := le_of_mul_le_mul_right scaled positive
  omega

/-! ### A tracker (R13, R14) -/

section
variable {t : Tracker} {v p : Int} {k j : Nat}

theorem crossing_of_met (prev : t.prev = some (p, j)) (below : p < 0) (above : 0 ≤ v) (armed : t.armedAt v = true) :
    t.crossing v k = some (256 * ((k : Int) - 1) + halfUp (256 * -p) (v - p)) := by
  simp only [Tracker.crossing, prev]
  exact if_pos ⟨below, above, armed⟩

theorem crossing_of_not (prev : t.prev = some (p, j)) (unmet : 0 ≤ p ∨ v < 0 ∨ t.armed = false ∧ -1000 ≤ v) :
    t.crossing v k = none := by
  simp only [Tracker.crossing, prev]
  refine if_neg ?_
  rintro ⟨below, above, armed⟩
  rcases unmet with started | ended | ⟨disarmed, shallow⟩
  · omega
  · omega
  · rw [Tracker.armedAt, disarmed, Bool.or_false, decide_eq_true_eq] at armed
    omega

theorem observe_of_crossing {time : Int} (crossed : t.crossing v k = some time) :
    t.observe v k = { prev := some (v, k), armed := false, tLast := some time, periods := t.nextPeriods time,
                      freq := frequencyOf (t.nextPeriods time) } := by
  simp only [Tracker.observe, crossed]

theorem observe_of_none (quiet : t.crossing v k = none) : t.observe v k = { t with prev := some (v, k), armed := t.armedAt v } := by
  simp only [Tracker.observe, quiet]

theorem nextPeriods_of_last {last time : Int} (known : t.tLast = some last) :
    t.nextPeriods time = (t.periods ++ [time - last]).drop (t.periods.length - 3) := by
  simp only [Tracker.nextPeriods, known]

theorem observe_crossedAt {time : Int} (crossed : t.crossing v k = some time) : Tracker.CrossedAt time t (t.observe v k) := by
  rw [observe_of_crossing crossed]
  refine ⟨rfl, rfl, fun unknown => ?_, fun last known => ?_⟩
  · simp only [Tracker.nextPeriods, unknown]
  · refine ⟨fun few => (nextPeriods_of_last known).trans ?_, fun full => (nextPeriods_of_last known).trans ?_⟩
    · rw [show t.periods.length - 3 = 0 by omega, List.drop_zero]
    · rw [full, List.drop_append_of_le_length (by omega), List.drop_one]

end

/-- A tracker's times, as the obligation says them, where a previous sample is known. -/
theorem crossing_interpolates {t : Tracker} {v p : Int} {k j : Nat} (prev : t.prev = some (p, j)) (below : p < 0) (above : 0 ≤ v)
    (armed : t.armed = true) :
    ∃ time, t.crossing v k = some time ∧ 256 * ((k : Int) - 1) ≤ time ∧ time ≤ 256 * k ∧
      2 * (time - 256 * ((k : Int) - 1)) * (v - p) ≤ 512 * -p + (v - p) ∧
      512 * -p - (v - p) < 2 * (time - 256 * ((k : Int) - 1)) * (v - p) := by
  obtain ⟨first, whole⟩ := halfUp_part (a := -p) (b := v - p) (by omega) (by omega) (by omega)
  obtain ⟨upper, lower⟩ := halfUp_bounds (256 * -p) (b := v - p) (by omega)
  refine ⟨_, crossing_of_met prev below above (by rw [Tracker.armedAt, armed, Bool.or_true]), by omega, by omega, ?_⟩
  rw [add_sub_cancel_left]
  constructor
  · linarith
  · linarith

theorem frequencyOf_rounds {periods : List Int} (positive : ∀ x ∈ periods, 0 < x) (four : periods.length = 4) :
    ∃ f, frequencyOf periods = some f ∧ 2 * f * periods.sum ≤ 16384000000 + periods.sum ∧
      16384000000 - periods.sum < 2 * f * periods.sum := by
  have sum : 0 < periods.sum := List.sum_pos _ positive (by
    intro empty
    rw [empty] at four
    exact absurd four (by decide))
  exact ⟨_, if_pos four, halfUp_bounds 8192000000 sum⟩

/-! ### A tracker after a sample and the close it may bring (R9, R13, R14) -/

section
variable (t : Tracker) (v : Int) (k : Nat) (window : Bool)

/-- A tracker after the sample, as `Btr.take` forms it: `window` says whether the cycle holds 320 samples. -/
def Tracker.sampled : Tracker := t.after v k (t.crossing v k).isSome ((t.crossing v k).isSome || window)

theorem sampled_of_crossing {time : Int} (crossed : t.crossing v k = some time) : t.sampled v k window = t.observe v k := by
  simp [Tracker.sampled, Tracker.after, crossed]

theorem sampled_of_window (quiet : t.crossing v k = none) (full : window = true) :
    t.sampled v k window = (t.observe v k).windowClose := by
  simp [Tracker.sampled, Tracker.after, quiet, full]

theorem sampled_of_open (quiet : t.crossing v k = none) (open_ : window = false) : t.sampled v k window = t.observe v k := by
  simp [Tracker.sampled, Tracker.after, quiet, open_]

/-- The sample becomes the previous one; a crossing disarms. -/
theorem sampled_prev : (t.sampled v k window).prev = some (v, k) ∧
    (t.sampled v k window).armed = (!(t.crossing v k).isSome && (decide (v < -1000) || t.armed)) := by
  cases crossed : t.crossing v k with
  | some time =>
    rw [sampled_of_crossing t v k window crossed, observe_of_crossing crossed]
    exact ⟨rfl, rfl⟩
  | none =>
    cases full : window with
    | true =>
      rw [sampled_of_window t v k true crossed rfl, observe_of_none crossed]
      exact ⟨rfl, (Bool.true_and _).symm⟩
    | false =>
      rw [sampled_of_open t v k false crossed rfl, observe_of_none crossed]
      exact ⟨rfl, (Bool.true_and _).symm⟩

/-- Without a crossing the list, the last crossing and the frequency hold, or a window close empties them (R14). -/
theorem sampled_of_quiet (quiet : (t.crossing v k).isSome = false) :
    (window = false → (t.sampled v k window).periods = t.periods ∧ (t.sampled v k window).tLast = t.tLast ∧
      (t.sampled v k window).freq = t.freq) ∧
    (window = true → (t.sampled v k window).periods = [] ∧ (t.sampled v k window).tLast = none ∧
      (t.sampled v k window).freq = none) := by
  have none_ : t.crossing v k = none := by rwa [Option.isSome_eq_false_iff, Option.isNone_iff_eq_none] at quiet
  constructor
  · intro open_
    rw [sampled_of_open t v k window none_ open_, observe_of_none none_]
    exact ⟨rfl, rfl, rfl⟩
  · intro full
    rw [sampled_of_window t v k window none_ full]
    exact ⟨rfl, rfl, rfl⟩

end

/-! ### Phase differences, slip and bus states (R15, R16) -/

theorem phaseAfter_of_invalid {a b p : Tracker} {crossed : Bool} {old : Option Int} (invalid : a.freq = none ∨ b.freq = none) :
    phaseAfter a b p crossed old = none := if_pos (by rcases invalid with h | h <;> simp [h])

theorem phaseAfter_of_valid {a b p : Tracker} {f g : Int} (first : a.freq = some f) (second : b.freq = some g) (crossed : Bool)
    (old : Option Int) : phaseAfter a b p crossed old =
      if crossed then some (phaseBetween (a.tLast.getD 0) (b.tLast.getD 0) (p.periods.getLast?.getD 0)) else old :=
  if_neg (by simp [first, second])

theorem slipOf_of_invalid {berth ship : Option Int} (invalid : berth = none ∨ ship = none) : slipOf berth ship = none := by
  rcases invalid with rfl | rfl
  · rfl
  · cases berth <;> rfl

/-- R15's three states. -/
theorem busStateOf_says (v : Int) (freq : Option Int) :
    (v < 100 → busStateOf v freq = .dead) ∧
      (100 ≤ v →
        ((850 ≤ v ∧ ∃ f, freq = some f ∧ 45000 ≤ f ∧ f ≤ 65000) → busStateOf v freq = .live) ∧
          (¬ (850 ≤ v ∧ ∃ f, freq = some f ∧ 45000 ≤ f ∧ f ≤ 65000) → busStateOf v freq = .abnormal)) := by
  refine ⟨fun low => if_pos low, fun up => ?_⟩
  have alive : ¬ v < 100 := by omega
  cases freq with
  | none => exact ⟨fun ⟨_, _, known, _⟩ => absurd known (by simp), fun _ => if_neg alive⟩
  | some f =>
    refine ⟨fun ⟨high, g, known, low, top⟩ => ?_, fun unmet => ?_⟩
    · cases known
      exact (if_neg alive).trans (if_pos ⟨high, low, top⟩)
    · exact (if_neg alive).trans (if_neg fun ⟨high, low, top⟩ => unmet ⟨high, f, rfl, low, top⟩)

/-! ### What a sample publishes (R9 to R16) -/

section
variable (r : Sample) (isNew : Bool) (k : Nat) (s : State)

/-- A cycle that holds this sample holds 320. -/
def CycleSum.fills (c : CycleSum) : Bool := decide (320 ≤ c.n + 1)

theorem takeSample_btr :
    ((takeSample r isNew k s).btr.module = s.btr.module.sampled r.vmAb.toInt k s.msu.sumM.fills ∧
      (takeSample r isNew k s).btr.berth = s.btr.berth.sampled r.vbAb.toInt k s.msu.sumB.fills ∧
      (takeSample r isNew k s).btr.ship = s.btr.ship.sampled r.vsAb.toInt k s.msu.sumS.fills) ∧
    (takeSample r isNew k s).btr.berthState = (if (eventsOf r isNew k s).berthClose then
      busStateOf (takeSample r isNew k s).msu.vB (takeSample r isNew k s).btr.berth.freq else s.btr.berthState) ∧
    (takeSample r isNew k s).btr.shipState = (if (eventsOf r isNew k s).shipClose then
      busStateOf (takeSample r isNew k s).msu.vS (takeSample r isNew k s).btr.ship.freq else s.btr.shipState) := by
  obtain ⟨oob, done, same⟩ := takeSample_trackers r isNew k s
  rw [takeSample_msu, same]
  exact ⟨⟨rfl, rfl, rfl⟩, rfl, rfl⟩

theorem takeSample_phases :
    (takeSample r isNew k s).btr.dphiShip = phaseAfter (takeSample r isNew k s).btr.berth (takeSample r isNew k s).btr.ship
        (takeSample r isNew k s).btr.ship
        ((s.btr.berth.crossing r.vbAb.toInt k).isSome || (s.btr.ship.crossing r.vsAb.toInt k).isSome) s.btr.dphiShip ∧
      (takeSample r isNew k s).btr.dphiJoin = phaseAfter (takeSample r isNew k s).btr.module (takeSample r isNew k s).btr.berth
        (takeSample r isNew k s).btr.berth
        ((s.btr.module.crossing r.vmAb.toInt k).isSome || (s.btr.berth.crossing r.vbAb.toInt k).isSome) s.btr.dphiJoin ∧
      (takeSample r isNew k s).btr.slip =
        slipOf (takeSample r isNew k s).btr.berth.freq (takeSample r isNew k s).btr.ship.freq := by
  obtain ⟨oob, done, same⟩ := takeSample_trackers r isNew k s
  rw [same]
  exact ⟨rfl, rfl, rfl⟩

/-- A cycle's close: a crossing, or its 320th sample. -/
theorem eventsOf_close :
    ((eventsOf r isNew k s).moduleClose = ((s.btr.module.crossing r.vmAb.toInt k).isSome || s.msu.sumM.fills)) ∧
      ((eventsOf r isNew k s).berthClose = ((s.btr.berth.crossing r.vbAb.toInt k).isSome || s.msu.sumB.fills)) ∧
      ((eventsOf r isNew k s).shipClose = ((s.btr.ship.crossing r.vsAb.toInt k).isSome || s.msu.sumS.fills)) :=
  ⟨rfl, rfl, rfl⟩

/-- The module output's values: published at its close, else held (R10, R11). -/
theorem takeSample_moduleValues :
    ((eventsOf r isNew k s).moduleClose = true →
      (takeSample r isNew k s).msu.p = activePower (s.msu.sumP + activeProduct r) (s.msu.sumM.add r.vmAb.toInt).n ∧
        (takeSample r isNew k s).msu.q = reactivePower (s.msu.sumQ + reactiveProduct r) (s.msu.sumM.add r.vmAb.toInt).n ∧
        (takeSample r isNew k s).msu.vM = voltageOf (s.msu.sumM.add r.vmAb.toInt) ∧ (takeSample r isNew k s).msu.sumP = 0 ∧
        (takeSample r isNew k s).msu.sumQ = 0 ∧ (takeSample r isNew k s).msu.sumM = .empty) ∧
    ((eventsOf r isNew k s).moduleClose = false →
      (takeSample r isNew k s).msu.p = s.msu.p ∧ (takeSample r isNew k s).msu.q = s.msu.q ∧
        (takeSample r isNew k s).msu.vM = s.msu.vM ∧ (takeSample r isNew k s).msu.sumP = s.msu.sumP + activeProduct r ∧
        (takeSample r isNew k s).msu.sumQ = s.msu.sumQ + reactiveProduct r ∧
        (takeSample r isNew k s).msu.sumM = s.msu.sumM.add r.vmAb.toInt) := by
  rw [takeSample_msu]
  constructor
  · intro closed
    simp [closedMsu, Msu.close, Msu.take, closed]
  · intro held
    simp [closedMsu, Msu.close, Msu.take, held]

/-- The two buses' voltages: published at their closes, else held (R11). -/
theorem takeSample_busValues :
    ((takeSample r isNew k s).msu.vB =
        (if (eventsOf r isNew k s).berthClose then voltageOf (s.msu.sumB.add r.vbAb.toInt) else s.msu.vB) ∧
      (takeSample r isNew k s).msu.sumB =
        (if (eventsOf r isNew k s).berthClose then .empty else s.msu.sumB.add r.vbAb.toInt)) ∧
    ((takeSample r isNew k s).msu.vS =
        (if (eventsOf r isNew k s).shipClose then voltageOf (s.msu.sumS.add r.vsAb.toInt) else s.msu.vS) ∧
      (takeSample r isNew k s).msu.sumS =
        (if (eventsOf r isNew k s).shipClose then .empty else s.msu.sumS.add r.vsAb.toInt)) := by
  rw [takeSample_msu]
  exact ⟨⟨rfl, rfl⟩, rfl, rfl⟩

end

/-! ### Whether a sample moves the station -/

section
variable {s : State} {r : Sample} {isNew : Bool} {k : Nat}

theorem raiseIf_stays_or_trips (met : Bool) (c : Condition) (s : State) :
    sameBut [.pru] s (raiseIf met c s) ∨ canTrip s = true ∧ (raiseIf met c s).ssc.station = .tripped := by
  cases met with
  | false => exact .inl ((sameBut.refl s).widen (by decide))
  | true =>
    rcases raise_cases c s with same | ⟨-, -, can, same⟩
    · exact .inl (by rw [raiseIf, if_pos rfl, same]; exact hold_sameBut c s)
    · exact .inr ⟨can, by rw [raiseIf, if_pos rfl, same]; exact tripWith_station _ _⟩

theorem checked_stays_or_trips (r : Sample) (isNew : Bool) (s : State) :
    sameBut [.pru] s (checked r isNew s) ∨ canTrip s = true ∧ (checked r isNew s).ssc.station = .tripped := by
  let a := raiseIf (isNew && overcurrentMet r) .overcurrent s
  have current : sameBut [.pru] s a ∨ canTrip s = true ∧ a.ssc.station = .tripped := raiseIf_stays_or_trips _ _ s
  have link : sameBut [.pru] a (checked r isNew s) ∨ canTrip a = true ∧ (checked r isNew s).ssc.station = .tripped :=
    raiseIf_stays_or_trips _ _ a
  rcases current with stays | ⟨can, tripped⟩
  · rcases link with still | ⟨can, tripped⟩
    · exact .inl (stays.then still)
    · have phase : a.phase = s.phase := stays .phase (by decide)
      have station : a.ssc = s.ssc := stays .ssc (by decide)
      exact .inr ⟨by rw [← canTrip_congr phase (by rw [station])]; exact can, tripped⟩
  · rcases link with still | ⟨-, again⟩
    · exact .inr ⟨can, by rw [still .ssc (by decide)]; exact tripped⟩
    · exact .inr ⟨can, again⟩

/-- A sample's checks leave the station as it stood, or have tripped it. -/
theorem metered_stays_or_trips (r : Sample) (isNew : Bool) (s : State) :
    sameBut [.msu, .emt, .pru] s (metered r isNew s) ∨ s.ssc.station ≠ .tripped ∧ (metered r isNew s).ssc.station = .tripped := by
  let u : State := { s with msu := s.msu.take r isNew }
  have summed : sameBut [.msu] s u := summed_sameBut _ s
  have emt : sameBut [.emt] (checked r isNew u) (metered r isNew s) := integrate_sameBut _ _
  rcases checked_stays_or_trips r isNew u with stays | ⟨can, tripped⟩
  · exact .inl (((summed.widen (by decide)).then (stays.widen (by decide))).then (emt.widen (by decide)))
  · obtain ⟨-, -, -, away⟩ := (canTrip_iff u).mp can
    exact .inr ⟨away, by rw [emt .ssc (by decide)]; exact tripped⟩

/-- A reported close takes the station out of JOINING, on the berth bus. -/
theorem takeSample_station_of_reports
    (met : reports (synJudged s.btr.berthState (eventsOf r isNew k s) (trackedOf r isNew k s))) :
    (metered r isNew s).ssc.station = .joining ∧
      ((takeSample r isNew k s).ssc.station = .handoverIn ∨ (takeSample r isNew k s).ssc.station = .online) := by
  have joining := met.2.1
  obtain ⟨moved, -⟩ := enterOnline_of_joining joining
  refine ⟨by rw [← synJudged_ssc r isNew k s]; exact joining, ?_⟩
  rw [takeSample_eq, announce_ssc, steered_eq, judgeBand_ssc, reportClosed_of met, partSeen_sameBut _ _ .ssc (by decide), moved]
  split
  · exact .inl rfl
  · exact .inr rfl

/-- A station that a sample leaves in its state, or in JOINING, was neither tripped nor moved by it. -/
theorem takeSample_unmoved (stays : (takeSample r isNew k s).ssc.station = s.ssc.station ∨
      (takeSample r isNew k s).ssc.station = .joining) :
    sameBut [.msu, .emt, .pru] s (metered r isNew s) ∧
      ¬ reports (synJudged s.btr.berthState (eventsOf r isNew k s) (trackedOf r isNew k s)) := by
  rcases metered_stays_or_trips r isNew s with same | ⟨away, tripped⟩
  · refine ⟨same, fun met => ?_⟩
    obtain ⟨joining, moved⟩ := takeSample_station_of_reports met
    rw [same .ssc (by decide)] at joining
    rw [joining, or_self] at stays
    rcases moved with moved | moved <;> rw [moved] at stays <;> cases stays
  · obtain ⟨ssc, -⟩ := takeSample_of_tripped (k := k) tripped
    rw [ssc, tripped] at stays
    rcases stays with stays | stays
    · exact absurd stays.symm away
    · cases stays

/-! ### HANDOVER_OUT: the part timer (R138) -/

theorem takeSample_hoc_of_handoverOut (out : s.ssc.station = .handoverOut)
    (still : (takeSample r isNew k s).ssc.station = .handoverOut) :
    (takeSample r isNew k s).hoc = if (eventsOf r isNew k s).moduleClose then
      s.hoc.judgePart (takeSample r isNew k s).msu.p s.params.partReady s.now else s.hoc := by
  obtain ⟨same, quiet⟩ := takeSample_unmoved (k := k) (.inl (still.trans out.symm))
  have judged : sameBut [.msu, .emt, .pru, .btr, .lkc, .syn] s
      (synJudged s.btr.berthState (eventsOf r isNew k s) (trackedOf r isNew k s)) :=
    ((same.widen (by decide)).then ((trackedOf_sameBut r isNew k s).widen (by decide))).then
      ((synJudged_sameBut _ _ _).widen (by decide))
  have msu : (synJudged s.btr.berthState (eventsOf r isNew k s) (trackedOf r isNew k s)).msu = (takeSample r isNew k s).msu := by
    rw [synJudged_sameBut _ _ _ .msu (by decide), trackedOf_msu, takeSample_msu]
  have params := judged .params (by decide)
  have now : (synJudged s.btr.berthState (eventsOf r isNew k s) (trackedOf r isNew k s)).now = s.now := judged .clock (by decide)
  have parted : (partJudged (synJudged s.btr.berthState (eventsOf r isNew k s) (trackedOf r isNew k s))).hoc =
      s.hoc.judgePart (takeSample r isNew k s).msu.p s.params.partReady s.now := by
    refine (if_pos ((congrArg Ssc.station (judged .ssc (by decide))).trans out)).trans ?_
    rw [judged .hoc (by decide), msu, params, now]
  have hoc : (takeSample r isNew k s).hoc = (partSeen (eventsOf r isNew k s)
      (synJudged s.btr.berthState (eventsOf r isNew k s) (trackedOf r isNew k s))).hoc := by
    rw [takeSample_eq, announce_hoc, steered_eq, judgeBand_hoc, reportClosed_of_not quiet]
  rw [hoc, partSeen]
  split
  · exact parted
  · exact judged .hoc (by decide)

/-! ### The claim and its timers (R104, R105, R108) -/

/-- Two values of SYN with the same claim and the same timers of it. -/
structure SameClaim (y z : Syn) : Prop where
  claim : z.claim = y.claim
  settle : z.settle = y.settle
  settled : z.settled = y.settled
  claimWait : z.claimWait = y.claimWait
  energise : z.energise = y.energise

theorem SameClaim.refl (y : Syn) : SameClaim y y := ⟨rfl, rfl, rfl, rfl, rfl⟩

theorem SameClaim.trans {x y z : Syn} (first : SameClaim x y) (second : SameClaim y z) : SameClaim x z :=
  ⟨second.claim.trans first.claim, second.settle.trans first.settle, second.settled.trans first.settled,
    second.claimWait.trans first.claimWait, second.energise.trans first.energise⟩

theorem joinJudged_sameClaim (s : State) : SameClaim s.syn (joinJudged s).syn := by
  by_cases joining : s.ssc.station = .joining
  · by_cases live : s.btr.berthState = .live
    · rw [joinJudged_live joining live]; exact ⟨rfl, rfl, rfl, rfl, rfl⟩
    · rw [joinJudged_dead joining live]; exact ⟨rfl, rfl, rfl, rfl, rfl⟩
  · rw [joinJudged_elsewhere joining]; exact .refl _

theorem shipJudged_sameClaim (s : State) : SameClaim s.syn (shipJudged s).syn := by
  by_cases seeking : s.ssc.station = .shipSync
  · rw [shipJudged_syn seeking]; exact ⟨rfl, rfl, rfl, rfl, rfl⟩
  · rw [shipJudged, if_neg seeking]; exact .refl _

theorem synJudged_sameClaim (old : BusState) (e : SampleEvents) (s : State) :
    SameClaim (berthChanged old s).syn (synJudged old e s).syn := by
  let a := if e.berthClose || e.moduleClose then joinJudged (berthChanged old s) else berthChanged old s
  have joined : SameClaim (berthChanged old s).syn a.syn := by
    show SameClaim _ (State.syn (if _ then _ else _))
    split
    · exact joinJudged_sameClaim _
    · exact .refl _
  refine joined.trans ?_
  show SameClaim a.syn (State.syn (if _ then _ else _))
  split
  · exact shipJudged_sameClaim _
  · exact .refl _

theorem synJudged_lkc (old : BusState) (e : SampleEvents) (s : State) : (synJudged old e s).lkc = (berthChanged old s).lkc := by
  simp only [synJudged]
  rw [sameBut_ite (shipJudged_sameBut _) .lkc (by decide), sameBut_ite (joinJudged_sameBut _) .lkc (by decide)]

theorem settled_sameClaim (s : State) : SameClaim s.syn (settled s).syn := ⟨rfl, rfl, rfl, rfl, rfl⟩

theorem enterHandoverIn_sameClaim (online : s.ssc.station = .online) :
    SameClaim s.syn (enterHandoverIn s).syn ∧ (enterHandoverIn s).lkc = s.lkc := by
  have syn : (moveTo .handoverIn s).syn = s.syn := by simp [moveTo, online, Syn.moved]
  have lkc : (moveTo .handoverIn s).lkc = s.lkc := by simp [moveTo, online]
  rw [enterHandoverIn, submitEvent_syn, submitEvent_lkc]
  constructor
  · rw [← syn]
    exact settled_sameClaim _
  · exact lkc

/-- A confirmed close keeps the claim and ends its timers (R104, R105, R108). -/
theorem enterOnline_claim (joining : s.ssc.station = .joining) :
    SameClaim { s.syn with settle := none, settled := false, claimWait := false, energise := none } (enterOnline s).syn ∧
      (enterOnline s).lkc = s.lkc.dropClaim := by
  have kept : (s.syn.leaveJoining .online).claim = s.syn.claim := by
    unfold Syn.leaveJoining
    cases s.syn.claim <;> rfl
  have syn : (moveTo .online s).syn = s.syn.leaveJoining .online := by simp [moveTo, joining, Syn.moved]
  have lkc : (moveTo .online s).lkc = s.lkc.dropClaim := by simp [moveTo, joining]
  have left : SameClaim { s.syn with settle := none, settled := false, claimWait := false, energise := none }
      (moveTo .online s).syn := by
    rw [syn]
    exact ⟨kept, rfl, rfl, rfl, rfl⟩
  have online := left.trans (settled_sameClaim (moveTo .online s))
  unfold enterOnline
  split
  · obtain ⟨same, lkcSame⟩ := enterHandoverIn_sameClaim (s := settled (moveTo .online s)) rfl
    exact ⟨online.trans same, lkcSame.trans lkc⟩
  · exact ⟨online, lkc⟩

/-- SYN and the CLAIMs pending after a sample: as the berth bus's change leaves them, a reported close ending the timers. -/
theorem takeSample_claim :
    (SameClaim (seenOf r isNew k s).syn (takeSample r isNew k s).syn ∨
      SameClaim { (seenOf r isNew k s).syn with settle := none, settled := false, claimWait := false, energise := none }
        (takeSample r isNew k s).syn) ∧
    (claims (takeSample r isNew k s).lkc.queue = claims (seenOf r isNew k s).lkc.queue ∨
      claims (takeSample r isNew k s).lkc.queue = claims (seenOf r isNew k s).lkc.dropClaim.queue) := by
  let a := synJudged s.btr.berthState (eventsOf r isNew k s) (trackedOf r isNew k s)
  have judged : SameClaim (seenOf r isNew k s).syn a.syn := synJudged_sameClaim _ _ _
  have syn : (takeSample r isNew k s).syn = (reportClosed a).syn := by
    rw [takeSample_eq, announce_syn, steered_eq, judgeBand_syn, partSeen_sameBut _ _ .syn (by decide)]
  have lkc : claims (takeSample r isNew k s).lkc.queue = claims (reportClosed a).lkc.queue := by
    rw [takeSample_eq, claims_announce, steered_eq, judgeBand_lkc, partSeen_sameBut _ _ .lkc (by decide)]
  have judgedLkc : a.lkc = (seenOf r isNew k s).lkc := synJudged_lkc _ _ _
  rw [syn, lkc, ← judgedLkc]
  by_cases met : reports a
  · obtain ⟨same, dropped⟩ := enterOnline_claim met.2.1
    rw [reportClosed_of met, dropped]
    have ended : SameClaim { (seenOf r isNew k s).syn with settle := none, settled := false, claimWait := false, energise := none }
        { a.syn with settle := none, settled := false, claimWait := false, energise := none } :=
      ⟨judged.claim, rfl, rfl, rfl, rfl⟩
    exact ⟨.inr (ended.trans same), .inr rfl⟩
  · rw [reportClosed_of_not met]
    exact ⟨.inl judged, .inl rfl⟩

/-! ### A change of the berth bus (R104, R105, R108) -/

theorem berthChanged_leaves {old : BusState} {a : State} (was : old = .dead) (alive : a.btr.berthState ≠ .dead) :
    (berthChanged old a).syn.claim = .free ∧ (berthChanged old a).syn.settle = none ∧
      (berthChanged old a).syn.settled = false ∧ (berthChanged old a).syn.claimWait = false ∧
      (berthChanged old a).lkc = a.lkc.dropClaim := by
  simp [berthChanged, was, alive]

theorem berthChanged_falls {old : BusState} {a : State} (was : old ≠ .dead) (dead : a.btr.berthState = .dead)
    (joining : a.ssc.station = .joining) :
    (berthChanged old a).syn.claim = a.syn.claim ∧ (berthChanged old a).syn.settle = some a.now ∧
      (berthChanged old a).syn.settled = false ∧ (berthChanged old a).syn.claimWait = false := by
  simp [berthChanged, was, dead, joining]

theorem berthChanged_neither {old : BusState} {a : State} (same : old = .dead ↔ a.btr.berthState = .dead) :
    (berthChanged old a).syn.claim = a.syn.claim ∧ (berthChanged old a).syn.settle = a.syn.settle ∧
      (berthChanged old a).syn.settled = a.syn.settled ∧ (berthChanged old a).syn.claimWait = a.syn.claimWait := by
  by_cases dead : a.btr.berthState = .dead
  · simp [berthChanged, same.mpr dead, dead]
  · simp [berthChanged, mt same.mp dead, dead]

theorem berthChanged_energise {old : BusState} {a : State} (live : a.btr.berthState = .live) :
    (berthChanged old a).syn.energise = none := if_pos live

/-- What `dropClaim` leaves of CLAIMs is in an attempt (R104). -/
theorem dropClaim_leaves_attempts (l : Lkc) : ∀ e ∈ claims l.dropClaim.queue, e.inAttempt = true := by
  intro e member
  obtain ⟨kept, claim⟩ := List.mem_filter.mp member
  obtain ⟨-, left⟩ := List.mem_filter.mp kept
  simpa [beq_iff_eq.mp claim] using left

theorem trackedOf_berthState (r : Sample) (isNew : Bool) (k : Nat) (s : State) :
    (trackedOf r isNew k s).btr.berthState = (takeSample r isNew k s).btr.berthState := by
  rw [(trackedOf_trackers r isNew k s).berthState, (takeSample_trackers r isNew k s).berthState]

/-- A berth bus that leaves DEAD ends the claim, its timers, and a CLAIM in no attempt (R104). -/
theorem takeSample_of_leaves (was : s.btr.berthState = .dead) (alive : (takeSample r isNew k s).btr.berthState ≠ .dead) :
    ((takeSample r isNew k s).syn.claim = .free ∧ (takeSample r isNew k s).syn.settle = none ∧
      (takeSample r isNew k s).syn.settled = false ∧ (takeSample r isNew k s).syn.claimWait = false) ∧
      ∀ e ∈ (takeSample r isNew k s).lkc.queue, e.frame.kind = .claim → e.inAttempt = true := by
  rw [← trackedOf_berthState] at alive
  obtain ⟨claim, settle, settled, waits, lkc⟩ := berthChanged_leaves was alive
  obtain ⟨syn, pending⟩ := takeSample_claim (r := r) (isNew := isNew) (k := k) (s := s)
  have attempts : ∀ e ∈ claims (takeSample r isNew k s).lkc.queue, e.inAttempt = true := by
    have left : (seenOf r isNew k s).lkc = (trackedOf r isNew k s).lkc.dropClaim := lkc
    rcases pending with same | same
    · rw [same, left]
      exact dropClaim_leaves_attempts _
    · rw [same]
      exact dropClaim_leaves_attempts _
  refine ⟨?_, fun e member kind => attempts e (List.mem_filter.mpr ⟨member, beq_iff_eq.mpr kind⟩)⟩
  rcases syn with same | ended
  · exact ⟨same.claim.trans claim, same.settle.trans settle, same.settled.trans settled, same.claimWait.trans waits⟩
  · exact ⟨ended.claim.trans claim, ended.settle, ended.settled, ended.claimWait⟩

/-- A LIVE bus ends the energise timer (R108). -/
theorem takeSample_of_live (live : (takeSample r isNew k s).btr.berthState = .live) : (takeSample r isNew k s).syn.energise = none := by
  rw [← trackedOf_berthState] at live
  obtain ⟨syn, -⟩ := takeSample_claim (r := r) (isNew := isNew) (k := k) (s := s)
  rcases syn with same | ended
  · exact same.energise.trans (berthChanged_energise live)
  · exact ended.energise

/-- An unmoved station: SYN's claim as the berth bus's change leaves it. -/
theorem takeSample_claim_of_unmoved (stays : (takeSample r isNew k s).ssc.station = s.ssc.station ∨
      (takeSample r isNew k s).ssc.station = .joining) :
    SameClaim (berthChanged s.btr.berthState (trackedOf r isNew k s)).syn (takeSample r isNew k s).syn ∧
      sameBut [.msu, .btr, .emt, .pru] s (trackedOf r isNew k s) ∧ (takeSample r isNew k s).ssc = s.ssc := by
  obtain ⟨same, quiet⟩ := takeSample_unmoved stays
  have tracked : sameBut [.msu, .btr, .emt, .pru] s (trackedOf r isNew k s) :=
    (same.widen (by decide)).then ((trackedOf_sameBut r isNew k s).widen (by decide))
  refine ⟨?_, tracked, ?_⟩
  · rw [takeSample_syn quiet]
    exact synJudged_sameClaim _ _ _
  · rw [takeSample_eq, announce_ssc, steered_sameBut_of_quiet quiet .ssc (by decide), tracked .ssc (by decide)]

/-- A berth bus that falls DEAD in JOINING starts the settle timer (R105). -/
theorem takeSample_of_falls (was : s.btr.berthState ≠ .dead) (dead : (takeSample r isNew k s).btr.berthState = .dead)
    (joining : (takeSample r isNew k s).ssc.station = .joining) :
    (takeSample r isNew k s).syn.settle = some s.now ∧ (takeSample r isNew k s).syn.settled = false ∧
      (takeSample r isNew k s).syn.claimWait = false ∧ (takeSample r isNew k s).syn.claim = s.syn.claim := by
  obtain ⟨same, tracked, ssc⟩ := takeSample_claim_of_unmoved (.inr joining)
  rw [← trackedOf_berthState] at dead
  have station : (trackedOf r isNew k s).ssc.station = .joining := by rw [tracked .ssc (by decide), ← ssc, joining]
  have now : (trackedOf r isNew k s).now = s.now := tracked .clock (by decide)
  obtain ⟨claim, settle, settled, waits⟩ := berthChanged_falls was dead station
  rw [now] at settle
  rw [tracked .syn (by decide)] at claim
  exact ⟨same.settle.trans settle, same.settled.trans settled, same.claimWait.trans waits, same.claim.trans claim⟩

/-- While the berth bus stays DEAD, or not DEAD, claim and settle timer hold. -/
theorem takeSample_of_neither (same : s.btr.berthState = .dead ↔ (takeSample r isNew k s).btr.berthState = .dead)
    (stays : (takeSample r isNew k s).ssc.station = s.ssc.station) :
    (takeSample r isNew k s).syn.claim = s.syn.claim ∧ (takeSample r isNew k s).syn.settle = s.syn.settle ∧
      (takeSample r isNew k s).syn.settled = s.syn.settled ∧ (takeSample r isNew k s).syn.claimWait = s.syn.claimWait := by
  obtain ⟨kept, tracked, -⟩ := takeSample_claim_of_unmoved (.inl stays)
  rw [← trackedOf_berthState] at same
  obtain ⟨claim, settle, settled, waits⟩ := berthChanged_neither same
  rw [tracked .syn (by decide)] at claim settle settled waits
  exact ⟨kept.claim.trans claim, kept.settle.trans settle, kept.settled.trans settled, kept.claimWait.trans waits⟩

/-! ### The out-of-band timer (R17) -/

theorem bandMissed_congr {a b : State} (ssc : b.ssc = a.ssc) (freq : b.btr.berth.freq = a.btr.berth.freq) :
    BandMissed b ↔ BandMissed a := by rw [BandMissed, BandMissed, ssc, freq]

/-- The timer of one judgement, out of band. -/
def bandTimer (oob : Timer) (oobDone : Bool) (now : Nat) : Timer := if oobDone then oob else some (oob.getD now)

theorem bandTimer_again (oob : Timer) (oobDone : Bool) (now : Nat) :
    bandTimer (bandTimer oob oobDone now) oobDone now = bandTimer oob oobDone now := by
  unfold bandTimer
  cases oobDone <;> rfl

theorem judgeBand_of_missed {a : State} (run : a.phase = .run) (missed : BandMissed a) :
    (judgeBand a).btr.oob = bandTimer a.btr.oob a.btr.oobDone a.now ∧ (judgeBand a).btr.oobDone = a.btr.oobDone := by
  have out : (a.phase == .run && a.ssc.station.onBus && outOfBand a) = true := by
    rw [Bool.and_assoc, bandMissed_iff.mpr missed, run]
    rfl
  simp only [judgeBand, bandTimer, out, Bool.true_and, if_true, and_true]
  cases a.btr.oobDone with
  | true => rfl
  | false => cases a.btr.oob <;> rfl

theorem judgeBand_of_inBand {a : State} (missed : ¬ BandMissed a) :
    (judgeBand a).btr.oob = none ∧ (judgeBand a).btr.oobDone = false := by
  have inside : (a.phase == .run && a.ssc.station.onBus && outOfBand a) = false := by
    rw [Bool.and_assoc, Bool.eq_false_iff.mpr (mt bandMissed_iff.mp missed), Bool.and_false]
  simp [judgeBand, inside]

theorem BandMissed.moved {a b : State} (missed : BandMissed a)
    (station : b.ssc.station ∈ [StationState.online, .shipSync, .handoverIn, .supplying, .handoverOut])
    (session : b.ssc.session = a.ssc.session) (freq : b.btr.berth.freq = a.btr.berth.freq) : BandMissed b := by
  obtain ⟨-, band⟩ := missed
  exact ⟨station, by rw [freq, session]; exact band⟩

theorem enterHandoverIn_band {a : State} (run : a.phase = .run) (missed : BandMissed (enterHandoverIn a)) :
    (enterHandoverIn a).btr.oob = bandTimer a.btr.oob a.btr.oobDone a.now ∧ (enterHandoverIn a).btr.oobDone = a.btr.oobDone := by
  let c : State := { moveTo .handoverIn a with hoc := (a.hoc.moved a.ssc.station .handoverIn).enterIn a.msu.p (shipFresh a) a.now }
  have btr : (enterHandoverIn a).btr = (judgeBand c).btr := submitEvent_btr _ _ _
  have ssc : (enterHandoverIn a).ssc = c.ssc := submitEvent_ssc _ _ _
  have missedHere : BandMissed c := (bandMissed_congr ssc (by rw [btr]; rfl)).mp missed
  rw [btr]
  exact judgeBand_of_missed (a := c) run missedHere

/-- A station that a confirmed close takes to the berth bus judges its band anew, once or twice to the same effect (R17). -/
theorem enterOnline_band {a : State} (run : a.phase = .run) (missed : BandMissed (enterOnline a)) :
    (enterOnline a).btr.oob = bandTimer a.btr.oob a.btr.oobDone a.now ∧ (enterOnline a).btr.oobDone = a.btr.oobDone := by
  have online (out : BandMissed (moveTo .online a)) :
      (settled (moveTo .online a)).btr.oob = bandTimer a.btr.oob a.btr.oobDone a.now ∧
        (settled (moveTo .online a)).btr.oobDone = a.btr.oobDone := judgeBand_of_missed (a := moveTo .online a) run out
  by_cases onward : a.ssc.station = .joining ∧ a.sbAux = true
  · have moves : enterOnline a = enterHandoverIn (settled (moveTo .online a)) := if_pos onward
    rw [moves] at missed ⊢
    obtain ⟨timer, reported⟩ := enterHandoverIn_band (a := settled (moveTo .online a)) run missed
    have ssc : (enterHandoverIn (settled (moveTo .online a))).ssc = { a.ssc with station := .handoverIn } :=
      submitEvent_ssc _ _ _
    have freq : a.btr.berth.freq = (enterHandoverIn (settled (moveTo .online a))).btr.berth.freq := by
      rw [enterHandoverIn, submitEvent_btr]
      rfl
    obtain ⟨first, same⟩ := online (missed.moved (b := moveTo .online a) (List.mem_cons_self ..) (by rw [ssc]; rfl) freq)
    rw [first, same] at timer
    exact ⟨timer.trans (bandTimer_again _ _ _), reported.trans same⟩
  · have moves : enterOnline a = settled (moveTo .online a) := if_neg onward
    rw [moves] at missed ⊢
    exact online missed

/-- The out-of-band timer after a sample (R17). -/
theorem takeSample_band (run : s.phase = .run) :
    (BandMissed (takeSample r isNew k s) →
      (takeSample r isNew k s).btr.oob = bandTimer s.btr.oob s.btr.oobDone s.now) ∧
    (¬ BandMissed (takeSample r isNew k s) →
      (takeSample r isNew k s).btr.oob = none ∧ (takeSample r isNew k s).btr.oobDone = false) := by
  let a := synJudged s.btr.berthState (eventsOf r isNew k s) (trackedOf r isNew k s)
  let h := partSeen (eventsOf r isNew k s) (reportClosed a)
  have btr : (takeSample r isNew k s).btr = (judgeBand h).btr := by rw [takeSample_eq, announce_btr, steered_eq]
  have ssc : (takeSample r isNew k s).ssc = h.ssc := by rw [takeSample_eq, announce_ssc, steered_eq, judgeBand_ssc]
  have here : BandMissed (takeSample r isNew k s) ↔ BandMissed h := bandMissed_congr ssc (by rw [btr]; rfl)
  rw [here, btr]
  refine ⟨fun missed => ?_, judgeBand_of_inBand⟩
  have untripped : sameBut [.msu, .emt, .pru] s (metered r isNew s) := by
    rcases metered_stays_or_trips r isNew s with same | ⟨-, tripped⟩
    · exact same
    · obtain ⟨kept, -⟩ := takeSample_of_tripped (k := k) tripped
      obtain ⟨station, -⟩ := here.mpr missed
      rw [kept, tripped] at station
      exact absurd station (by decide)
  have judged : sameBut [.msu, .emt, .pru, .btr, .lkc, .syn] s a :=
    ((untripped.widen (by decide)).then ((trackedOf_sameBut r isNew k s).widen (by decide))).then
      ((synJudged_sameBut _ _ _).widen (by decide))
  have phase : a.phase = .run := (judged .phase (by decide)).trans run
  have now : a.now = s.now := judged .clock (by decide)
  have timers : a.btr.oob = s.btr.oob ∧ a.btr.oobDone = s.btr.oobDone := by
    rw [show a.btr = _ from synJudged_sameBut _ _ _ .btr (by decide), trackedOf_btr, untripped .btr (by decide)]
    exact ⟨rfl, rfl⟩
  obtain ⟨oob, done_⟩ := timers
  have reported : h.btr = (reportClosed a).btr ∧ h.ssc = (reportClosed a).ssc ∧ h.phase = (reportClosed a).phase ∧
      h.now = (reportClosed a).now :=
    ⟨partSeen_sameBut _ _ .btr (by decide), partSeen_sameBut _ _ .ssc (by decide), partSeen_sameBut _ _ .phase (by decide),
      partSeen_sameBut _ _ .clock (by decide)⟩
  obtain ⟨hBtr, hSsc, hPhase, hNow⟩ := reported
  have closedPhase : (reportClosed a).phase = .run := (reportClosed_sameBut a .phase (by decide)).trans phase
  have closedNow : (reportClosed a).now = s.now := (reportClosed_sameBut a .clock (by decide)).trans now
  have before := (judgeBand_of_missed (hPhase.trans closedPhase) missed).1
  rw [before, hBtr, hNow, closedNow]
  by_cases met : reports a
  · rw [reportClosed_of met] at hBtr hSsc ⊢
    obtain ⟨first, same⟩ := enterOnline_band phase ((bandMissed_congr hSsc (by rw [hBtr])).mp missed)
    rw [first, same, now, oob, done_, bandTimer_again]
  · rw [reportClosed_of_not met, oob, done_]

end

/-! ### What the obligation says of a pair of trackers, and of a cycle -/

theorem phaseAfter_says {a b : Tracker} {first second : Bool} {old new : Option Int}
    (is : new = phaseAfter a b b (first || second) old) :
    (a.freq = none ∨ b.freq = none → new = none) ∧
      ∀ f g, a.freq = some f → b.freq = some g →
        (first = false → second = false → new = old) ∧
          (first = true ∨ second = true → ∀ ta tb period, a.tLast = some ta → b.tLast = some tb →
            b.periods.getLast? = some period → new = some (phaseBetween ta tb period)) := by
  subst is
  refine ⟨phaseAfter_of_invalid, fun f g known second_ => ?_⟩
  rw [phaseAfter_of_valid known second_]
  refine ⟨?_, fun crossed ta tb period atA atB newest => ?_⟩
  · rintro rfl rfl
    rfl
  · rw [if_pos (by simpa using crossed), atA, atB, newest]
    rfl

theorem fills_iff (c : CycleSum) : c.fills = true ↔ 320 ≤ c.n + 1 := decide_eq_true_iff

theorem fills_of_short {c : CycleSum} (short : c.n + 1 < 320) : c.fills = false := by
  rw [Bool.eq_false_iff, ne_eq, fills_iff]
  omega

theorem closes_of {old : Tracker} {v : Int} {k : Nat} {c : CycleSum}
    (at_ : (old.crossing v k).isSome = true ∨ 320 ≤ c.n + 1) : ((old.crossing v k).isSome || c.fills) = true := by
  rw [Bool.or_eq_true, fills_iff]
  exact at_

/-- A tracker between its closes, and at a close without a crossing (R14). -/
theorem sampled_says {old new : Tracker} {v : Int} {k : Nat} {c : CycleSum} (is : new = old.sampled v k c.fills)
    (quiet : (old.crossing v k).isSome = false) :
    (c.n + 1 < 320 → new.periods = old.periods ∧ new.tLast = old.tLast ∧ new.freq = old.freq) ∧
      (320 ≤ c.n + 1 → new.periods = [] ∧ new.tLast = none ∧ new.freq = none) := by
  subst is
  obtain ⟨holds, empties⟩ := sampled_of_quiet old v k c.fills quiet
  exact ⟨fun short => holds (fills_of_short short), fun full => empties ((fills_iff c).mpr full)⟩

/-- A crossing accepted is that of R14, whether or not the cycle holds 320 samples. -/
theorem sampled_crossedAt {old new : Tracker} {v : Int} {k : Nat} {window : Bool} (is : new = old.sampled v k window) {time : Int}
    (crossed : old.crossing v k = some time) : Tracker.CrossedAt time old new := by
  rw [is, sampled_of_crossing old v k window crossed]
  exact observe_crossedAt crossed

/-- A bus's voltage, sums and state at a close and between closes (R9, R11, R15). -/
theorem busClose_says {old new : Tracker} {v volts was : Int} {k : Nat} {c after : CycleSum} {bus before : BusState}
    (value : volts = if (old.crossing v k).isSome || c.fills then voltageOf (c.add v) else was)
    (sums : after = if (old.crossing v k).isSome || c.fills then .empty else c.add v)
    (state : bus = if (old.crossing v k).isSome || c.fills then busStateOf volts new.freq else before) :
    ((old.crossing v k).isSome = true ∨ 320 ≤ c.n + 1 →
      volts = voltageOf (c.add v) ∧ after = { v2 := 0, n := 0 } ∧ (volts < 100 → bus = .dead) ∧
        (100 ≤ volts →
          ((850 ≤ volts ∧ ∃ f, new.freq = some f ∧ 45000 ≤ f ∧ f ≤ 65000) → bus = .live) ∧
            (¬ (850 ≤ volts ∧ ∃ f, new.freq = some f ∧ 45000 ≤ f ∧ f ≤ 65000) → bus = .abnormal))) ∧
    ((old.crossing v k).isSome = false → c.n + 1 < 320 → volts = was ∧ after = c.add v ∧ bus = before) := by
  constructor
  · intro at_
    rw [closes_of at_, if_pos rfl] at value sums state
    rw [state]
    exact ⟨value, sums, busStateOf_says volts new.freq⟩
  · intro quiet short
    rw [quiet, fills_of_short short, Bool.or_false, if_neg Bool.false_ne_true] at value sums state
    exact ⟨value, sums, state⟩

/-! ### The obligation's clauses of one sample -/

section
variable {s : State} {c : Instr} {x : Sample} {k : Nat}

/-- Both causes hand a sample on: a good record's, or the last good one again (R4). -/
theorem exec_sampled (run : s.phase = .run) (open_ : unsettled s = true) (index : s.spt.index = some k)
    (cause : (∃ r : List Byte, c = .recordComplete r ∧ x = sampleOf r ∧ r.length = 25 ∧ r.head? = some 0xA6#8 ∧
        crc8 (r.take 24) = r.getD 24 0 ∧ (s.spt.expected = none ∨ s.spt.expected = some (r.getD 1 0))) ∨
      ∃ b : Byte, c = .startMarkerWrong b ∧ b ≠ 0xFF#8 ∧ b ≠ 0xA6#8 ∧ s.spt.lastGood = some x ∧ s.spt.runCount ≠ 2) :
    ∃ (p : Spt) (isNew : Bool), exec c s = .next (takeSample x isNew k { s with spt := p }) := by
  rcases cause with ⟨r, rfl, rfl, length, marker, crc, sequence⟩ | ⟨b, rfl, ready, wrong, last, away⟩
  · exact ⟨_, true, exec_newSample run open_ index length marker crc sequence⟩
  · exact ⟨_, false, exec_repeatedSample run open_ index ready wrong last away⟩

/-- The part timer at a module close in HANDOVER_OUT, and between closes (R138). -/
theorem handoverOut_says {isNew : Bool} (out : s.ssc.station = .handoverOut)
    (still : (takeSample x isNew k s).ssc.station = .handoverOut) :
    ((s.btr.module.crossing x.vmAb.toInt k).isSome = true ∨ 320 ≤ s.msu.sumM.n + 1 →
      ((takeSample x isNew k s).msu.p ≤ s.params.partReady → (takeSample x isNew k s).hoc =
        { s.hoc with part := if s.hoc.part = none then some s.now else s.hoc.part }) ∧
      (s.params.partReady < (takeSample x isNew k s).msu.p → (takeSample x isNew k s).hoc =
        { s.hoc with part := none, ready := s.hoc.ready && s.hoc.sbtLow })) ∧
    ((s.btr.module.crossing x.vmAb.toInt k).isSome = false → s.msu.sumM.n + 1 < 320 → (takeSample x isNew k s).hoc = s.hoc) := by
  have hoc := takeSample_hoc_of_handoverOut out still
  rw [(eventsOf_close x isNew k s).1] at hoc
  constructor
  · intro at_
    rw [closes_of at_, if_pos rfl] at hoc
    rw [hoc]
    refine ⟨fun low => (if_pos low).trans ?_, fun high => if_neg (by omega)⟩
    cases s.hoc.part <;> rfl
  · intro quiet short
    rwa [quiet, fills_of_short short, Bool.or_false, if_neg Bool.false_ne_true] at hoc

/-- The module output's values at a close and between closes (R9 to R11). -/
theorem moduleClose_says {isNew : Bool} :
    ((s.btr.module.crossing x.vmAb.toInt k).isSome = true ∨ 320 ≤ s.msu.sumM.n + 1 →
      (takeSample x isNew k s).msu.p = activePower (s.msu.sumP + activeProduct x) (s.msu.sumM.add x.vmAb.toInt).n ∧
        (takeSample x isNew k s).msu.q = reactivePower (s.msu.sumQ + reactiveProduct x) (s.msu.sumM.add x.vmAb.toInt).n ∧
        (takeSample x isNew k s).msu.vM = voltageOf (s.msu.sumM.add x.vmAb.toInt) ∧ (takeSample x isNew k s).msu.sumP = 0 ∧
        (takeSample x isNew k s).msu.sumQ = 0 ∧ (takeSample x isNew k s).msu.sumM = .empty) ∧
    ((s.btr.module.crossing x.vmAb.toInt k).isSome = false → s.msu.sumM.n + 1 < 320 →
      (takeSample x isNew k s).msu.p = s.msu.p ∧ (takeSample x isNew k s).msu.q = s.msu.q ∧
        (takeSample x isNew k s).msu.vM = s.msu.vM ∧ (takeSample x isNew k s).msu.sumP = s.msu.sumP + activeProduct x ∧
        (takeSample x isNew k s).msu.sumQ = s.msu.sumQ + reactiveProduct x ∧
        (takeSample x isNew k s).msu.sumM = s.msu.sumM.add x.vmAb.toInt) := by
  obtain ⟨closed, held⟩ := takeSample_moduleValues x isNew k s
  rw [(eventsOf_close x isNew k s).1] at closed held
  exact ⟨fun at_ => closed (closes_of at_), fun quiet short => held (by rw [quiet, fills_of_short short]; rfl)⟩

end

/-- Settles O16: the trackers' arithmetic, then one sample by its trackers, closes, and the timers that follow them. -/
theorem trackersTimeCrossingsAndPhases : Obligations.TrackersTimeCrossingsAndPhases := by
  unfold Obligations.TrackersTimeCrossingsAndPhases
  refine ⟨fun t v p k j prev => ⟨?_, fun below above armed => ?_, fun unmet => ?_⟩, fun t v k first => ?_,
    fun periods positive => ⟨fun other => if_neg other, frequencyOf_rounds positive⟩, fun ta tb period _ => wrapPhase_bounds _, ?_⟩
  · cases crossed : t.crossing v k with
    | some time => rw [observe_of_crossing crossed]
    | none => rw [observe_of_none crossed]
  · obtain ⟨time, crossed, early, late, upper, lower⟩ := crossing_interpolates (k := k) prev below above armed
    exact ⟨time, crossed, early, late, upper, lower, by rw [observe_of_crossing crossed], observe_crossedAt crossed⟩
  · have quiet := crossing_of_not (k := k) prev unmet
    rw [observe_of_none quiet]
    exact ⟨quiet, rfl, rfl, rfl⟩
  · have quiet : t.crossing v k = none := by simp only [Tracker.crossing, first]
    exact ⟨quiet, observe_of_none quiet⟩
  intro s c x k run open_ index cause
  obtain ⟨p, isNew, runs⟩ := exec_sampled run open_ index cause
  let u : State := { s with spt := p }
  refine ⟨_, runs, ?_⟩
  obtain ⟨⟨module, berth, ship⟩, berthState, shipState⟩ := takeSample_btr x isNew k u
  obtain ⟨dphiShip, dphiJoin, slip⟩ := takeSample_phases x isNew k u
  obtain ⟨⟨vB, sumB⟩, vS, sumS⟩ := takeSample_busValues x isNew k u
  obtain ⟨modulePrev, moduleArmed⟩ := sampled_prev u.btr.module x.vmAb.toInt k u.msu.sumM.fills
  obtain ⟨berthPrev, berthArmed⟩ := sampled_prev u.btr.berth x.vbAb.toInt k u.msu.sumB.fills
  obtain ⟨shipPrev, shipArmed⟩ := sampled_prev u.btr.ship x.vsAb.toInt k u.msu.sumS.fills
  rw [← module] at modulePrev moduleArmed
  rw [← berth] at berthPrev berthArmed
  rw [← ship] at shipPrev shipArmed
  obtain ⟨shipInvalid, shipPhase⟩ := phaseAfter_says dphiShip
  obtain ⟨joinInvalid, joinPhase⟩ := phaseAfter_says dphiJoin
  obtain ⟨moduleClosed, moduleHeld⟩ := moduleClose_says (s := u) (x := x) (k := k) (isNew := isNew)
  obtain ⟨berthClosed, berthHeld⟩ := busClose_says vB sumB berthState
  obtain ⟨shipClosed, shipHeld⟩ := busClose_says vS sumS shipState
  obtain ⟨missed, inBand⟩ := takeSample_band (s := u) (r := x) (isNew := isNew) (k := k) run
  refine ⟨modulePrev, berthPrev, shipPrev, moduleArmed, berthArmed, shipArmed, fun _ => sampled_crossedAt module,
    fun _ => sampled_crossedAt berth, fun _ => sampled_crossedAt ship,
    fun invalid => ⟨shipInvalid invalid, slip.trans (slipOf_of_invalid invalid)⟩, joinInvalid,
    fun f g atBerth atShip => ⟨?_, shipPhase f g atBerth atShip⟩, joinPhase, moduleClosed, fun quiet short => ?_,
    fun quiet => (sampled_says module quiet).2, berthClosed, fun quiet short => ?_, fun quiet => (sampled_says berth quiet).2,
    shipClosed, fun quiet short => ?_, fun quiet => (sampled_says ship quiet).2, missed, inBand,
    handoverOut_says (s := u), fun was alive => ?_, takeSample_of_falls (s := u), takeSample_of_live (s := u),
    takeSample_of_neither (s := u)⟩
  · rw [slip, atBerth, atShip]
    rfl
  · obtain ⟨pSame, qSame, vSame, sumP, sumQ, sumM⟩ := moduleHeld quiet short
    obtain ⟨periods, tLast, freq⟩ := (sampled_says module quiet).1 short
    exact ⟨pSame, qSame, vSame, sumP, sumQ, sumM, periods, tLast, freq⟩
  · obtain ⟨value, sums, state⟩ := berthHeld quiet short
    exact ⟨value, sums, state, (sampled_says berth quiet).1 short⟩
  · obtain ⟨value, sums, state⟩ := shipHeld quiet short
    exact ⟨value, sums, state, (sampled_says ship quiet).1 short⟩
  · obtain ⟨⟨claim, settle, settled, waits⟩, attempts⟩ := takeSample_of_leaves (s := u) was alive
    exact ⟨claim, settle, settled, waits, attempts⟩

end Sys2Proof.Machine
end
